-- ==== Sys2Proof/Word.lean ====
section
/-! DEFINITION. Bytes and words of the wire, and tables of a fixed number of entries.

A table `Tab α n` is a list of exactly n entries indexed by `Fin n`: eight gauge channels, 48 lamps, 26 event
kinds, 24 frame bytes. It is plain data that the kernel evaluates by structural recursion. -/
namespace Sys2Proof

/-- One byte of a frame (R193). -/
abbrev Byte := BitVec 8

/-- A fixed number of entries, indexed from 0. -/
structure Tab (α : Type) (n : Nat) where
  /-- The entries, first to last. -/
  val : List α
  /-- There are exactly n of them. -/
  len : val.length = n
deriving DecidableEq, Repr

namespace Tab

variable {α β : Type} {n : Nat}

/-- The entry at index i. -/
def get (t : Tab α n) (i : Fin n) : α := t.val.get (i.cast t.len.symm)

/-- The table with the entry at index i replaced. -/
def set (t : Tab α n) (i : Fin n) (a : α) : Tab α n := ⟨t.val.set i a, by simp [t.len]⟩

/-- The table with the entry at index i passed through f. -/
def modify (t : Tab α n) (i : Fin n) (f : α → α) : Tab α n := t.set i (f (t.get i))

/-- The table whose entry at index i is f i. -/
def ofFn (f : Fin n → α) : Tab α n := ⟨List.ofFn f, by simp⟩

/-- Every entry passed through f, which is told its index. -/
def mapIdx (t : Tab α n) (f : Fin n → α → β) : Tab β n := ofFn fun i => f i (t.get i)

/-- Every entry passed through f. -/
def map (t : Tab α n) (f : α → β) : Tab β n := ⟨t.val.map f, by simp [t.len]⟩

/-- The table of n equal entries. -/
def fill (a : α) : Tab α n := ⟨List.replicate n a, by simp⟩

/-- The first n entries of a list, filled up with a where the list is shorter. -/
def ofList (a : α) (l : List α) : Tab α n :=
  ⟨(l ++ List.replicate n a).take n, by simp⟩

/-- The indices, in rising order, whose entries satisfy p. -/
def indices (t : Tab α n) (p : α → Bool) : List (Fin n) := (List.finRange n).filter fun i => p (t.get i)

/-- Whether some entry satisfies p. -/
def any (t : Tab α n) (p : α → Bool) : Bool := t.val.any p

/-- Whether every entry satisfies p. -/
def all (t : Tab α n) (p : α → Bool) : Bool := t.val.all p

end Tab

end Sys2Proof
end

