-- ==== Sys2Proof/Config.lean ====
section
/-! DEFINITION. The constants an implementation fixes, and the free values: what the spec leaves open. -/
namespace Sys2Proof.Config

/-- DESIGN CHOICE (log 4, safe). The orders the spec leaves open: the outcome of the n-th free choice the machine makes.
It has no body, so nothing can be proved of its values. -/
opaque freeChoice : Nat → Nat

/-- DESIGN CHOICE (log 30, safe). R166 gives a data output no bits in a chip select low period that is not a frame. The bit
it then drives is a free value: of the port's number, of the choices made before and of the bits clocked in so far. It has
no body, so nothing can be proved of it. -/
opaque strayBit : Nat → Nat → Nat → Bool

/-- R177: the identity code READ_STATUS returns. -/
def identity : Nat := 0x0440

/-- R177: the revision READ_STATUS returns. -/
def revision : Nat := 1

/-- R117: the link supervision period in ms. -/
def linkPeriod : Nat := 2500

/-- R127: the status cadence in ms. -/
def cadencePeriod : Nat := 1000

/-- R116: a longer pause between characters than this, in ms, discards the frame in assembly. -/
def characterGap : Nat := 5

/-- R78, R185: the length of INTERNAL's share of the hold and of the self-check, in ms. -/
def selfCheckPeriod : Nat := 3000

/-- R79: the length of PORT_S's share of the hold, in ms. -/
def portSHoldPeriod : Nat := 5000

/-- R89: the pause after every chime, in ms. -/
def chimeGap : Nat := 100

/-- R152: the life of an adopted basis, in ms. -/
def basisPeriod : Nat := 150000

/-- R189: the supply wait, in ms. -/
def supplyWaitPeriod : Nat := 20

/-- R190: the reset hold, in ms. -/
def resetHold : Nat := 20

/-- R107: how long edges must hold for a recovery, in ms. -/
def recoveryPeriod : Nat := 100

/-- R98: crystal cycles in one second. -/
def prescalerPeriod : Nat := 32768

/-- R16: ms from one filter update to the next. -/
def filterPeriod : Nat := 20

/-- R26: ms from one motion interval to the next. -/
def motionPeriod : Nat := 2

/-- R31: the full-scale coil current in mA. -/
def fullScale : Nat := 25

/-- R34: microsteps of homing overdrive beyond full scale. -/
def homingMargin : Nat := 120

/-- R157: a sample above this many mV reads high. -/
def inputHigh : Int := 8000

/-- R157: a sample below this many mV reads low. -/
def inputLow : Int := 4000

/-- R190: a VDD5 below this many mV is a power-on cause. -/
def powerOnBelow : Nat := 4300

/-- R190: a power-on cause ends when VDD5 rises above this many mV. -/
def powerOnAbove : Nat := 4400

/-- R190: a pulse on RST_N shorter than this many ns is ignored. -/
def pinPulse : Nat := 1000

/-- R189: in NORMAL a measurement below this many mV counts toward LOW. -/
def supplyLowBelow : Nat := 16000

/-- R189: in LOW a measurement above this many mV counts toward NORMAL. -/
def supplyNormalAbove : Nat := 17000

/-- R175, R176: the vehicle speed value from which the config window stays shut. -/
def windowSpeed : Nat := 100

/-- R90: the vehicle speed value from which the standing tone may sound. -/
def toneSpeed : Nat := 500

end Sys2Proof.Config
end

