-- ==== Sys2Proof/Syntax.lean ====
section
/-! DEFINITION. The commands the HC440 takes: one constructor for each row of spec/opcode_table.json.

A port command carries the port it came from and the argument bytes that R194 gives it, as the bytes hold them; its
rule judges them. A recorder command carries the payload fields of R195. The other commands are the events of the
part's timers, of its crystal, of its input leads and of its reset causes. -/
namespace Sys2Proof

/-- The two SPI slave ports (00 section 2). -/
inductive Port
  | d   -- Port D, the display processor
  | s   -- Port S, the safety processor
deriving DecidableEq, Repr

/-- The two driver slots (00 section 5). -/
inductive Slot
  | one
  | two
deriving DecidableEq, Repr

/-- One curve point as LOAD_CURVE carries it: x then a (R194). -/
structure PointArg where
  x : BitVec 16
  a : BitVec 16
deriving DecidableEq, Repr

/-- One pair of WRITE_LAMPS: a lamp and a state code (R57). -/
structure LampPair where
  lamp : Byte
  code : Byte
deriving DecidableEq, Repr

/-- The arguments of SET_CHANNEL (R21, R194). enabled and sweep_test are bit 0 of their bytes (R193). -/
structure ChannelArgs where
  channel : Byte
  enabled : Bool
  sweepLimit : BitVec 16
  vmax : Byte
  filterShift : Byte
  sourceCount : Byte
  first : Byte
  second : Byte
  faultLamp : Byte
  sweepTest : Bool
deriving DecidableEq, Repr

/-- A date and time as SET_TIME and the TIME frame carry it (R194, R195). -/
structure TimeArgs where
  year : Byte
  month : Byte
  day : Byte
  hour : Byte
  minute : Byte
  second : Byte
deriving DecidableEq, Repr

/-- The arguments of SET_INPUT (R163, R194). -/
structure InputArgs where
  input : Byte
  function : Byte
  target : Byte
  lampState : Byte
  polarity : Byte
  debounce : Byte
  edge : Byte
deriving DecidableEq, Repr

/-- One slot's byte of an ACTIVITY frame (R123, R195). -/
structure ActivityArg where
  activity : BitVec 3
  crew : Bool
  card : Bool
deriving DecidableEq, Repr

/-- One slot's fifteen bytes of a SUMMARY frame (R123, R195). -/
structure SummaryArg where
  asOf : BitVec 32
  continuous : BitVec 16
  daily : BitVec 16
  restRun : BitVec 16
  card : Bool
  firstPart : Bool
  runQualified : Bool
  contLimit : BitVec 16
  dailyLimit : BitVec 16
deriving DecidableEq, Repr

/-- The commands, in the order of spec/opcode_table.json. -/
inductive Instr
  /-- NOP, code 00h (R170). -/
  | nop (p : Port)
  /-- UNKNOWN_COMMAND: a taken frame with a code the part does not know (R170). -/
  | unknownCommand (p : Port) (code : Byte)
  /-- BAD_FRAME: a frame that is not taken (R167, R168). -/
  | badFrame (p : Port)
  /-- READ_STATUS, code 01h (R177). -/
  | readStatus (p : Port)
  /-- CLEAR_RESET_CAUSE, code 02h (R177). -/
  | clearResetCause (p : Port)
  /-- FETCH_EVENT, code 03h (R182). -/
  | fetchEvent (p : Port)
  /-- SET_EVENT_LEVEL, code 04h (R181). -/
  | setEventLevel (p : Port) (kind level : Byte)
  /-- OPEN_CONFIG, code 05h (R175). -/
  | openConfig (p : Port)
  /-- CLOSE_CONFIG, code 06h (R176). -/
  | closeConfig (p : Port)
  /-- SET_SUPERVISION, code 07h (R174): the two periods in 10 ms. -/
  | setSupervision (p : Port) (periodD periodS : Byte)
  /-- RESET_PART, code 08h (R178). -/
  | resetPart (p : Port)
  /-- SET_VALUE, code 10h (R19). -/
  | setValue (p : Port) (channel : Byte) (value : BitVec 16)
  /-- READ_CHANNEL, code 11h (R20). -/
  | readChannel (p : Port) (channel part : Byte)
  /-- SET_CHANNEL, code 12h (R21, R22). -/
  | setChannel (p : Port) (args : ChannelArgs)
  /-- LOAD_CURVE, code 13h, with a part field other than 1: part 0, or a part that R23 refuses (log 12). -/
  | loadCurvePart0 (p : Port) (channel part : BitVec 4) (n : Byte) (points : Tab PointArg 5)
  /-- LOAD_CURVE, code 13h, with part field 1 (R24). -/
  | loadCurvePart1 (p : Port) (channel : BitVec 4) (points : Tab PointArg 4)
  /-- WRITE_LAMPS, code 20h (R57, R58); only the counted pairs are read. -/
  | writeLamps (p : Port) (count : Byte) (pairs : Tab LampPair 8)
  /-- SET_LAMP_CONFIG, code 23h (R59). -/
  | setLampConfig (p : Port) (lamp cls lossD lossS lossR : Byte)
  /-- READ_LAMPS, code 21h (R82). -/
  | readLamps (p : Port) (start : Byte)
  /-- SET_DIMMING, code 22h (R72). -/
  | setDimming (p : Port) (level : Byte)
  /-- SET_SAFETY_FLOOR, code 24h (R73). -/
  | setSafetyFloor (p : Port) (floor : Byte)
  /-- LAMP_TEST, code 25h, with an action other than 0: a request, or an action that R79 refuses (log 12). -/
  | lampTestRequest (p : Port) (action : Byte)
  /-- LAMP_TEST, code 25h, with action 0 (R80). -/
  | lampTestRelease (p : Port)
  /-- REQUEST_CHIME, code 30h (R93). -/
  | requestChime (p : Port) (sound priority : Byte)
  /-- CANCEL_CHIMES, code 31h (R94). -/
  | cancelChimes (p : Port)
  /-- READ_VEHICLE, code 40h (R126). -/
  | readVehicle (p : Port)
  /-- READ_DRIVER, code 41h (R153). -/
  | readDriver (p : Port) (slot part : Byte)
  /-- READ_HISTORY, code 42h (R154). -/
  | readHistory (p : Port) (slot start : Byte)
  /-- SET_DRIVE_WARNING, code 43h (R155). -/
  | setDriveWarning (p : Port) (lead : Byte)
  /-- READ_TIME, code 50h (R112). -/
  | readTime (p : Port)
  /-- SET_TIME, code 51h (R106). -/
  | setTime (p : Port) (time : TimeArgs)
  /-- SET_LOCAL_OFFSET, code 52h (R111): q in two's complement (R193). -/
  | setLocalOffset (p : Port) (q : Byte)
  /-- SET_TICK, code 53h (R103). -/
  | setTick (p : Port) (period : Byte)
  /-- SET_INPUT, code 60h (R163, R164). -/
  | setInput (p : Port) (args : InputArgs)
  /-- READ_INPUTS, code 61h (R165). -/
  | readInputs (p : Port)
  /-- SUPERVISION_TIMER_EXPIRY of a port (R171). -/
  | supervisionTimerExpiry (p : Port)
  /-- SPEED_FRAME, TYPE 01h (R120, R121). -/
  | speedFrame (speed : BitVec 16) (overspeed motion : Bool)
  /-- TIME_FRAME, TYPE 02h (R122). -/
  | timeFrame (time : TimeArgs) (valid : Bool)
  /-- ACTIVITY_FRAME, TYPE 03h (R123, R132 to R134). -/
  | activityFrame (slot1 slot2 : ActivityArg)
  /-- SUMMARY_FRAME, TYPE 04h (R123, R148). -/
  | summaryFrame (slot1 slot2 : SummaryArg)
  /-- DISTANCE_FRAME, TYPE 05h (R124). -/
  | distanceFrame (odometer trip : BitVec 32)
  /-- NOTICE_FRAME, TYPE 06h (R124). -/
  | noticeFrame (level code : Byte)
  /-- RECORDER_FRAME_DISCARDED (R116): the character that caused it, and whether it had a framing error. -/
  | recorderFrameDiscarded (char : Byte) (framingError : Bool)
  /-- GAP_TIMEOUT (R116). -/
  | gapTimeout
  /-- LINK_SUPERVISION_EXPIRY (R118). -/
  | linkSupervisionExpiry
  /-- STATUS_CADENCE (R127). -/
  | statusCadence
  /-- TRANSMIT_COMPLETE (R128). -/
  | transmitComplete
  /-- FILTER_UPDATE (R16). -/
  | filterUpdate
  /-- MOTION_INTERVAL (R26). -/
  | motionInterval
  /-- SCAN_FRAME_START (R67). -/
  | scanFrameStart
  /-- ROW_SLOT_END (R74): whether each column's current is at or above its threshold. -/
  | rowSlotEnd (draws : Tab Bool 8)
  /-- INTERNAL_TIMER_EXPIRY (R78). -/
  | internalTimerExpiry
  /-- PORT_S_TIMER_EXPIRY (R80). -/
  | portSTimerExpiry
  /-- CHIME_END (R89). -/
  | chimeEnd
  /-- GAP_END (R89). -/
  | gapEnd
  /-- SECOND_ADVANCE (R98). -/
  | secondAdvance
  /-- OSCILLATOR_STOP (R108). -/
  | oscillatorStop
  /-- OSCILLATOR_EDGE_RETURN (R107). -/
  | oscillatorEdgeReturn
  /-- RECOVERY_ABANDONED (R107). -/
  | recoveryAbandoned
  /-- OSCILLATOR_RECOVERY (R109). -/
  | oscillatorRecovery
  /-- BASIS_TIMER_EXPIRY of a driver record (R152). -/
  | basisTimerExpiry (slot : Slot)
  /-- DEBOUNCE_COMPLETE of an input (R158). -/
  | debounceComplete (input : Fin 12)
  /-- SELF_CHECK_TIMER_EXPIRY (R186). -/
  | selfCheckTimerExpiry
  /-- SUPPLY_LOW_ENTERED (R189). -/
  | supplyLowEntered
  /-- SUPPLY_LOW_LEFT (R189). -/
  | supplyLowLeft
  /-- POWER_ON_RESET (R190). -/
  | powerOnReset
  /-- PIN_RESET (R190). -/
  | pinReset
  /-- RESET_CAUSE_END (R190): the last reset cause ends. -/
  | resetCauseEnd
  /-- RESET_HOLD_END (R192). -/
  | resetHoldEnd
  /-- CHARACTER_RECEIVED (R115): the character, and whether it had a framing error (R114). -/
  | characterReceived (char : Byte) (framingError : Bool)
  /-- INPUT_SAMPLE (R157): the voltage of each input lead in mV (log 14). -/
  | inputSample (millivolts : Tab Int 12)
  /-- VBS_MEASUREMENT (R189): the battery voltage in mV (log 14). -/
  | vbsMeasurement (millivolts : Nat)
deriving DecidableEq, Repr

end Sys2Proof
end

