-- ==== Sys2Proof/WellFormed.lean ====
section
/-! DEFINITION. Which terms of Instr are commands that can reach the part.

The operand types already bound every field to the width the wire gives it. What is left to check: a row that stands for
one part of a command's codes must carry such a code, and a voltage must lie in the range 00 section 9 gives its lead. -/
namespace Sys2Proof

/-- The command codes the part knows, each from its own rule; LOAD_CURVE and LAMP_TEST have one code for two rows. -/
def knownCodes : List Byte :=
  [0x00, 0x01, 0x02, 0x03, 0x04, 0x05, 0x06, 0x07, 0x08, 0x10, 0x11, 0x12, 0x13, 0x20, 0x21, 0x22, 0x23, 0x24, 0x25,
   0x30, 0x31, 0x40, 0x41, 0x42, 0x43, 0x50, 0x51, 0x52, 0x53, 0x60, 0x61]

/-- Whether a command is well formed. -/
def Instr.wellFormed : Instr → Bool
  | .unknownCommand _ code => !knownCodes.contains code
  | .loadCurvePart0 _ _ part _ _ => part ≠ 1
  | .lampTestRequest _ action => action ≠ 0
  | .inputSample mv => mv.all fun v => decide (-1000 ≤ v) && decide (v ≤ 40000)
  | .vbsMeasurement mv => mv ≤ 40000
  | .nop _ | .badFrame _ | .readStatus _ | .clearResetCause _ | .fetchEvent _ | .setEventLevel _ _ _ | .openConfig _
  | .closeConfig _ | .setSupervision _ _ _ | .resetPart _ | .setValue _ _ _ | .readChannel _ _ _ | .setChannel _ _
  | .loadCurvePart1 _ _ _ | .writeLamps _ _ _ | .setLampConfig _ _ _ _ _ _ | .readLamps _ _ | .setDimming _ _
  | .setSafetyFloor _ _ | .lampTestRelease _ | .requestChime _ _ _ | .cancelChimes _ | .readVehicle _
  | .readDriver _ _ _ | .readHistory _ _ _ | .setDriveWarning _ _ | .readTime _ | .setTime _ _ | .setLocalOffset _ _
  | .setTick _ _ | .setInput _ _ | .readInputs _ | .supervisionTimerExpiry _ | .speedFrame _ _ _ | .timeFrame _ _
  | .activityFrame _ _ | .summaryFrame _ _ | .distanceFrame _ _ | .noticeFrame _ _ | .recorderFrameDiscarded _ _
  | .gapTimeout | .linkSupervisionExpiry | .statusCadence | .transmitComplete | .filterUpdate | .motionInterval
  | .scanFrameStart | .rowSlotEnd _ | .internalTimerExpiry | .portSTimerExpiry | .chimeEnd | .gapEnd | .secondAdvance
  | .oscillatorStop | .oscillatorEdgeReturn | .recoveryAbandoned | .oscillatorRecovery | .basisTimerExpiry _
  | .debounceComplete _ | .selfCheckTimerExpiry | .supplyLowEntered | .supplyLowLeft | .powerOnReset | .pinReset
  | .resetCauseEnd | .resetHoldEnd | .characterReceived _ _ => true

end Sys2Proof
end

