-- ==== Sys2Proof/Decode.lean ====
section
/-! DEFINITION. The wire forms: CRC-8 (R3), port request frames (R166, R167, R193, R194) and recorder frames (R114, R115,
R195), each read into a command and written from one.

The opcode table gives no bits for any row, so `decodeTableWord` spells no command. -/
namespace Sys2Proof

/-! ### Bytes and words -/

/-- Byte i of a frame; a byte the frame does not have reads 0. -/
def byteAt (f : List Byte) (i : Nat) : Byte := f.getD i 0

/-- The more significant byte of a 16-bit quantity. -/
def hiByte (w : BitVec 16) : Byte := w.extractLsb' 8 8

/-- The less significant byte of a 16-bit quantity. -/
def loByte (w : BitVec 16) : Byte := w.extractLsb' 0 8

/-- R193: two bytes, most significant first, as one quantity. -/
def joinBytes (hi lo : Byte) : BitVec 16 := hi ++ lo

/-- R193: the 16-bit quantity whose first byte is byte i of a frame. -/
def wordAt (f : List Byte) (i : Nat) : BitVec 16 := joinBytes (byteAt f i) (byteAt f (i + 1))

/-- R193: a 16-bit quantity as its two bytes. -/
def wordBytes (w : BitVec 16) : List Byte := [hiByte w, loByte w]

/-- R193: the 32-bit quantity whose first byte is byte i of a frame. -/
def longAt (f : List Byte) (i : Nat) : BitVec 32 := wordAt f i ++ wordAt f (i + 2)

/-- R193: a 32-bit quantity as its four bytes. -/
def longBytes (w : BitVec 32) : List Byte :=
  wordBytes (w.extractLsb' 16 16) ++ wordBytes (w.extractLsb' 0 16)

/-- A byte whose bits, from bit 0 up, are as listed; bits not listed are 0 (R193). -/
def flagByte : List Bool → Byte
  | [] => 0
  | b :: rest => (flagByte rest <<< 1) ||| (if b then 1 else 0)

/-- A list of exactly n bytes: the first n, filled up with zeros. -/
def padTo (n : Nat) (l : List Byte) : List Byte := (l ++ List.replicate n 0).take n

/-! ### CRC-8 (R3) -/

/-- One bit of the division by x⁸ + x² + x + 1. -/
def crcBit (c : Byte) : Byte := if c.msb then (c <<< 1) ^^^ 0x07 else c <<< 1

/-- One byte taken into the CRC, most significant bit first. -/
def crcByte (c b : Byte) : Byte :=
  crcBit (crcBit (crcBit (crcBit (crcBit (crcBit (crcBit (crcBit (c ^^^ b))))))))

/-- R3: the CRC-8 of a list of bytes: initial value 0, no reflection, no final inversion. -/
def crc8 (l : List Byte) : Byte := l.foldl crcByte 0

/-! ### Port request frames -/

/-- The bytes a port stores from the bits clocked in: eight bits a byte, most significant first; an unfinished byte
is not stored (R166). -/
def bytesOfBits : List Bool → List Byte
  | b7 :: b6 :: b5 :: b4 :: b3 :: b2 :: b1 :: b0 :: rest =>
    flagByte [b0, b1, b2, b3, b4, b5, b6, b7] :: bytesOfBits rest
  | _ => []

/-- The curve point at byte i of a frame: x, then a (R194). -/
def pointAt (f : List Byte) (i : Nat) : PointArg := ⟨wordAt f i, wordAt f (i + 2)⟩

/-- A curve point as its four bytes. -/
def pointBytes (q : PointArg) : List Byte := wordBytes q.x ++ wordBytes q.a

/-- The date and time at byte i of a frame. -/
def timeAt (f : List Byte) (i : Nat) : TimeArgs :=
  ⟨byteAt f i, byteAt f (i + 1), byteAt f (i + 2), byteAt f (i + 3), byteAt f (i + 4), byteAt f (i + 5)⟩

/-- A date and time as its six bytes. -/
def timeBytes (t : TimeArgs) : List Byte := [t.year, t.month, t.day, t.hour, t.minute, t.second]

/-- R170, R194: the command of a taken frame. Byte 0 is its code; a command reads only the bytes its layout names. -/
def decodeTaken (p : Port) (f : List Byte) : Instr :=
  match (byteAt f 0).toNat with
  | 0x00 => .nop p
  | 0x01 => .readStatus p
  | 0x02 => .clearResetCause p
  | 0x03 => .fetchEvent p
  | 0x04 => .setEventLevel p (byteAt f 1) (byteAt f 2)
  | 0x05 => .openConfig p
  | 0x06 => .closeConfig p
  | 0x07 => .setSupervision p (byteAt f 1) (byteAt f 2)
  | 0x08 => .resetPart p
  | 0x10 => .setValue p (byteAt f 1) (wordAt f 2)
  | 0x11 => .readChannel p (byteAt f 1) (byteAt f 2)
  | 0x12 => .setChannel p
      ⟨byteAt f 1, (byteAt f 2).getLsbD 0, wordAt f 3, byteAt f 5, byteAt f 6, byteAt f 7, byteAt f 8, byteAt f 9,
        byteAt f 10, (byteAt f 11).getLsbD 0⟩
  | 0x13 =>
    if (byteAt f 1).extractLsb' 4 4 = 1 then
      .loadCurvePart1 p ((byteAt f 1).extractLsb' 0 4) (.ofFn fun i => pointAt f (3 + 4 * i.val))
    else
      .loadCurvePart0 p ((byteAt f 1).extractLsb' 0 4) ((byteAt f 1).extractLsb' 4 4) (byteAt f 2)
        (.ofFn fun i => pointAt f (3 + 4 * i.val))
  | 0x20 => .writeLamps p (byteAt f 1) (.ofFn fun i => ⟨byteAt f (2 + 2 * i.val), byteAt f (3 + 2 * i.val)⟩)
  | 0x21 => .readLamps p (byteAt f 1)
  | 0x22 => .setDimming p (byteAt f 1)
  | 0x23 => .setLampConfig p (byteAt f 1) (byteAt f 2) (byteAt f 3) (byteAt f 4) (byteAt f 5)
  | 0x24 => .setSafetyFloor p (byteAt f 1)
  | 0x25 => if byteAt f 1 = 0 then .lampTestRelease p else .lampTestRequest p (byteAt f 1)
  | 0x30 => .requestChime p (byteAt f 1) (byteAt f 2)
  | 0x31 => .cancelChimes p
  | 0x40 => .readVehicle p
  | 0x41 => .readDriver p (byteAt f 1) (byteAt f 2)
  | 0x42 => .readHistory p (byteAt f 1) (byteAt f 2)
  | 0x43 => .setDriveWarning p (byteAt f 1)
  | 0x50 => .readTime p
  | 0x51 => .setTime p (timeAt f 1)
  | 0x52 => .setLocalOffset p (byteAt f 1)
  | 0x53 => .setTick p (byteAt f 1)
  | 0x60 => .setInput p
      ⟨byteAt f 1, byteAt f 2, byteAt f 3, byteAt f 4, byteAt f 5, byteAt f 6, byteAt f 7⟩
  | 0x61 => .readInputs p
  | _ => .unknownCommand p (byteAt f 0)

/-- R167: whether a frame is taken: exactly 192 bits, and byte 23 is the CRC-8 of bytes 0 to 22. -/
def frameTaken (bits : Nat) (f : List Byte) : Bool := bits = 192 && byteAt f 23 = crc8 (padTo 23 f)

/-- R167, R168: the command a frame of the given bit count and stored bytes makes at the rising edge of chip select. -/
def decodeRequest (p : Port) (bits : Nat) (f : List Byte) : Instr :=
  if frameTaken bits f then decodeTaken p f else .badFrame p

/-- R166: the command of a chip select low period in which these bits are clocked in. Bits after byte 24 are counted but
not stored. -/
def decodePeriod (p : Port) (bits : List Bool) : Instr :=
  decodeRequest p bits.length ((bytesOfBits bits).take 24)

/-- R194: the port a command comes from and bytes 0 and up of its request frame, as far as they are read. None for a
command that no port sends, and for BAD_FRAME, which is no one frame. -/
def requestBytes : Instr → Option (Port × List Byte)
  | .nop p => some (p, [0x00])
  | .unknownCommand p code => some (p, [code])
  | .readStatus p => some (p, [0x01])
  | .clearResetCause p => some (p, [0x02])
  | .fetchEvent p => some (p, [0x03])
  | .setEventLevel p kind level => some (p, [0x04, kind, level])
  | .openConfig p => some (p, [0x05])
  | .closeConfig p => some (p, [0x06])
  | .setSupervision p d s => some (p, [0x07, d, s])
  | .resetPart p => some (p, [0x08])
  | .setValue p ch v => some (p, [0x10, ch] ++ wordBytes v)
  | .readChannel p ch part => some (p, [0x11, ch, part])
  | .setChannel p a =>
    some (p, [0x12, a.channel, flagByte [a.enabled]] ++ wordBytes a.sweepLimit ++
      [a.vmax, a.filterShift, a.sourceCount, a.first, a.second, a.faultLamp, flagByte [a.sweepTest]])
  | .loadCurvePart0 p ch part n pts => some (p, [0x13, part ++ ch, n] ++ (pts.val.map pointBytes).flatten)
  | .loadCurvePart1 p ch pts => some (p, [0x13, (1 : BitVec 4) ++ ch, 0] ++ (pts.val.map pointBytes).flatten)
  | .writeLamps p n pairs => some (p, [0x20, n] ++ (pairs.val.map fun q => [q.lamp, q.code]).flatten)
  | .setLampConfig p lamp cls d s r => some (p, [0x23, lamp, cls, d, s, r])
  | .readLamps p start => some (p, [0x21, start])
  | .setDimming p level => some (p, [0x22, level])
  | .setSafetyFloor p floor => some (p, [0x24, floor])
  | .lampTestRequest p action => some (p, [0x25, action])
  | .lampTestRelease p => some (p, [0x25, 0])
  | .requestChime p sound priority => some (p, [0x30, sound, priority])
  | .cancelChimes p => some (p, [0x31])
  | .readVehicle p => some (p, [0x40])
  | .readDriver p slot part => some (p, [0x41, slot, part])
  | .readHistory p slot start => some (p, [0x42, slot, start])
  | .setDriveWarning p lead => some (p, [0x43, lead])
  | .readTime p => some (p, [0x50])
  | .setTime p t => some (p, [0x51] ++ timeBytes t)
  | .setLocalOffset p q => some (p, [0x52, q])
  | .setTick p period => some (p, [0x53, period])
  | .setInput p a => some (p, [0x60, a.input, a.function, a.target, a.lampState, a.polarity, a.debounce, a.edge])
  | .readInputs p => some (p, [0x61])
  | .badFrame _ | .supervisionTimerExpiry _ | .speedFrame _ _ _ | .timeFrame _ _ | .activityFrame _ _ | .summaryFrame _ _
  | .distanceFrame _ _ | .noticeFrame _ _ | .recorderFrameDiscarded _ _ | .gapTimeout | .linkSupervisionExpiry
  | .statusCadence | .transmitComplete | .filterUpdate | .motionInterval | .scanFrameStart | .rowSlotEnd _
  | .internalTimerExpiry | .portSTimerExpiry | .chimeEnd | .gapEnd | .secondAdvance | .oscillatorStop
  | .oscillatorEdgeReturn | .recoveryAbandoned | .oscillatorRecovery | .basisTimerExpiry _ | .debounceComplete _
  | .selfCheckTimerExpiry | .supplyLowEntered | .supplyLowLeft | .powerOnReset | .pinReset | .resetCauseEnd
  | .resetHoldEnd | .characterReceived _ _ | .inputSample _ | .vbsMeasurement _ => none

/-- 12.2: a whole 24-byte frame around the bytes that are given: zeros up to byte 22, then the CRC. -/
def sealFrame (f : List Byte) : List Byte := padTo 23 f ++ [crc8 (padTo 23 f)]

/-- R194: the 24-byte request frame of a port command. -/
def encodeRequest (i : Instr) : Option (List Byte) := (requestBytes i).map fun r => sealFrame r.2

/-! ### Recorder frames -/

/-- R115: the sync byte. -/
def syncByte : Byte := 0xC5

/-- R115: the payload length of each TYPE the receiver knows. -/
def recorderLength (type : Byte) : Option Nat :=
  match type.toNat with
  | 0x01 => some 3
  | 0x02 => some 7
  | 0x03 => some 2
  | 0x04 => some 30
  | 0x05 => some 8
  | 0x06 => some 2
  | _ => none

/-- R195: one slot's byte of an ACTIVITY frame. -/
def readActivity (b : Byte) : ActivityArg := ⟨b.extractLsb' 0 3, b.getLsbD 3, b.getLsbD 4⟩

/-- R195: one slot's byte of an ACTIVITY frame, written. -/
def activityByte (a : ActivityArg) : Byte :=
  flagByte [a.activity.getLsbD 0, a.activity.getLsbD 1, a.activity.getLsbD 2, a.crew, a.card]

/-- R195: one slot's fifteen bytes of a SUMMARY frame, from byte i of the payload. -/
def readSummary (f : List Byte) (i : Nat) : SummaryArg :=
  { asOf := longAt f i
    continuous := wordAt f (i + 4)
    daily := wordAt f (i + 6)
    restRun := wordAt f (i + 8)
    card := (byteAt f (i + 10)).getLsbD 0
    firstPart := (byteAt f (i + 10)).getLsbD 1
    runQualified := (byteAt f (i + 10)).getLsbD 2
    contLimit := wordAt f (i + 11)
    dailyLimit := wordAt f (i + 13) }

/-- R195: one slot's fifteen bytes of a SUMMARY frame, written. -/
def summaryBytes (a : SummaryArg) : List Byte :=
  longBytes a.asOf ++ wordBytes a.continuous ++ wordBytes a.daily ++ wordBytes a.restRun ++
    [flagByte [a.card, a.firstPart, a.runQualified]] ++ wordBytes a.contLimit ++ wordBytes a.dailyLimit

/-- R195: the command of a valid recorder frame, from its TYPE and payload; none for a TYPE the receiver does not know. -/
def decodeRecorder (type : Byte) (f : List Byte) : Option Instr :=
  match type.toNat with
  | 0x01 => some (.speedFrame (wordAt f 0) ((byteAt f 2).getLsbD 0) ((byteAt f 2).getLsbD 1))
  | 0x02 => some (.timeFrame (timeAt f 0) ((byteAt f 6).getLsbD 0))
  | 0x03 => some (.activityFrame (readActivity (byteAt f 0)) (readActivity (byteAt f 1)))
  | 0x04 => some (.summaryFrame (readSummary f 0) (readSummary f 15))
  | 0x05 => some (.distanceFrame (longAt f 0) (longAt f 4))
  | 0x06 => some (.noticeFrame (byteAt f 0) (byteAt f 1))
  | _ => none

/-- R195: the TYPE and payload of a recorder command; none for every other command. -/
def recorderPayload : Instr → Option (Byte × List Byte)
  | .speedFrame v fast motion => some (0x01, wordBytes v ++ [flagByte [fast, motion]])
  | .timeFrame t valid => some (0x02, timeBytes t ++ [flagByte [valid]])
  | .activityFrame a b => some (0x03, [activityByte a, activityByte b])
  | .summaryFrame a b => some (0x04, summaryBytes a ++ summaryBytes b)
  | .distanceFrame odo trip => some (0x05, longBytes odo ++ longBytes trip)
  | .noticeFrame level code => some (0x06, [level, code])
  | _ => none

/-- R115, 12.4: a whole frame on the recorder link: sync, TYPE, LEN, payload and CRC. -/
def linkFrame (type : Byte) (payload : List Byte) : List Byte :=
  let f := [syncByte, type, BitVec.ofNat 8 payload.length] ++ payload
  f ++ [crc8 f]

/-- R195: the frame of a recorder command, as it stands on the line. -/
def encodeRecorder (i : Instr) : Option (List Byte) := (recorderPayload i).map fun r => linkFrame r.1 r.2

/-- R114: the character that ten bit samples make: a low start bit, eight data bits least significant first, and a stop bit,
which is a framing error where it is low. None where there is no start bit. -/
def decodeCharacter : List Bool → Option Instr
  | [false, b0, b1, b2, b3, b4, b5, b6, b7, stop] =>
    some (.characterReceived (flagByte [b0, b1, b2, b3, b4, b5, b6, b7]) (!stop))
  | _ => none

/-! ### The opcode table -/

/-- The command a word spells by the bits of spec/opcode_table.json. The table gives bits for no row, so no word spells a
command (log 28). -/
def decodeTableWord (_nbits _w : Nat) : Option Instr := none

end Sys2Proof
end

