-- ==== Sys2Proof/Machine/State.lean ====
section
/-! DEFINITION. The state of the HC440: one record for each block of 00 section 3, each owning what the block holds, the
leads that are measured or clocked, the queue of waiting commands, and the machine right after reset.

A quantity the manual counts, measures or compares is a Nat (q, the one signed quantity, an Int); only what wraps or is
seen as bytes is a bit vector. Times are in milliseconds unless a field says otherwise. -/
namespace Sys2Proof.Machine

/-! ### Names shared by the blocks -/

/-- R1: the result codes. -/
inductive ResultCode
  | ok | none | badFrame | unknownCommand | range | notSource | notPermitted | locked | badCurve | notNow
deriving DecidableEq, Repr

/-- 00 section 6.1: the sources with supervision. -/
inductive Source
  | portD | portS | recorder
deriving DecidableEq, Repr

/-- 00 section 6.2: the four lamp states. -/
inductive LampState
  | off | on | slow | fast
deriving DecidableEq, Repr

/-- The three lamp states other than OFF: what a loss state or an active input may ask for. -/
inductive Lit
  | on | slow | fast
deriving DecidableEq, Repr

/-- 00 section 6.2: the two classes of lamp. -/
inductive LampClass
  | safety | info
deriving DecidableEq, Repr

/-- 00 section 6.3: the activities. -/
inductive Activity
  | unknown | rest | available | work | drive
deriving DecidableEq, Repr

/-- 00 section 6.4: the power states. -/
inductive PowerState
  | standby | runCheck | run | parking
deriving DecidableEq, Repr

/-- R2: the event kinds, in the order of their numbers. -/
inductive EventKind
  | resetReport | sourceSilent | sourceRestored | lampOpen | lampRestored | gaugeNoSignal | gaugeSignalRestored
  | homingDone | drivePrewarn | driveLimit | breakQualified | activityChange | cardChange | summaryAdopted
  | summaryStale | recorderInconsistent | timeStep | clockFault | clockRange | clockTick | discreteEdge | holdGranted
  | holdEnded | chimeDropped | powerState | supplyLow
deriving DecidableEq, Repr

/-! ### Gauge Engine (chapters 1 and 2) -/

/-- The direction of a pointer. -/
inductive Direction
  | up | down
deriving DecidableEq, Repr

/-- 02 section 2.3: the channel states. -/
inductive ChannelState
  | unhomed | homing | sweepUp | sweepDown | tracking | parking | parked
deriving DecidableEq, Repr

/-- R5: one point of a curve. -/
structure Point where
  x : Nat
  a : Nat
deriving DecidableEq, Repr

/-- R4, R23: the first part of a curve being loaded in two parts. -/
structure PendingCurve where
  /-- The point count, 6 to 9. -/
  n : Nat
  /-- Points 0 to 4. -/
  points : List Point
deriving DecidableEq, Repr

/-- R4: the record of one gauge channel. -/
structure Channel where
  enabled : Bool
  sweepLimit : Nat
  vmax : Nat
  filterShift : Nat
  /-- The source list: its first entry ... -/
  primary : Source
  /-- ... and its second, where it has one. -/
  fallback : Option Source
  faultLamp : Fin 48
  sweepTest : Bool
  curve : List Point
  pendingCurve : Option PendingCurve
  /-- The per-source values. -/
  valueD : Option Nat
  valueS : Option Nat
  valueR : Option Nat
  /-- The active source. The signal is SIGNAL exactly while there is one (R9). -/
  active : Option Source
  /-- F, the filtered value times 256. -/
  filter : Nat
  /-- T. -/
  target : Nat
  /-- P. -/
  position : Nat
  /-- s. -/
  speed : Nat
  direction : Direction
  /-- H. -/
  overdrive : Nat
  state : ChannelState
  /-- R31: the phase indices that the coils walk through in the latest motion interval, in order, each for an equal share of
  it; none where they do not step. -/
  walk : List Nat
deriving DecidableEq, Repr

/-- The Gauge Engine: G0 to G7 and the two timers that pace it (R16, R26). -/
structure GaugeEngine where
  channels : Tab Channel 8
  /-- Time since the last filter update. -/
  filterTime : Nat
  /-- Time since the last motion interval. -/
  motionTime : Nat
deriving DecidableEq, Repr

/-! ### Telltale Table (chapter 3) -/

/-- R46: the record of one lamp. Its number is its index. -/
structure Lamp where
  cls : LampClass
  lossD : Option Lit
  lossS : Option Lit
  lossR : Option Lit
  writtenD : Option LampState
  writtenS : Option LampState
  input : Option LampState
  recorder : Option LampState
  account : Option LampState
  gauge : Option LampState
  /-- Whether the substitution contribution is present; it is then ON. -/
  substitution : Bool
  loss : Option Lit
  resolved : LampState
  previous : LampState
deriving DecidableEq, Repr

/-! ### Lamp Matrix Driver (chapter 4) -/

/-- R75: what the LMD knows of one lamp's current. -/
structure OpenRecord where
  low : Nat
  good : Nat
  /-- The open fault flag. -/
  openFault : Bool
deriving DecidableEq, Repr

/-- R77: the hold record. -/
structure Hold where
  /-- INTERNAL is in the holder set. -/
  internal : Bool
  /-- PORT_S is in the holder set. -/
  portS : Bool
  /-- A request from Port S is pending. -/
  request : Bool
  active : Bool
  internalTimer : Option Nat
  portSTimer : Option Nat
deriving DecidableEq, Repr

/-- The Lamp Matrix Driver. -/
structure LampMatrix where
  /-- The row slot in progress, 0 to 5; 6 when all six slots of the frame have ended (R66). -/
  slot : Nat
  /-- The frame in progress switches its rows on (R66, R68): it began in RUN_CHECK or RUN, and the ignition has not gone off
  since. -/
  scanning : Bool
  /-- Time into the period of the SLOW flash timer (R69). -/
  slowTime : Nat
  /-- Time into the period of the FAST flash timer (R69). -/
  fastTime : Nat
  /-- The frame plan: for each lamp the duty it is lit at, or none (R67). -/
  plan : Tab (Option Nat) 48
  readings : Tab OpenRecord 48
  dimming : Nat
  /-- The requested safety floor (R73). -/
  floorRequested : Nat
  /-- The safety floor in force (R73). -/
  floor : Nat
  hold : Hold
deriving DecidableEq, Repr

/-! ### Chime Unit (chapter 5) -/

/-- R84: the chime sounds. -/
inductive Sound
  | tick | tock | single | triple
deriving DecidableEq, Repr

/-- R83: the party on whose behalf a chime is requested. -/
inductive Origin
  | portD | portS | lamp (n : Fin 48) | account (s : Slot) | recorder
deriving DecidableEq, Repr

/-- R83: one entry of the chime queue. -/
structure Chime where
  sound : Sound
  priority : Nat
  origin : Origin
  arrival : Nat
deriving DecidableEq, Repr

/-- R83: the entry in play and its elapsed play time. -/
structure Playing where
  chime : Chime
  elapsed : Nat
deriving DecidableEq, Repr

/-- R83: the Chime Unit. -/
structure ChimeUnit where
  queue : List Chime
  playing : Option Playing
  /-- The time left of the gap; none when it has run out. -/
  gap : Option Nat
  /-- The cadence time of the standing tone; none when it is INACTIVE. -/
  tone : Option Nat
  muted : Bool
  /-- The arrival count given last. -/
  arrivals : Nat
deriving DecidableEq, Repr

/-! ### Calendar Clock (chapter 6) -/

/-- R107: the oscillator monitor. -/
inductive Monitor
  | running
  | stopped
  /-- Edges have returned and have held for this long. -/
  | recovering (time : Nat)
deriving DecidableEq, Repr

/-- R103: a tick subscription. -/
inductive TickPeriod
  | none | second | minute | hour | day
deriving DecidableEq, Repr

/-- The date and time of the clock, in UTC (R96). The year is the offset from 2000. -/
structure DateTime where
  year : Nat
  month : Nat
  day : Nat
  hour : Nat
  minute : Nat
  second : Nat
deriving DecidableEq, Repr

/-- R96: the Calendar Clock. -/
structure Clock where
  now : DateTime
  weekday : Nat
  /-- The state is SET. -/
  isSet : Bool
  /-- The quality is RECORDER; otherwise it is LOCAL. -/
  byRecorder : Bool
  running : Bool
  /-- Crystal cycles counted of the second in progress. -/
  prescaler : Nat
  /-- The MODEL's own: the part of a crystal cycle, in 1/125, that stands over at a millisecond boundary (log 8). -/
  crystalPhase : Nat
  rangeHold : Bool
  monitor : Monitor
  /-- q, in quarter hours. -/
  localOffset : Int
  tickD : TickPeriod
  tickS : TickPeriod
deriving DecidableEq, Repr

/-! ### Recorder Link Unit (chapter 7) -/

/-- R115: the frame assembly: its state, with what it has received of the frame. -/
inductive Assembly
  | hunt
  | type
  | length (type : Byte)
  | payload (type : Byte) (received : List Byte)
  | check (type : Byte) (received : List Byte)
deriving DecidableEq, Repr

/-- R124: the notice levels. -/
inductive NoticeLevel
  | none | warning | fault
deriving DecidableEq, Repr

/-- R125: the vehicle record. The held flags of one frame type always stand together, so each type has one. -/
structure VehicleRecord where
  speed : Nat
  overspeed : Bool
  motion : Bool
  odometer : Nat
  trip : Nat
  noticeLevel : NoticeLevel
  noticeCode : Byte
  heldSpeed : Bool
  heldDistance : Bool
  heldNotice : Bool
deriving DecidableEq, Repr

/-- R127, R128: the two frames the part sends. -/
inductive TxKind
  | status | standby
deriving DecidableEq, Repr

/-- R128: the frame being sent. -/
structure Sending where
  bytes : List Byte
  /-- Time left to the end of its last stop bit, in tenths of a bit time (log 15). -/
  left : Nat
deriving DecidableEq, Repr

/-- R114: the receiver of the line from the recorder. -/
inductive Receiver
  /-- After a reset: until the line has been high for one bit time no start edge is taken. -/
  | waiting
  /-- The line idles high. -/
  | idle
  /-- A character is under way: its samples, from the start bit. -/
  | taking (samples : List Bool)
  /-- The stop bit of the latest character was low, and the line has stood low for this many bit times since. -/
  | broken (low : Nat)
deriving DecidableEq, Repr

/-- The Recorder Link Unit. -/
structure RecorderLink where
  receiver : Receiver
  assembly : Assembly
  /-- Time since the last stop bit, while a frame is in assembly. -/
  gapTime : Nat
  /-- The link state is LIVE; otherwise it is LOST. -/
  live : Bool
  timer : Option Nat
  vehicle : VehicleRecord
  /-- Time to the next STATUS frame; none while the cadence is stopped. -/
  cadence : Option Nat
  sending : Option Sending
  waiting : List TxKind
deriving DecidableEq, Repr

/-! ### Activity Accounting Unit (chapter 8) -/

/-- R143: the driving-time warning of a slot. -/
inductive WarnState
  | none | prewarn | limit
deriving DecidableEq, Repr

/-- R130: the seconds of each activity in the minute in progress. -/
structure Tallies where
  unknown : Nat
  rest : Nat
  available : Nat
  work : Nat
  drive : Nat
deriving DecidableEq, Repr

/-- R146: one run of activity. -/
structure HistoryEntry where
  activity : Activity
  start : Nat
  timeUnset : Bool
  duration : Nat
deriving DecidableEq, Repr

/-- R130: a driver record. -/
structure DriverRecord where
  /-- The card is PRESENT. -/
  card : Bool
  activity : Activity
  crew : Bool
  continuous : Nat
  daily : Nat
  restRun : Nat
  /-- break_state is FIRST_PART. -/
  firstPart : Bool
  runQualified : Bool
  contLimit : Nat
  dailyLimit : Nat
  warn : WarnState
  /-- The basis is CONFIRMED. -/
  confirmed : Bool
  lastAdopted : Option Nat
  basisTimer : Option Nat
  tallies : Tallies
  lastCredited : Option Activity
  /-- L, the minute stamp of the latest credited minute. -/
  lastMinute : Nat
  creditSkip : Bool
  generation : BitVec 8
  history : List HistoryEntry
deriving DecidableEq, Repr

/-- The Activity Accounting Unit: both records and the pre-warning lead (R155). -/
structure Accounting where
  one : DriverRecord
  two : DriverRecord
  lead : Nat
deriving DecidableEq, Repr

/-! ### Discrete Input Unit (chapter 9) -/

/-- R156: what an input acts on. -/
inductive InputFunction
  | none | lamp | event | ignition
deriving DecidableEq, Repr

/-- R156: which debounced edges are posted. -/
inductive EdgeSelection
  | none | rise | fall | both
deriving DecidableEq, Repr

/-- R156: the record of one discrete input. A level is true when it is high. -/
structure InputRecord where
  function : InputFunction
  target : Fin 48
  lampState : Lit
  /-- The polarity is active high. -/
  activeHigh : Bool
  debounce : Nat
  edge : EdgeSelection
  raw : Bool
  debounced : Bool
  wait : Nat
  active : Bool
deriving DecidableEq, Repr

/-! ### Ports and Event Unit (chapter 10) -/

/-- R179: the record of one event kind in one port's table. The kind is pending while its count is not 0. -/
structure EventRecord where
  level : Nat
  count : Nat
  argument : Nat
deriving DecidableEq, Repr

/-- R168: a pending response: command byte, result code and the data of bytes 3 to 22. -/
structure Response where
  command : Byte
  result : ResultCode
  data : Tab Byte 20
deriving DecidableEq, Repr

/-- R168 to R171, R179: one port with its event table. -/
structure PortUnit where
  /-- The source is LIVE; otherwise it is SILENT. -/
  live : Bool
  timer : Option Nat
  /-- The supervision period, in 10 ms. -/
  period : Nat
  response : Response
  fresh : Bool
  events : Tab EventRecord 26
deriving DecidableEq, Repr

/-! ### Power Controller (chapter 11) -/

/-- R184: the self-check timer. -/
inductive SelfCheck
  | stopped
  | running (left : Nat)
  | runOut
deriving DecidableEq, Repr

/-- R184, R190: the causes of a reset. -/
inductive Cause
  | powerOn | pin | command
deriving DecidableEq, Repr

/-- R184: a set of reset causes. -/
structure CauseSet where
  powerOn : Bool
  pin : Bool
  command : Bool
deriving DecidableEq, Repr

/-- R184: the Power Controller. -/
structure Power where
  state : PowerState
  ignition : Bool
  selfCheck : SelfCheck
  /-- The supply state is LOW. -/
  supplyLow : Bool
  supplyWait : Nat
  /-- The reset-cause record. -/
  causes : CauseSet
deriving DecidableEq, Repr

/-- R190: how far a reset has got. -/
inductive ResetProgress
  /-- The part is out of reset. -/
  | out
  /-- A cause lasts. -/
  | cause
  /-- The reset hold, with this much time left. -/
  | hold (left : Nat)
deriving DecidableEq, Repr

/-- R190, R191: the reset in progress, or the latest one. -/
structure Reset where
  progress : ResetProgress
  /-- The causes that made this reset. -/
  causes : CauseSet
  /-- The cause that began last within it. -/
  latest : Cause
  /-- R107: oscillator stops found within it, whose CLOCK_FAULT falls due at the end of the hold. -/
  clockFaults : Nat
deriving DecidableEq, Repr

/-! ### The leads -/

/-- R166, R169: what the leads tell of a frame that has ended. -/
structure FrameEnd where
  /-- The status byte formed at its falling edge. -/
  status : Byte
  /-- The bits clocked in it. -/
  bits : Nat
deriving DecidableEq, Repr

/-- R166, R168, R169: the leads of one SPI port. -/
structure SpiLead where
  /-- Chip select is low. -/
  selected : Bool
  /-- The status byte formed at the falling edge of the frame under way; none outside a frame, and in a low period that is
  not a frame. -/
  status : Option Byte
  /-- The bits clocked in so far in the low period under way, first to last. -/
  bits : List Bool
  /-- The MODEL's own: the frames whose commands still wait in the queue, first to last (log 6). -/
  ended : List FrameEnd
  /-- The 24 bytes that the latest frame offered on the data output; empty before the first. -/
  offered : List Byte
  /-- The bits that the latest frame clocked; none before the first, and for a bare BAD_FRAME, which does not tell (log 33). -/
  clocked : Option Nat
deriving DecidableEq, Repr

/-- 00 section 9: the input leads that are measured, as the latest command that measured them found them (log 10), the
leads of the two SPI ports, and the two that can hold a reset cause. -/
structure Pins where
  /-- DI0 to DI11 in mV. -/
  inputs : Tab Int 12
  /-- VBS in mV. -/
  battery : Nat
  /-- For each lamp, whether its column draws current at or above the threshold when the lamp is driven. -/
  draws : Tab Bool 48
  /-- The leads of Port D. -/
  spiD : SpiLead
  /-- The leads of Port S. -/
  spiS : SpiLead
  /-- R190: VDD5 has fallen below 4.3 V and not risen above 4.4 V since. -/
  vdd5Low : Bool
  /-- R190: RST_N is held low, for longer than a pulse that is ignored. -/
  rstLow : Bool
deriving DecidableEq, Repr

/-! ### The machine -/

/-- The state of the part. -/
structure State where
  /-- Gauge Engine. -/
  ge : GaugeEngine
  /-- Telltale Table, L0 to L47. -/
  lamps : Tab Lamp 48
  /-- Lamp Matrix Driver. -/
  lmd : LampMatrix
  /-- Chime Unit. -/
  cu : ChimeUnit
  /-- Calendar Clock. -/
  cc : Clock
  /-- Recorder Link Unit. -/
  rlu : RecorderLink
  /-- Activity Accounting Unit. -/
  aau : Accounting
  /-- Discrete Input Unit, DI0 to DI11. -/
  inputs : Tab InputRecord 12
  /-- Port D interface, with its event table. -/
  portD : PortUnit
  /-- Port S interface, with its event table. -/
  portS : PortUnit
  /-- The config window is open (R175). -/
  window : Bool
  /-- Power Controller. -/
  pwc : Power
  /-- Reset progress. -/
  rst : Reset
  /-- Input leads, and the leads of the SPI ports. -/
  pins : Pins
  /-- The MODEL's own: how many free choices of order have been made (log 4). -/
  choices : Nat
  /-- The MODEL's own: the timer commands that the latest millisecond found due and that still wait in the queue (log 3). -/
  due : List Instr
  /-- The MODEL's own: the commands that are waiting, first in, first out. -/
  pending : List Instr
deriving DecidableEq, Repr

/-- No event of the spec stops the part, so the type has no constructor: no command ends in a fault, and there is nothing
a fault could hide (safe). -/
inductive Fault
deriving DecidableEq, Repr

/-- Why a command is turned away without a meaning. -/
inductive Refusal
  /-- Raised by exec alone, in the arm of a command that has no meaning in the model. Safe: the machine stops, so nothing
  is claimed about what the part does. No arm raises it now. -/
  | notModelled (mnemonic : String)
deriving DecidableEq, Repr

/-! ### Replacing one block -/

namespace State

/-- The state with the Gauge Engine replaced. -/
def setGe (s : State) (v : GaugeEngine) : State := { s with ge := v }
/-- The state with the lamp table replaced. -/
def setLamps (s : State) (v : Tab Lamp 48) : State := { s with lamps := v }
/-- The state with the Lamp Matrix Driver replaced. -/
def setLmd (s : State) (v : LampMatrix) : State := { s with lmd := v }
/-- The state with the Chime Unit replaced. -/
def setCu (s : State) (v : ChimeUnit) : State := { s with cu := v }
/-- The state with the Calendar Clock replaced. -/
def setCc (s : State) (v : Clock) : State := { s with cc := v }
/-- The state with the Recorder Link Unit replaced. -/
def setRlu (s : State) (v : RecorderLink) : State := { s with rlu := v }
/-- The state with the Activity Accounting Unit replaced. -/
def setAau (s : State) (v : Accounting) : State := { s with aau := v }
/-- The state with the input records replaced. -/
def setInputs (s : State) (v : Tab InputRecord 12) : State := { s with inputs := v }
/-- The state with the unit of one port replaced. -/
def setPort (s : State) : Port → PortUnit → State
  | .d, v => { s with portD := v }
  | .s, v => { s with portS := v }
/-- The state with the config window open or closed. -/
def setWindow (s : State) (v : Bool) : State := { s with window := v }
/-- The state with the Power Controller replaced. -/
def setPwc (s : State) (v : Power) : State := { s with pwc := v }
/-- The state with the reset progress replaced. -/
def setRst (s : State) (v : Reset) : State := { s with rst := v }
/-- The state with the leads replaced. -/
def setPins (s : State) (v : Pins) : State := { s with pins := v }
/-- The state with the count of free choices replaced. -/
def setChoices (s : State) (v : Nat) : State := { s with choices := v }
/-- The state with the list of due timer commands replaced. -/
def setDue (s : State) (v : List Instr) : State := { s with due := v }
/-- The state with the queue of waiting commands replaced. -/
def setPending (s : State) (v : List Instr) : State := { s with pending := v }

/-- The unit of one port. -/
def port (s : State) : Port → PortUnit
  | .d => s.portD
  | .s => s.portS

/-- The leads of one SPI port. -/
def spi (s : State) : Port → SpiLead
  | .d => s.pins.spiD
  | .s => s.pins.spiS

/-- The state with the leads of one SPI port replaced. -/
def setSpi (s : State) : Port → SpiLead → State
  | .d, v => s.setPins { s.pins with spiD := v }
  | .s, v => s.setPins { s.pins with spiS := v }

end State

/-! ### Reset values -/

/-- R4: the default curve. -/
def Channel.resetCurve : List Point := [⟨0, 0⟩, ⟨65535, 3240⟩]

/-- R4: a channel after reset, with its default source list and filter shift. -/
def Channel.reset (primary : Source) (fallback : Option Source) (filterShift : Nat) : Channel :=
  { enabled := true, sweepLimit := 3240, vmax := 8, filterShift, primary, fallback, faultLamp := 5, sweepTest := false,
    curve := Channel.resetCurve, pendingCurve := none, valueD := none, valueS := none, valueR := none, active := none,
    filter := 0, target := 0, position := 0, speed := 0, direction := .up, overdrive := 0, state := .unhomed,
    walk := [] }

/-- R4 and the table of default purposes. -/
def GaugeEngine.reset : GaugeEngine :=
  { channels :=
      ⟨[.reset .recorder (some .portS) 0, .reset .portD none 0, .reset .portD none 6, .reset .portD none 6,
        .reset .portD none 0, .reset .portS none 0, .reset .portS none 0, .reset .portS none 0], rfl⟩
    filterTime := 0, motionTime := 0 }

/-- R46: whether a lamp is SAFETY class, with loss_S ON, by default: L0 and L6 to L15. -/
def Lamp.defaultSafety (n : Fin 48) : Bool := n.val = 0 || (6 ≤ n.val && n.val ≤ 15)

/-- R46: lamp n after a reset, once the first contributions have been handed and the lamps resolved. -/
def Lamp.reset (n : Fin 48) : Lamp :=
  let safe := Lamp.defaultSafety n
  { cls := if safe then .safety else .info
    lossD := none, lossS := if safe then some .on else none, lossR := none
    writtenD := none, writtenS := none, input := none, recorder := none
    account := if n.val = 2 then some .off else none
    gauge := if n.val = 5 then some .off else none
    substitution := false
    loss := if safe then some .on else none
    resolved := if safe then .on else .off
    previous := if safe then .on else .off }

/-- R77: the hold record after a reset. -/
def Hold.reset : Hold :=
  { internal := false, portS := false, request := false, active := false, internalTimer := none, portSTimer := none }

/-- R66, R69, R72, R73, R76, R77: the Lamp Matrix Driver after a reset. -/
def LampMatrix.reset : LampMatrix :=
  { slot := 0, scanning := false, slowTime := 0, fastTime := 0, plan := .fill none, readings := .fill ⟨0, 0, false⟩, dimming := 15,
    floorRequested := 6, floor := 6, hold := .reset }

/-- R83: the Chime Unit after a reset. -/
def ChimeUnit.reset : ChimeUnit :=
  { queue := [], playing := none, gap := none, tone := none, muted := false, arrivals := 0 }

/-- 06: the epoch, 2000-01-01 00:00:00. -/
def DateTime.epoch : DateTime := { year := 0, month := 1, day := 1, hour := 0, minute := 0, second := 0 }

/-- R96: the Calendar Clock after a power-on reset. -/
def Clock.reset : Clock :=
  { now := .epoch, weekday := 5, isSet := false, byRecorder := false, running := true, prescaler := 0, crystalPhase := 0,
    rangeHold := false, monitor := .running, localOffset := 0, tickD := .none, tickS := .none }

/-- R125: the vehicle record after a reset. -/
def VehicleRecord.reset : VehicleRecord :=
  { speed := 0, overspeed := false, motion := false, odometer := 0, trip := 0, noticeLevel := .none, noticeCode := 0,
    heldSpeed := true, heldDistance := true, heldNotice := true }

/-- R114, R118, R125, R127: the Recorder Link Unit held in reset. -/
def RecorderLink.reset : RecorderLink :=
  { receiver := .waiting, assembly := .hunt, gapTime := 0, live := false, timer := none, vehicle := .reset,
    cadence := none, sending := none, waiting := [] }

/-- No seconds tallied. -/
def Tallies.zero : Tallies := { unknown := 0, rest := 0, available := 0, work := 0, drive := 0 }

/-- R130: a driver record after a reset. -/
def DriverRecord.reset : DriverRecord :=
  { card := false, activity := .unknown, crew := false, continuous := 0, daily := 0, restRun := 0, firstPart := false,
    runQualified := false, contLimit := 270, dailyLimit := 540, warn := .none, confirmed := false, lastAdopted := none,
    basisTimer := none, tallies := .zero, lastCredited := none, lastMinute := 0, creditSkip := false, generation := 0,
    history := [] }

/-- R130, R155: the Activity Accounting Unit after a reset. -/
def Accounting.reset : Accounting := { one := .reset, two := .reset, lead := 15 }

/-- R156: input n after a reset. -/
def InputRecord.reset (n : Fin 12) : InputRecord :=
  { function := if n.val = 0 then .ignition else .none, target := 0, lampState := .on, activeHigh := true,
    debounce := if n.val = 0 then 50 else 20, edge := .none, raw := false, debounced := false, wait := 0, active := false }

/-- R168: the NONE response. -/
def Response.none : Response := { command := 0, result := .none, data := .fill 0 }

/-- R179: the number of an event kind. -/
def EventKind.number : EventKind → Fin 26
  | .resetReport => 0 | .sourceSilent => 1 | .sourceRestored => 2 | .lampOpen => 3 | .lampRestored => 4
  | .gaugeNoSignal => 5 | .gaugeSignalRestored => 6 | .homingDone => 7 | .drivePrewarn => 8 | .driveLimit => 9
  | .breakQualified => 10 | .activityChange => 11 | .cardChange => 12 | .summaryAdopted => 13 | .summaryStale => 14
  | .recorderInconsistent => 15 | .timeStep => 16 | .clockFault => 17 | .clockRange => 18 | .clockTick => 19
  | .discreteEdge => 20 | .holdGranted => 21 | .holdEnded => 22 | .chimeDropped => 23 | .powerState => 24
  | .supplyLow => 25

/-- R179: whether the level of a kind number is fixed at Port S. -/
def fixedAtPortS (n : Fin 26) : Bool := n.val = 0 || n.val = 1 || n.val = 3 || n.val = 17 || n.val = 25

/-- R179: the default level of a kind number at a port. -/
def defaultLevel (p : Port) (n : Fin 26) : Nat :=
  match p with
  | .d => if n.val = 19 then 0 else 1
  | .s => if fixedAtPortS n then 3 else 1

/-- R171: the supervision period of a port after a reset, in 10 ms. -/
def resetPeriod : Port → Nat
  | .d => 50
  | .s => 20

/-- R168, R169, R171, R179: a port held in reset. -/
def PortUnit.reset (p : Port) : PortUnit :=
  { live := false, timer := none, period := resetPeriod p, response := .none, fresh := true,
    events := .ofFn fun n => { level := defaultLevel p n, count := 0, argument := 0 } }

/-- No causes. -/
def CauseSet.empty : CauseSet := { powerOn := false, pin := false, command := false }

/-- R184: the Power Controller after a reset that leaves the given reset-cause record. -/
def Power.reset (causes : CauseSet) : Power :=
  { state := .standby, ignition := false, selfCheck := .stopped, supplyLow := false, supplyWait := 0, causes }

/-- The leads of a port at which nothing has happened yet: chip select high. -/
def SpiLead.idle : SpiLead := { selected := false, status := none, bits := [], ended := [], offered := [], clocked := none }

/-- DESIGN CHOICE (log 10, unsafe): the input leads before anything has been measured: switches at 0 V, a 24 V battery,
every lamp drawing current; both chip selects high, VDD5 up and RST_N high. -/
def Pins.initial : Pins :=
  { inputs := .fill 0, battery := 24000, draws := .fill true, spiD := .idle, spiS := .idle, vdd5Low := false,
    rstLow := false }

/-- R190: every block held in a power-on reset, with the last millisecond of the hold about to end. -/
def State.powerOnHeld : State :=
  { ge := .reset, lamps := .ofFn Lamp.reset, lmd := .reset, cu := .reset, cc := .reset, rlu := .reset, aau := .reset,
    inputs := .ofFn InputRecord.reset, portD := .reset .d, portS := .reset .s, window := false,
    pwc := .reset { powerOn := true, pin := false, command := false }
    rst := { progress := .hold 0, causes := { powerOn := true, pin := false, command := false },
             latest := .powerOn, clockFaults := 0 }
    pins := .initial, choices := 0, due := [], pending := [] }

/-- R179: the event table of a port with RESET_REPORT pending for a power-on reset. -/
def PortUnit.afterPowerOn (p : Port) : PortUnit :=
  { PortUnit.reset p with
    events := (PortUnit.reset p).events.set 0 { level := defaultLevel p 0, count := 1, argument := 0 } }

/-- R128, 12.4: the STANDBY frame: sync, TYPE 82h, LEN 0 and the CRC of the three. -/
def standbyBytes : List Byte := linkFrame 0x82 []

/-- The machine right after reset: R192 at the end of the hold of a power-on reset. RESET_REPORT is pending in both tables
with argument 0, and the STANDBY frame has started on the recorder link (log 1). -/
def State.reset : State :=
  { State.powerOnHeld with
    portD := .afterPowerOn .d
    portS := .afterPowerOn .s
    rlu := { RecorderLink.reset with sending := some { bytes := standbyBytes, left := 400 } }
    rst := { progress := .out, causes := { powerOn := true, pin := false, command := false },
             latest := .powerOn, clockFaults := 0 } }

end Sys2Proof.Machine
end

