-- ==== Sys2Proof/Machine/Operands.lean ====
section
/-! DEFINITION. How the rules read the operands of a command: range checks, clamps, codes, and the codes a response sends. -/
namespace Sys2Proof.Machine

/-- A value clamped to the range lo to hi. -/
def clamp (lo hi n : Nat) : Nat := max lo (min n hi)

/-- The index a byte names, or none where it is not below n (the RANGE checks). -/
def indexOf (n : Nat) (b : Byte) : Option (Fin n) := if h : b.toNat < n then some ⟨b.toNat, h⟩ else none

/-- A 16-bit quantity as it is sent (R193); larger values do not arise. -/
def word16 (n : Nat) : List Byte := wordBytes (BitVec.ofNat 16 n)

/-- A 32-bit quantity as it is sent (R193); larger values do not arise. -/
def word32 (n : Nat) : List Byte := longBytes (BitVec.ofNat 32 n)

/-- A count as one byte. -/
def byteOf (n : Nat) : Byte := BitVec.ofNat 8 n

/-- R193: an absent code is sent as FFh. -/
def byteOrAbsent (o : Option Nat) : Byte := byteOf (o.getD 0xFF)

/-! ### Ports, slots and sources -/

/-- The source a port stands for (00 section 6.1). -/
def portSource : Port → Source
  | .d => .portD
  | .s => .portS

/-- 00 section 6.1: the code of a source. -/
def Source.code : Source → Nat
  | .portD => 0
  | .portS => 1
  | .recorder => 2

/-- 00 section 6.1: the source of a code. -/
def sourceOfCode (b : Byte) : Option Source :=
  match b.toNat with
  | 0 => some .portD
  | 1 => some .portS
  | 2 => some .recorder
  | _ => none

/-- The number of a slot. -/
def slotNumber : Slot → Nat
  | .one => 1
  | .two => 2

/-- R153, R154: the slot of a slot number. -/
def slotOfNumber (b : Byte) : Option Slot :=
  match b.toNat with
  | 1 => some .one
  | 2 => some .two
  | _ => none

/-- R1: the code of a result. -/
def ResultCode.code : ResultCode → Byte
  | .ok => 0x00 | .none => 0x01 | .badFrame => 0x02 | .unknownCommand => 0x03 | .range => 0x04 | .notSource => 0x05
  | .notPermitted => 0x06 | .locked => 0x07 | .badCurve => 0x08 | .notNow => 0x09

/-! ### Gauges -/

/-- R193: the code of a channel state. -/
def ChannelState.code : ChannelState → Nat
  | .unhomed => 0 | .homing => 1 | .sweepUp => 2 | .sweepDown => 3 | .tracking => 4 | .parking => 5 | .parked => 6

/-- A curve point of a LOAD_CURVE as the channel keeps it. -/
def pointOfArg (q : PointArg) : Point := ⟨q.x.toNat, q.a.toNat⟩

/-- R21: the source list of a SET_CHANNEL, or none where check 3 refuses it: a count other than 1 or 2, a code other than
0, 1 or 2, or two equal codes. The second code is read only when the count is 2 (R194). -/
def sourceListOfArgs (args : ChannelArgs) : Option (Source × Option Source) :=
  match args.sourceCount.toNat with
  | 1 => (sourceOfCode args.first).map fun a => (a, none)
  | 2 =>
    match sourceOfCode args.first, sourceOfCode args.second with
    | some a, some b => if a = b then none else some (a, some b)
    | _, _ => none
  | _ => none

/-! ### Lamps -/

/-- 00 section 6.2: the place of a lamp state in the order of prominence; also its code (R193). -/
def LampState.rank : LampState → Nat
  | .off => 0 | .on => 1 | .slow => 2 | .fast => 3

/-- The more prominent of two lamp states. -/
def LampState.max (a b : LampState) : LampState := if a.rank ≤ b.rank then b else a

/-- A loss state or an input's ask as a lamp state. -/
def Lit.lamp : Lit → LampState
  | .on => .on | .slow => .slow | .fast => .fast

/-- R59, R163: the code of a loss state or of an input's lamp state. -/
def Lit.code (l : Lit) : Nat := l.lamp.rank

/-- R59: a loss code: 0 none, 1 ON, 2 SLOW, 3 FAST; none where it is above 3. -/
def lossOfCode (b : Byte) : Option (Option Lit) :=
  match b.toNat with
  | 0 => some none
  | 1 => some (some .on)
  | 2 => some (some .slow)
  | 3 => some (some .fast)
  | _ => none

/-- R163: a lamp state code: 1 ON, 2 SLOW, 3 FAST; none where it is 0 or above 3. -/
def litOfCode (b : Byte) : Option Lit :=
  match b.toNat with
  | 1 => some .on
  | 2 => some .slow
  | 3 => some .fast
  | _ => none

/-- R57: what a state code asks to be stored: a lamp state, or absence for RELEASE; none where it is above 4. -/
def writeOfCode (b : Byte) : Option (Option LampState) :=
  match b.toNat with
  | 0 => some (some .off)
  | 1 => some (some .on)
  | 2 => some (some .slow)
  | 3 => some (some .fast)
  | 4 => some none
  | _ => none

/-- R59: a class code. -/
def classOfCode (b : Byte) : Option LampClass :=
  match b.toNat with
  | 0 => some .info
  | 1 => some .safety
  | _ => none

/-- R59: the code of a class. -/
def LampClass.code : LampClass → Nat
  | .info => 0
  | .safety => 1

/-- The row of a lamp and its column (R66). -/
def lampRow (n : Fin 48) : Nat := n.val / 8

/-- The lamp in a row and a column (R66). -/
def lampAt (row : Nat) (col : Fin 8) : Option (Fin 48) :=
  if h : row < 6 then some ⟨8 * row + col.val, by omega⟩ else none

/-! ### Chimes -/

/-- R84: the sound of a sound code. -/
def soundOfCode (b : Byte) : Option Sound :=
  match b.toNat with
  | 0 => some .tick
  | 1 => some .tock
  | 2 => some .single
  | 3 => some .triple
  | _ => none

/-- R84: the code of a sound. -/
def Sound.code : Sound → Nat
  | .tick => 0 | .tock => 1 | .single => 2 | .triple => 3

/-- R84: the length of a sound in ms. -/
def Sound.length : Sound → Nat
  | .tick => 20 | .tock => 20 | .single => 400 | .triple => 900

/-- R87: the class code of an origin. -/
def Origin.classCode : Origin → Nat
  | .portD => 0 | .portS => 1 | .lamp _ => 2 | .account _ => 3 | .recorder => 4

/-- The origin of a port's own requests (R93). -/
def portOrigin : Port → Origin
  | .d => .portD
  | .s => .portS

/-! ### Clock -/

/-- R103: the tick subscription of a period code. -/
def tickOfCode (b : Byte) : Option TickPeriod :=
  match b.toNat with
  | 0 => some .none
  | 1 => some .second
  | 2 => some .minute
  | 3 => some .hour
  | 4 => some .day
  | _ => none

/-- R103: the code of a tick subscription. -/
def TickPeriod.code : TickPeriod → Nat
  | .none => 0 | .second => 1 | .minute => 2 | .hour => 3 | .day => 4

/-- A date and time of a command as the clock reads it. -/
def dateOfArgs (t : TimeArgs) : DateTime :=
  { year := t.year.toNat, month := t.month.toNat, day := t.day.toNat, hour := t.hour.toNat, minute := t.minute.toNat,
    second := t.second.toNat }

/-- R111: the local offset a byte carries, clamped to -48 to +56. -/
def offsetOfByte (b : Byte) : Int := max (-48) (min b.toInt 56)

/-- R193: the local offset as it is sent. -/
def byteOfOffset (q : Int) : Byte := BitVec.ofInt 8 q

/-! ### Recorder and drivers -/

/-- 00 section 6.3: the activity of a code; 5 to 7 read as UNKNOWN. -/
def activityOfCode (c : BitVec 3) : Activity :=
  match c.toNat with
  | 1 => .rest
  | 2 => .available
  | 3 => .work
  | 4 => .drive
  | _ => .unknown

/-- 00 section 6.3: the code of an activity. -/
def Activity.code : Activity → Nat
  | .unknown => 0 | .rest => 1 | .available => 2 | .work => 3 | .drive => 4

/-- R193: the code of a warn_state. -/
def WarnState.code : WarnState → Nat
  | .none => 0 | .prewarn => 1 | .limit => 2

/-- R124: a notice level as read: 0 none, 1 warning, everything above fault. -/
def noticeOfByte (b : Byte) : NoticeLevel :=
  match b.toNat with
  | 0 => .none
  | 1 => .warning
  | _ => .fault

/-- R193: the code of a notice level. -/
def NoticeLevel.code : NoticeLevel → Nat
  | .none => 0 | .warning => 1 | .fault => 2

/-! ### Inputs -/

/-- R163: a function code of SET_INPUT. -/
def functionOfCode (b : Byte) : Option InputFunction :=
  match b.toNat with
  | 0 => some .none
  | 1 => some .lamp
  | 2 => some .event
  | _ => none

/-- R163: the code of a function; IGNITION has none and is not asked for. -/
def InputFunction.code : InputFunction → Nat
  | .none => 0 | .lamp => 1 | .event => 2 | .ignition => 0

/-- R163: a polarity code: whether it is active high. -/
def polarityOfCode (b : Byte) : Option Bool :=
  match b.toNat with
  | 0 => some true
  | 1 => some false
  | _ => none

/-- R163: an edge selection code. -/
def edgeOfCode (b : Byte) : Option EdgeSelection :=
  match b.toNat with
  | 0 => some .none
  | 1 => some .rise
  | 2 => some .fall
  | 3 => some .both
  | _ => none

/-- R163: the code of an edge selection. -/
def EdgeSelection.code : EdgeSelection → Nat
  | .none => 0 | .rise => 1 | .fall => 2 | .both => 3

/-- R162: whether an edge selection covers a rising (or falling) edge. -/
def EdgeSelection.covers : EdgeSelection → (rising : Bool) → Bool
  | .none, _ => false
  | .rise, r => r
  | .fall, r => !r
  | .both, _ => true

/-- R163: the debounce time a byte asks for, clamped to 10 to 250 ms. -/
def debounceOfByte (b : Byte) : Nat := 10 * clamp 1 25 b.toNat

/-! ### Power -/

/-- 00 section 6.4: the code of a power state. -/
def PowerState.code : PowerState → Nat
  | .standby => 0 | .runCheck => 1 | .run => 2 | .parking => 3

/-- R2: the RESET_REPORT argument of a cause. -/
def Cause.code : Cause → Nat
  | .powerOn => 0 | .pin => 1 | .command => 2

end Sys2Proof.Machine
end

