-- ==== Sys2Proof/Machine/Flags.lean ====
section
/-! DEFINITION. The conditions and flags the rules form from the state: source states, signal, lamp resolution, check and
parking complete, pending events, the status byte and the flag bytes of the responses. -/
namespace Sys2Proof.Machine

/-! ### Power and reset -/

/-- The part is out of reset (R190). -/
def isOut (s : State) : Bool := s.rst.progress = .out

/-- The power state is RUN_CHECK or RUN: the matrix scans (R68) and chime requests are acted on (R88). -/
def inCycle (s : State) : Bool := s.pwc.state = .runCheck || s.pwc.state = .run

/-! ### Timers -/

/-- Whether a timer has run out. -/
def ranOut (t : Option Nat) : Bool := t = some 0

/-- Log 3: whether the event of a timer takes place. A command that the latest millisecond found due takes place only where
its timer still stands run out: a restart, a stop or a load of the same moment that came first has withdrawn it. A command
given otherwise is the sender's word that the timer, which must be running, runs out now. -/
def takesPlace (c : Instr) (running out : Bool) (s : State) : Bool := if s.due.contains c then out else running

/-- R98: whether the prescaler has completed a second. -/
def Clock.secondOut (c : Clock) : Bool := c.running && Config.prescalerPeriod ≤ c.prescaler

/-- R107: whether the monitor is RECOVERING. -/
def Monitor.isRecovering : Monitor → Bool
  | .recovering _ => true
  | .running | .stopped => false

/-- R107: whether edges have held for the 100 ms of a recovery. -/
def Monitor.recovered : Monitor → Bool
  | .recovering t => Config.recoveryPeriod ≤ t
  | .running | .stopped => false

/-- R114: whether the start bit of a character has come whose stop bit has not. -/
def Receiver.underWay : Receiver → Bool
  | .taking _ => true
  | .waiting | .idle | .broken _ => false

/-- R116: whether a pause between two characters of a frame lasts: the start bit of the next ends it. -/
def RecorderLink.pauses (r : RecorderLink) : Bool := r.assembly ≠ .hunt && !r.receiver.underWay

/-- R116: whether the pause between two characters of a frame has run out. -/
def RecorderLink.gapOut (r : RecorderLink) : Bool := r.pauses && Config.characterGap ≤ r.gapTime

/-- R128: whether the last stop bit of the frame being sent has passed. -/
def RecorderLink.sent (r : RecorderLink) : Bool := match r.sending with | some t => t.left = 0 | none => false

/-- R89: whether the entry in play has played to its end. -/
def ChimeUnit.playedOut (u : ChimeUnit) : Bool :=
  match u.playing with
  | some q => q.chime.sound.length ≤ q.elapsed
  | none => false

/-- R184: whether the self-check timer runs. -/
def SelfCheck.isRunning : SelfCheck → Bool
  | .running _ => true
  | .stopped | .runOut => false

/-- R190: whether the reset hold runs. -/
def ResetProgress.isHold : ResetProgress → Bool
  | .hold _ => true
  | .out | .cause => false

/-! ### Sources and gauges -/

/-- 00 section 6.1: whether a source is LIVE. -/
def sourceLive (s : State) : Source → Bool
  | .portD => s.portD.live
  | .portS => s.portS.live
  | .recorder => s.rlu.live

/-- R4: the per-source value of a source in a channel. -/
def Channel.value (c : Channel) : Source → Option Nat
  | .portD => c.valueD
  | .portS => c.valueS
  | .recorder => c.valueR

/-- Whether a source is in a channel's source list. -/
def Channel.lists (c : Channel) (a : Source) : Bool := c.primary = a || c.fallback = some a

/-- R9: the signal is SIGNAL exactly while the active source is not none. -/
def Channel.signal (c : Channel) : Bool := c.active.isSome

/-- The value of the active source; none for none. -/
def Channel.activeValue (c : Channel) : Option Nat := c.active.bind c.value

/-- R17: the filtered value v. -/
def Channel.filtered (c : Channel) : Nat := (c.filter + 128) / 256

/-- R15: the vehicle speed value: the value of G0's active source. -/
def vehicleSpeed (s : State) : Option Nat := (s.ge.channels.get 0).activeValue

/-- 02 section 2.3: whether a channel is homed. -/
def Channel.homed (c : Channel) : Bool := c.state ≠ .unhomed && c.state ≠ .homing

/-- R40: check complete: every enabled channel is TRACKING. -/
def checkComplete (g : GaugeEngine) : Bool := g.channels.all fun c => !c.enabled || c.state = .tracking

/-- R40: parking complete: every homed channel is PARKED. -/
def parkingComplete (g : GaugeEngine) : Bool := g.channels.all fun c => !c.homed || c.state = .parked

/-- R14: the gauge contribution of a lamp, from the channels that name it and the power state. -/
def gaugeContribution (g : GaugeEngine) (power : PowerState) (n : Fin 48) : Option LampState :=
  if g.channels.any fun c => c.enabled && c.faultLamp = n then
    if power = .run && g.channels.any fun c => c.enabled && c.faultLamp = n && !c.signal then some .on else some .off
  else none

/-! ### Lamps -/

/-- R48: the contributions of a lamp that are present. -/
def Lamp.contributions (l : Lamp) : List LampState :=
  [l.writtenD, l.writtenS, l.input, l.recorder, l.account, l.gauge, if l.substitution then some .on else none,
    l.loss.map Lit.lamp].filterMap id

/-- R51: the most prominent of the contributions present; OFF where there is none. -/
def Lamp.resolve (l : Lamp) : LampState := l.contributions.foldl LampState.max .off

/-- R54: the more prominent of two loss states, none being the least. -/
def maxLoss : Option Lit → Option Lit → Option Lit
  | none, b => b
  | a, none => a
  | some a, some b => if a.code ≤ b.code then some b else some a

/-- R54: the loss contribution of a lamp, given which sources are SILENT. -/
def lossOf (silentD silentS silentR : Bool) (l : Lamp) : Option Lit :=
  maxLoss (if silentD then l.lossD else none)
    (maxLoss (if silentS then l.lossS else none) (if silentR then l.lossR else none))

/-- R54: the loss contribution a lamp has now. -/
def lossNow (s : State) (l : Lamp) : Option Lit := lossOf (!s.portD.live) (!s.portS.live) (!s.rlu.live) l

/-- R60, R61: whether some lamp of a class, other than the central lamp, has an open fault and a resolved state other
than OFF. -/
def wantsSubstitution (readings : Tab OpenRecord 48) (lamps : Tab Lamp 48) (cls : LampClass) (central : Fin 48) : Bool :=
  (List.finRange 48).any fun i =>
    i ≠ central && (lamps.get i).cls = cls && (readings.get i).openFault && (lamps.get i).resolved ≠ .off

/-- R161: whether a lamp is mapped: some LAMP input targets it. -/
def isMapped (inputs : Tab InputRecord 12) (n : Fin 48) : Bool :=
  inputs.any fun r => r.function = .lamp && r.target = n

/-- R49, R161: the input contribution of a lamp: the most prominent of what the LAMP inputs that target it ask for. -/
def inputContribution (inputs : Tab InputRecord 12) (n : Fin 48) : Option LampState :=
  let asks := (inputs.val.filter fun r => r.function = .lamp && r.target = n).map fun r =>
    if r.active then r.lampState.lamp else .off
  if asks = [] then none else some (asks.foldl LampState.max .off)

/-- R50, R144: the account contribution of L2, from the warn_state of both slots. -/
def accountContribution (a : Accounting) : LampState :=
  if a.one.warn = .limit || a.two.warn = .limit then .slow
  else if a.one.warn = .prewarn || a.two.warn = .prewarn then .on
  else .off

/-- R82: whether the frame plan of the scan frame in progress lights a lamp. -/
def isLit (s : State) (n : Fin 48) : Bool := (s.lmd.plan.get n).isSome

/-- R90: whether the standing tone is to be ACTIVE. -/
def toneDue (s : State) : Bool :=
  (s.lamps.get 0).resolved ≠ .off && (match vehicleSpeed s with | some v => decide (Config.toneSpeed ≤ v) | none => false)
    && s.pwc.state = .run

/-! ### Events -/

/-- R179: whether an event kind is pending. -/
def EventRecord.isPending (r : EventRecord) : Bool := r.count ≠ 0

/-- The number of kinds pending in a table. -/
def kindsPending (t : Tab EventRecord 26) : Nat := (t.val.filter EventRecord.isPending).length

/-- R183: whether a port's event line is asserted: exactly while some kind is pending. -/
def eventLine (u : PortUnit) : Bool := u.events.any EventRecord.isPending

/-! ### Resets -/

/-- R190: whether a lead still holds a reset cause. -/
def Pins.holdsCause (p : Pins) : Bool := p.vdd5Low || p.rstLow

/-! ### Bytes -/

/-- R169, 12.2: the status byte of a port, as it is formed now. -/
def statusByte (s : State) (p : Port) : Byte :=
  flagByte [s.cc.isSet, s.rlu.live, s.pwc.supplyLow, s.window, s.pwc.state.code % 2 = 1, 2 ≤ s.pwc.state.code,
    eventLine (s.port p), (s.port p).fresh]

/-- 12.3: the reset-cause record as a byte. -/
def causeByte (c : CauseSet) : Byte := flagByte [c.powerOn, c.pin, c.command]

/-- 12.3: the flags of READ_STATUS. -/
def statusFlags (s : State) : Byte := flagByte [s.pwc.supplyLow, s.window, s.portD.live, s.portS.live, s.rlu.live]

/-- 12.3: the hold byte. -/
def holdByte (h : Hold) : Byte := flagByte [h.internal, h.portS, h.request, h.active]

/-- 12.3: the clock flags, with bit 0 as given. -/
def clockFlags (c : Clock) (clamped : Bool) : Byte := flagByte [clamped, c.isSet, c.byRecorder, c.running, c.rangeHold]

/-- 12.3: a window or pending flag on its own. -/
def bitByte (b : Bool) : Byte := flagByte [b]

/-- 12.3: sixteen flags as one 16-bit quantity, bit n from entry n, bits 12 to 15 being 0. -/
def inputWord (inputs : Tab InputRecord 12) (f : InputRecord → Bool) : List Byte :=
  [flagByte ((inputs.val.drop 8).map f), flagByte ((inputs.val.take 8).map f)]

end Sys2Proof.Machine
end

