-- ==== Sys2Proof/Machine/Calendar.lean ====
section
/-! DEFINITION. The calendar of R99 and R100, minute stamps (R102), and local time (R110). -/
namespace Sys2Proof.Machine

/-- R99: a year offset is a leap year when it is divisible by 4 and is not 100. -/
def isLeap (year : Nat) : Bool := year % 4 = 0 && year ≠ 100

/-- R99: the length of a month; 0 for a month that does not exist. -/
def monthLength (year month : Nat) : Nat :=
  match month with
  | 1 => 31
  | 2 => if isLeap year then 29 else 28
  | 3 => 31
  | 4 => 30
  | 5 => 31
  | 6 => 30
  | 7 => 31
  | 8 => 31
  | 9 => 30
  | 10 => 31
  | 11 => 30
  | 12 => 31
  | _ => 0

/-- The days of a year. -/
def yearLength (year : Nat) : Nat := if isLeap year then 366 else 365

/-- R99: whether a date and time is legal. -/
def DateTime.legal (t : DateTime) : Bool :=
  t.year ≤ 199 && 1 ≤ t.month && t.month ≤ 12 && 1 ≤ t.day && t.day ≤ monthLength t.year t.month && t.hour ≤ 23 &&
    t.minute ≤ 59 && t.second ≤ 59

/-- The days from the epoch to the first day of a year. -/
def daysBeforeYear (year : Nat) : Nat := ((List.range year).map yearLength).sum

/-- The days from the first day of a year to the first day of one of its months. -/
def daysBeforeMonth (year month : Nat) : Nat := ((List.range (month - 1)).map fun m => monthLength year (m + 1)).sum

/-- R100: the days since the epoch. -/
def dayCount (t : DateTime) : Nat := daysBeforeYear t.year + daysBeforeMonth t.year t.month + (t.day - 1)

/-- R100: the weekday of a date, 0 being Monday. -/
def weekdayOf (t : DateTime) : Nat := (5 + dayCount t) % 7

/-- R102: the minute stamp of a time. -/
def minuteStamp (t : DateTime) : Nat := dayCount t * 1440 + 60 * t.hour + t.minute

/-- The whole seconds since the epoch, for the comparison of R104. -/
def secondStamp (t : DateTime) : Nat := minuteStamp t * 60 + t.second

/-- R104: the absolute number of seconds between two instants. -/
def secondsApart (a b : DateTime) : Nat := ((secondStamp a : Int) - secondStamp b).natAbs

/-- R101: the last second of the range. -/
def DateTime.last : DateTime := { year := 199, month := 12, day := 31, hour := 23, minute := 59, second := 59 }

/-- R99: the date one day later, with the month and year carries. -/
def nextDay (t : DateTime) : DateTime :=
  if t.day < monthLength t.year t.month then { t with day := t.day + 1 }
  else if t.month < 12 then { t with day := 1, month := t.month + 1 }
  else { t with day := 1, month := 1, year := t.year + 1 }

/-- R110: the date one day earlier, or none before the epoch. -/
def previousDay (t : DateTime) : Option DateTime :=
  if 1 < t.day then some { t with day := t.day - 1 }
  else if 1 < t.month then some { t with month := t.month - 1, day := monthLength t.year (t.month - 1) }
  else if 0 < t.year then some { t with year := t.year - 1, month := 12, day := 31 }
  else none

/-- The ticks of one advance (R102). Every advance issues a second tick. -/
structure Ticks where
  minute : Bool
  hour : Bool
  day : Bool
deriving DecidableEq, Repr

/-- R99, R102: one advance of the clock, with the ticks its carries issue. -/
def advance (t : DateTime) : DateTime × Ticks :=
  if t.second < 59 then ({ t with second := t.second + 1 }, ⟨false, false, false⟩)
  else if t.minute < 59 then ({ t with second := 0, minute := t.minute + 1 }, ⟨true, false, false⟩)
  else if t.hour < 23 then ({ t with second := 0, minute := 0, hour := t.hour + 1 }, ⟨true, true, false⟩)
  else (nextDay { t with second := 0, minute := 0, hour := 0 }, ⟨true, true, true⟩)

/-- R110: the local time of a UTC time under the offset q, and whether it was clamped. -/
def localTime (t : DateTime) (q : Int) : DateTime × Bool :=
  let m : Int := 60 * (t.hour : Int) + t.minute + 15 * q
  if m < 0 then
    match previousDay t with
    | some d => ({ d with hour := (m + 1440).toNat / 60, minute := (m + 1440).toNat % 60 }, false)
    | none => ({ DateTime.epoch with second := t.second }, true)
  else if m < 1440 then ({ t with hour := m.toNat / 60, minute := m.toNat % 60 }, false)
  else if t.year = 199 && t.month = 12 && t.day = 31 then ({ DateTime.last with second := t.second }, true)
  else ({ nextDay t with hour := (m - 1440).toNat / 60, minute := (m - 1440).toNat % 60 }, false)

/-- 12.3: the seven bytes of a date and time with its weekday. -/
def dateBytes (t : DateTime) (weekday : Nat) : List Byte :=
  [byteOf t.year, byteOf t.month, byteOf t.day, byteOf t.hour, byteOf t.minute, byteOf t.second, byteOf weekday]

end Sys2Proof.Machine
end

