-- ==== Sys2Proof/Machine/Ops.lean ====
section
/-! DEFINITION. The operations the rules share: orders the spec leaves open, posting an event, requesting a chime, the
update of the lamp table, choosing the source of a gauge, the config window, source silence and return, the frame to
the recorder, and the three steps of a taken port frame. -/
namespace Sys2Proof.Machine

/-! ### Orders the spec leaves open (log 4) -/

/-- A list in an order that free choices k and up decide: its first entry is put at a free place among the others. Every
order is possible, and a list of fewer than two entries makes no choice. -/
def arrange {α : Type} : Nat → List α → List α
  | _, [] => []
  | _, [a] => [a]
  | k, a :: b :: rest =>
    let others := arrange (k + 1) (b :: rest)
    let place := Config.freeChoice k % (rest.length + 2)
    others.take place ++ a :: others.drop place

/-- DESIGN CHOICE (log 4, safe): an action over several objects of which the spec sets no order: the order is free. -/
def inSomeOrder {α : Type} (l : List α) (act : List α → State → State) (s : State) : State :=
  act (arrange s.choices l) (s.setChoices (s.choices + (l.length - 1)))

/-- One action for each entry of a list, in the order of the list. -/
def forEach {α : Type} (act : α → State → State) (l : List α) (s : State) : State :=
  l.foldl (fun s a => act a s) s

/-! ### Events -/

/-- R180: an occurrence recorded in the record of its kind; at level 0 nothing is recorded. -/
def EventRecord.posted (argument : Nat) (r : EventRecord) : EventRecord :=
  if r.level = 0 then r else { r with count := min 255 (r.count + 1), argument }

/-- R180: an occurrence recorded in the table of one port. -/
def PortUnit.post (kind : EventKind) (argument : Nat) (u : PortUnit) : PortUnit :=
  { u with events := u.events.modify kind.number (EventRecord.posted argument) }

/-- R103: a posting to the table of one port alone. -/
def postAt (p : Port) (kind : EventKind) (argument : Nat) (s : State) : State :=
  s.setPort p ((s.port p).post kind argument)

/-- R180: a posting to the tables of both ports. -/
def post (kind : EventKind) (argument : Nat) (s : State) : State := postAt .s kind argument (postAt .d kind argument s)

/-- Several postings of one kind, in some order: only the argument of the latest tells the order (R180). -/
def postAll (kind : EventKind) (arguments : List Nat) (s : State) : State :=
  inSomeOrder arguments (forEach (post kind)) s

/-! ### Chimes (chapter 5) -/

/-- What became of a chime request (R86 to R89, R93). -/
inductive ChimeOutcome
  | queued | started | merged | dropped | evicted
  /-- R88: discarded outside RUN_CHECK and RUN. -/
  | discarded
deriving DecidableEq, Repr

/-- R93: the code of an outcome. A discarded request is never answered with an outcome, since REQUEST_CHIME is refused. -/
def ChimeOutcome.code : ChimeOutcome → Nat
  | .queued => 0 | .started => 1 | .merged => 2 | .dropped => 3 | .evicted => 4 | .discarded => 3

/-- R85: a chime queue with an entry placed after every entry of equal or higher priority. -/
def placeChime (c : Chime) (q : List Chime) : List Chime :=
  q.takeWhile (fun d => c.priority ≤ d.priority) ++ c :: q.dropWhile (fun d => c.priority ≤ d.priority)

/-- R89: the head of the queue starts to play, if nothing is in play and the gap has run out. -/
def ChimeUnit.startHead (u : ChimeUnit) : ChimeUnit :=
  match u.playing, u.gap, u.queue with
  | none, none, c :: rest => { u with queue := rest, playing := some { chime := c, elapsed := 0 } }
  | _, _, _ => u

/-- R85, R89: an entry given the next arrival count, placed, and started if it can be. -/
def ChimeUnit.place (sound : Sound) (priority : Nat) (origin : Origin) (u : ChimeUnit) : ChimeUnit :=
  ({ u with
      queue := placeChime { sound, priority, origin, arrival := u.arrivals + 1 } u.queue
      arrivals := u.arrivals + 1 } : ChimeUnit).startHead

/-- R87: the lowest priority among the entries of a queue. -/
def lowestPriority : List Chime → Nat
  | [] => 3
  | c :: rest => min c.priority (lowestPriority rest)

/-- R87: of the entries that hold a priority, the one with the latest arrival. -/
def latestOf (priority : Nat) : List Chime → Option Chime
  | [] => none
  | c :: rest =>
    if c.priority = priority then
      match latestOf priority rest with
      | some d => if d.arrival ≤ c.arrival then some c else some d
      | none => some c
    else latestOf priority rest

/-- R86, R87, R89: a chime request put to the Chime Unit: the unit after it, its outcome, and the origin given up, if any. -/
def ChimeUnit.request (sound : Sound) (priority : Nat) (origin : Origin) (u : ChimeUnit) :
    ChimeUnit × ChimeOutcome × Option Origin :=
  if u.queue.any fun c => c.sound = sound && c.origin = origin then (u, .merged, none)
  else if u.queue.length < 8 then
    let idle := u.playing.isNone && u.gap.isNone && u.queue.isEmpty
    (u.place sound priority origin, if idle then .started else .queued, none)
  else
    match latestOf (lowestPriority u.queue) u.queue with
    | some victim =>
      if victim.priority < priority then
        (({ u with queue := u.queue.erase victim } : ChimeUnit).place sound priority origin, .evicted, some victim.origin)
      else (u, .dropped, some origin)
    | none => (u, .dropped, some origin)

/-- R86 to R89: a chime request, with CHIME_DROPPED where an entry or the request is given up. -/
def chimeRequest (sound : Sound) (priority : Nat) (origin : Origin) (s : State) : State × ChimeOutcome :=
  if inCycle s then
    match s.cu.request sound priority origin with
    | (u, outcome, some lost) => (post .chimeDropped lost.classCode (s.setCu u), outcome)
    | (u, outcome, none) => (s.setCu u, outcome)
  else (s, .discarded)

/-- A chime requested by a block, which does not hear the outcome (R88). -/
def requestFor (sound : Sound) (priority : Nat) (origin : Origin) (s : State) : State :=
  (chimeRequest sound priority origin s).1

/-- R63: the chime of a SAFETY lamp that has come on. -/
def lampChime (n : Fin 48) (s : State) : State := requestFor .triple 3 (.lamp n) s

/-- R90: the standing tone judged again. A tone that becomes ACTIVE starts its cadence at 0. -/
def judgeTone (s : State) : State :=
  s.setCu { s.cu with tone := if toneDue s then some (s.cu.tone.getD 0) else none }

/-! ### The lamp table (chapter 3) -/

/-- R60, R61: a lamp whose substitution contribution is formed again; it is resolved again if that changed. -/
def Lamp.substitute (wanted : Bool) (l : Lamp) : Lamp :=
  if l.substitution = wanted then l
  else { l with substitution := wanted, resolved := Lamp.resolve { l with substitution := wanted } }

/-- R52, step 2: every lamp whose record the event changed is resolved. -/
def resolveChanged (before stored : Tab Lamp 48) : Tab Lamp 48 :=
  stored.mapIdx fun i l => if l = before.get i then l else { l with resolved := l.resolve }

/-- R52, step 3: the substitution contributions of L0 and L1, from the open faults and the resolved states. -/
def formSubstitution (readings : Tab OpenRecord 48) (lamps : Tab Lamp 48) : Tab Lamp 48 :=
  lamps.mapIdx fun i l =>
    if i = 0 then l.substitute (wantsSubstitution readings lamps .safety 0)
    else if i = 1 then l.substitute (wantsSubstitution readings lamps .info 1)
    else l

/-- R52: each lamp whose resolved state the update changed takes the old one as its previous resolved state. -/
def recordPrevious (before after : Tab Lamp 48) : Tab Lamp 48 :=
  after.mapIdx fun i l =>
    if l.resolved = (before.get i).resolved then l else { l with previous := (before.get i).resolved }

/-- R52: the lamp table after an update that changes each record as given. -/
def updatedLamps (readings : Tab OpenRecord 48) (before : Tab Lamp 48) (change : Fin 48 → Lamp → Lamp) : Tab Lamp 48 :=
  recordPrevious before (formSubstitution readings (resolveChanged before (before.mapIdx change)))

/-- R63: the SAFETY lamps that an update has brought from OFF to another state. -/
def lampsComeOn (before after : Tab Lamp 48) : List (Fin 48) :=
  (List.finRange 48).filter fun i =>
    (after.get i).cls = .safety && (before.get i).resolved = .off && (after.get i).resolved ≠ .off

/-- R52, R63, R90: one update of the lamp table: its three steps, the previous resolved states, the chime triggers (in RUN
alone, R64; in some order, log 4) and the standing tone, which L0 bears on. -/
def lampUpdate (change : Fin 48 → Lamp → Lamp) (s : State) : State :=
  let after := updatedLamps s.lmd.readings s.lamps change
  let chimes := if s.pwc.state = .run then lampsComeOn s.lamps after else []
  judgeTone (inSomeOrder chimes (forEach lampChime) (s.setLamps after))

/-- R54: every loss contribution formed again, in one update. -/
def reformLoss (s : State) : State := lampUpdate (fun _ l => { l with loss := lossNow s l }) s

/-- R55: a lamp without the written contribution of a port. -/
def Lamp.withoutPort (p : Port) (l : Lamp) : Lamp :=
  match p with
  | .d => { l with writtenD := none }
  | .s => { l with writtenS := none }

/-- R55: a port's written contributions discarded and every loss contribution formed again, in one update. -/
def discardWritten (p : Port) (s : State) : State :=
  lampUpdate (fun _ l => { l.withoutPort p with loss := lossNow s l }) s

/-- R56: the recorder contributions discarded and every loss contribution formed again, in one update. -/
def discardRecorder (s : State) : State :=
  lampUpdate (fun _ l => { l with recorder := none, loss := lossNow s l }) s

/-- R49, R161: the input contribution of the lamps given formed again from the inputs as they stand, in one update. -/
def formInputs (lamps : List (Fin 48)) (s : State) : State :=
  lampUpdate (fun i l => if lamps.contains i then { l with input := inputContribution s.inputs i } else l) s

/-- R50, R144: the account contribution of L2 handed as it now stands. -/
def handAccount (s : State) : State :=
  lampUpdate (fun i l => if i = 2 then { l with account := some (accountContribution s.aau) } else l) s

/-- R121, R124: the recorder contribution of one lamp handed. -/
def handRecorder (n : Fin 48) (v : LampState) (s : State) : State :=
  lampUpdate (fun i l => if i = n then { l with recorder := some v } else l) s

/-- R14: the gauge contribution of the lamps given formed afresh and handed, in one update (log 5). -/
def formGauge (lamps : List (Fin 48)) (s : State) : State :=
  lampUpdate (fun i l =>
    if lamps.contains i then { l with gauge := gaugeContribution s.ge s.pwc.state i } else l) s

/-- R14: formGauge, where there is any lamp to form. -/
def formGaugeAny (lamps : List (Fin 48)) (s : State) : State := if lamps = [] then s else formGauge lamps s

/-- Whether the gauge contribution of one of the lamps given differs from what it would now be formed as. -/
def gaugeStale (lamps : List (Fin 48)) (s : State) : Bool :=
  lamps.any fun i => (s.lamps.get i).gauge ≠ gaugeContribution s.ge s.pwc.state i

/-- R14: every lamp that an enabled channel names. -/
def namedLamps (g : GaugeEngine) : List (Fin 48) :=
  ((g.channels.val.filter (·.enabled)).map (·.faultLamp)).dedup

/-! ### The config window (R175, R176) -/

/-- R25: a channel without its pending curve. -/
def Channel.dropPending (c : Channel) : Channel := { c with pendingCurve := none }

/-- R25, R176: the config window closes, and every pending curve is discarded; a closed window stays as it is. -/
def closeWindow (s : State) : State :=
  if s.window then (s.setWindow false).setGe { s.ge with channels := s.ge.channels.map Channel.dropPending } else s

/-- R15, R176: the vehicle speed value handed to its readers, where it has changed from the one given: the window closes
at 100 or more, and the standing tone is judged. -/
def handSpeed (old : Option Nat) (s : State) : State :=
  if vehicleSpeed s = old then s
  else
    match vehicleSpeed s with
    | some v => judgeTone (if Config.windowSpeed ≤ v then closeWindow s else s)
    | none => judgeTone s

/-! ### Source selection (chapter 1) -/

/-- R9: the active source of a channel: the first entry of its source list that is LIVE and holds a value. -/
def Channel.select (live : Source → Bool) (c : Channel) : Option Source :=
  if c.enabled then
    if live c.primary && (c.value c.primary).isSome then some c.primary
    else
      match c.fallback with
      | some f => if live f && (c.value f).isSome then some f else none
      | none => none
  else none

/-- R9 to R13: the selection made again. On an entry to NO_SIGNAL F becomes 0, and T too while TRACKING (R11). -/
def Channel.reselect (live : Source → Bool) (c : Channel) : Channel :=
  match c.active, c.select live with
  | some _, none =>
    { c with active := none, filter := 0, target := if c.state = .tracking then 0 else c.target }
  | _, a => { c with active := a }

/-- R6: a value stored as the per-source value of a source. -/
def Channel.store (a : Source) (v : Option Nat) (c : Channel) : Channel :=
  match a with
  | .portD => { c with valueD := v }
  | .portS => { c with valueS := v }
  | .recorder => { c with valueR := v }

/-- The channels, in rising order, that have entered NO_SIGNAL. -/
def channelsLost (before after : Tab Channel 8) : List (Fin 8) :=
  (List.finRange 8).filter fun i => (before.get i).signal && !(after.get i).signal

/-- The channels, in rising order, that have left NO_SIGNAL. -/
def channelsGained (before after : Tab Channel 8) : List (Fin 8) :=
  (List.finRange 8).filter fun i => !(before.get i).signal && (after.get i).signal

/-- R11, R12: the fault lamps whose gauge contribution is formed again after channels entered or left NO_SIGNAL. -/
def lampsConcerned (before after : Tab Channel 8) : List (Fin 48) :=
  ((channelsLost before after ++ channelsGained before after).map fun i => (after.get i).faultLamp).dedup

/-- R6 to R12, R15: the channels concerned are changed and their selection made again; GAUGE_NO_SIGNAL and
GAUGE_SIGNAL_RESTORED are posted, and a changed vehicle speed value is handed. The gauge contributions are left to the
caller. -/
def gaugeSelect (concerned : Fin 8 → Bool) (change : Channel → Channel) (s : State) : State :=
  let before := s.ge.channels
  let after := before.mapIdx fun i c => if concerned i then (change c).reselect (sourceLive s) else c
  handSpeed (vehicleSpeed s)
    (postAll .gaugeSignalRestored ((channelsGained before after).map (·.val))
      (postAll .gaugeNoSignal ((channelsLost before after).map (·.val)) (s.setGe { s.ge with channels := after })))

/-- gaugeSelect, and then the gauge contributions it bears on (R14). -/
def gaugeChange (concerned : Fin 8 → Bool) (change : Channel → Channel) (s : State) : State :=
  let t := gaugeSelect concerned change s
  formGaugeAny (lampsConcerned s.ge.channels t.ge.channels) t

/-- R171: the Gauge Engine's update of the lamps given and another update of the lamp table, in either order, as the
spec sets none; the order is a free choice where the first changes anything (log 4). -/
def withGaugeUpdate (lamps : List (Fin 48)) (other : State → State) (s : State) : State :=
  if gaugeStale lamps s then
    if Config.freeChoice s.choices % 2 = 0 then other (formGauge lamps (s.setChoices (s.choices + 1)))
    else formGauge lamps (other (s.setChoices (s.choices + 1)))
  else other s

/-- R7: a source's values discarded in every channel, with the selection made again; then the lamp table's own update of
the silence, before or after the gauge contributions. -/
def silenceSource (a : Source) (lampTable : State → State) (s : State) : State :=
  let t := gaugeSelect (fun _ => true) (Channel.store a none) s
  withGaugeUpdate (lampsConcerned s.ge.channels t.ge.channels) lampTable t

/-! ### Frames to the recorder (R127, R128) -/

/-- 12.4: the bytes of a frame to the recorder, with its contents taken now. -/
def txBytes (s : State) : TxKind → List Byte
  | .status =>
    linkFrame 0x81
      [byteOf s.pwc.state.code, flagByte [isLit s 4, isLit s 2, (s.lmd.readings.get 4).openFault],
        if s.cc.isSet then 1 else 0]
  | .standby => linkFrame 0x82 []

/-- R114, R128: a frame starts on RLTX: ten bit times for each character. -/
def txStart (k : TxKind) (s : State) : State :=
  s.setRlu { s.rlu with sending := some { bytes := txBytes s k, left := 100 * (txBytes s k).length } }

/-- R128: a frame falls due: it starts at once if the transmitter is idle, and waits otherwise. -/
def txDue (k : TxKind) (s : State) : State :=
  if s.rlu.sending.isNone then txStart k s else s.setRlu { s.rlu with waiting := s.rlu.waiting ++ [k] }

/-! ### Port frames (chapter 10) -/

/-- R168, R169: the 24 bytes of a response that a status byte leads, with its CRC. -/
def responseFrame (status : Byte) (r : Response) : List Byte := sealFrame ([status, r.command, r.result.code] ++ r.data.val)

/-- R168, R169: the bytes offered on the data output of a port while a request came in, and the bits clocked in it. The
leads tell its status byte, formed at its falling edge, and its bits; of a frame they do not tell of, the status byte is
formed now (log 6), and the bits are those given. -/
def shiftOut (p : Port) (bits : Option Nat) (s : State) : State :=
  let l := s.spi p
  let told := l.ended.head?
  s.setSpi p
    { l with ended := l.ended.tail
             offered := responseFrame ((told.map FrameEnd.status).getD (statusByte s p)) (s.port p).response
             clocked := (told.map FrameEnd.bits).or bits }

/-- R170 step 1, R172: a SILENT source returns to LIVE. -/
def returnSource (p : Port) (s : State) : State :=
  if (s.port p).live then s
  else
    reformLoss (post .sourceRestored (portSource p).code (s.setPort p { s.port p with live := true }))

/-- R170 step 2, R171: the port's supervision timer restarts at its full period; in STANDBY it stays stopped. -/
def restartTimer (p : Port) (s : State) : State :=
  if s.pwc.state = .standby then s
  else s.setPort p { s.port p with timer := some (10 * (s.port p).period) }

/-- R169: fresh clears at the taking of the port's first frame. -/
def clearFresh (p : Port) (s : State) : State := s.setPort p { s.port p with fresh := false }

/-- R170: everything a taken frame, of 192 bits (R167), brings before its request is acted on. -/
def beginFrame (p : Port) (s : State) : State := restartTimer p (returnSource p (clearFresh p (shiftOut p (some 192) s)))

/-- R168: what a request is answered with, and the state after it was acted on. -/
structure Reply where
  state : State
  result : ResultCode
  data : List Byte

/-- R170: a refused request changes nothing; its response carries no data (log 7). -/
def refuse (r : ResultCode) (s : State) : Reply := { state := s, result := r, data := [] }

/-- A request acted on, answered OK with the data given. -/
def accept (data : List Byte) (s : State) : Reply := { state := s, result := .ok, data }

/-- R168: the pending response of a port replaced. -/
def respond (p : Port) (r : Response) (s : State) : State := s.setPort p { s.port p with response := r }

/-- R168, R170: a taken frame: the steps before the request, the request, and the answer. Chip select low periods are not
frames while the part is in reset (R166). -/
def takenFrame (p : Port) (code : Byte) (request : State → Reply) (s : State) : State :=
  if isOut s then
    let r := request (beginFrame p s)
    respond p { command := code, result := r.result, data := .ofList 0 r.data } r.state
  else s

/-- R174 and others: the first checks of a Port S command that needs the config window: the port, then the window. -/
def ifConfigurable (p : Port) (s : State) (act : Reply) : Reply :=
  match p with
  | .d => refuse .notPermitted s
  | .s => if s.window then act else refuse .locked s

/-- The first check of a Port S command that needs no window. -/
def ifPortS (p : Port) (s : State) (act : Reply) : Reply :=
  match p with
  | .d => refuse .notPermitted s
  | .s => act

/-- The first check of a Port D command. -/
def ifPortD (p : Port) (s : State) (act : Reply) : Reply :=
  match p with
  | .d => act
  | .s => refuse .notPermitted s

/-- An outcome that goes on, unless the part is in reset, where the event cannot arise (R190, log 3). -/
def whenOut (act : State → State) (s : State) : State := if isOut s then act s else s

/-- Log 3: a timer command: what it does where its event takes place. It is no longer among the commands found due. -/
def timed (c : Instr) (running out : Bool) (act : State → State) (s : State) : State :=
  if takesPlace c running out s then act (s.setDue (s.due.erase c)) else s.setDue (s.due.erase c)

end Sys2Proof.Machine
end

