-- ==== Sys2Proof/Machine/Chimes.lean ====
section
/-! DEFINITION. The Chime Unit (chapter 5): its two commands, the end of an entry in play, and the end of the gap. -/
namespace Sys2Proof.Machine

/-- R93, R94, 12.3: the sound in play and its origin class, or FFh for each. -/
def playData (u : ChimeUnit) : List Byte :=
  [byteOrAbsent (u.playing.map fun q => q.chime.sound.code), byteOrAbsent (u.playing.map fun q => q.chime.origin.classCode)]

/-! ### REQUEST_CHIME, CANCEL_CHIMES -/

/-- REQUEST_CHIME (R93). -/
def requestChimeReply (p : Port) (sound priority : Byte) (s : State) : Reply :=
  match soundOfCode sound with
  | none => refuse .range s
  | some wanted =>
    if inCycle s then
      let r := chimeRequest wanted (min 2 priority.toNat) (portOrigin p) s
      accept ([byteOf r.2.code, byteOf r.1.cu.queue.length] ++ playData r.1.cu) r.1
    else refuse .notNow s

/-- REQUEST_CHIME (R93). -/
def execRequestChime (p : Port) (sound priority : Byte) (s : State) : Host.Outcome State Fault Refusal :=
  .next (takenFrame p 0x30 (requestChimeReply p sound priority) s)

/-- R94: the queue without the entries of an origin. -/
def ChimeUnit.cancel (origin : Origin) (u : ChimeUnit) : ChimeUnit :=
  { u with queue := u.queue.filter fun c => c.origin ≠ origin }

/-- CANCEL_CHIMES (R94). -/
def cancelChimesReply (p : Port) (s : State) : Reply :=
  let u := s.cu.cancel (portOrigin p)
  accept ([byteOf (s.cu.queue.length - u.queue.length), byteOf u.queue.length] ++ playData u) (s.setCu u)

/-- CANCEL_CHIMES (R94). -/
def execCancelChimes (p : Port) (s : State) : Host.Outcome State Fault Refusal :=
  .next (takenFrame p 0x31 (cancelChimesReply p) s)

/-! ### CHIME_END, GAP_END -/

/-- R89: the entry in play ends and the gap starts. -/
def ChimeUnit.endPlay (u : ChimeUnit) : ChimeUnit := { u with playing := none, gap := some Config.chimeGap }

/-- CHIME_END (R89). With nothing in play there is nothing to end (log 3). -/
def execChimeEnd (s : State) : Host.Outcome State Fault Refusal :=
  .next (timed .chimeEnd s.cu.playing.isSome s.cu.playedOut (whenOut fun s => s.setCu s.cu.endPlay) s)

/-- R89: the gap runs out and the head of the queue, if any, starts. -/
def ChimeUnit.endGap (u : ChimeUnit) : ChimeUnit := ({ u with gap := none } : ChimeUnit).startHead

/-- GAP_END (R89). A gap that has run out does not run out again (log 3). -/
def execGapEnd (s : State) : Host.Outcome State Fault Refusal :=
  .next (timed .gapEnd s.cu.gap.isSome (ranOut s.cu.gap) (whenOut fun s => s.setCu s.cu.endGap) s)

/-! ### The sounder -/

/-- R84: the pitch of a sound at a point of its play time, in Hz; none in its silent parts. -/
def Sound.pitch (elapsed : Nat) : Sound → Option Nat
  | .tick => if elapsed < 20 then some 2400 else none
  | .tock => if elapsed < 20 then some 800 else none
  | .single => if elapsed < 400 then some 1600 else none
  | .triple => if elapsed < 900 && elapsed % 350 < 200 then some 1600 else none

/-- R91: the frequency driven between SNDP and SNDN, in Hz; none while the sounder is silent (log 25). -/
def ChimeUnit.output (u : ChimeUnit) : Option Nat :=
  if u.muted then none
  else
    match u.playing, u.tone with
    | some q, _ => q.chime.sound.pitch q.elapsed
    | none, some t => if t % 1000 < 500 then some 1200 else none
    | none, none => none

end Sys2Proof.Machine
end

