-- ==== Sys2Proof/Machine/Pointer.lean ====
section
/-! DEFINITION. One gauge channel on its own: the curve check (R5), the filter and curve stages (R16 to R18), the motion
law (R26 to R30), the walk of the coils (R31), homing (R35) and the changes of channel state (R33 to R39, R42). -/
namespace Sys2Proof.Machine

/-! ### Curve, filter and target -/

/-- R5: whether the x coordinates rise strictly. -/
def risingX : List Point → Bool
  | p :: q :: rest => p.x < q.x && risingX (q :: rest)
  | _ => true

/-- R5: whether a curve passes its check against a sweep limit. -/
def curvePasses (sweepLimit : Nat) (curve : List Point) : Bool :=
  2 ≤ curve.length && curve.length ≤ 9 && risingX curve && curve.all fun p => p.a ≤ sweepLimit

/-- R16: F after one filter stage toward the value x: the difference divided by 2 to the shift, truncated toward zero. -/
def filterStage (shift x f : Nat) : Nat := ((f : Int) + ((256 * x : Int) - f).tdiv (2 ^ shift)).toNat

/-- R18: a quotient of whole numbers rounded to the nearest whole number, a half away from zero. -/
def roundQuotient (num : Int) (den : Nat) : Int :=
  if 0 ≤ num then (2 * num + den) / (2 * den) else -((2 * (-num) + den) / (2 * den))

/-- R18: the target between two neighbouring points. -/
def interpolate (p q : Point) (v : Nat) : Nat :=
  ((p.a : Int) + roundQuotient (((v : Int) - p.x) * ((q.a : Int) - p.a)) (q.x - p.x)).toNat

/-- R18: the target from a point that v lies at or above, along the points that follow. -/
def targetFrom : Point → List Point → Nat → Nat
  | p, [], _ => p.a
  | p, q :: rest, v => if v < q.x then interpolate p q v else targetFrom q rest v

/-- R18: the target a curve gives for a filtered value. A curve in force has points (R5); the empty curve gives 0. -/
def curveTarget (curve : List Point) (v : Nat) : Nat :=
  match curve with
  | [] => 0
  | p :: rest => if v ≤ p.x then p.a else targetFrom p rest v

/-- R16, R18: a filter update of one channel: the filter and curve stages, while it is TRACKING with an active source. -/
def Channel.filterUpdate (c : Channel) : Channel :=
  match c.state, c.activeValue with
  | .tracking, some x =>
    { c with
      filter := filterStage c.filterShift x c.filter
      target := curveTarget c.curve ((filterStage c.filterShift x c.filter + 128) / 256) }
  | _, _ => c

/-! ### The motion law -/

/-- R28: the stopping distance at a speed. -/
def stoppingDistance (v : Nat) : Nat := v * (v + 1) / 2

/-- R30: a move of n microsteps in the channel's direction, at the speed given; at a limit the pointer stops. -/
def Channel.travel (n speed : Nat) (c : Channel) : Channel :=
  match c.direction with
  | .up =>
    if c.sweepLimit < c.position + n then { c with position := c.sweepLimit, speed := 0 }
    else { c with position := c.position + n, speed }
  | .down =>
    if c.position < n then { c with position := 0, speed := 0 }
    else { c with position := c.position - n, speed }

/-- R26: d = T − P. -/
def Channel.distance (c : Channel) : Int := (c.target : Int) - c.position

/-- R28: the three candidate speeds, in the order they are tried. -/
def Channel.candidates (c : Channel) : List Nat := [min (c.speed + 1) c.vmax, c.speed, c.speed - 1]

/-- R28: the first candidate that is at least 1 and can stop within r. -/
def Channel.candidate (c : Channel) (r : Nat) : Option Nat :=
  c.candidates.find? fun v => 1 ≤ v && stoppingDistance v ≤ r

/-- R27: whether the pointer has arrived. -/
def Channel.arrives (c : Channel) : Bool := c.distance = 0 && c.speed ≤ 1

/-- R27: whether the direction is opposite to the sign of d. -/
def Channel.opposes (c : Channel) : Bool :=
  match c.direction with
  | .up => c.distance < 0
  | .down => 0 < c.distance

/-- R28: the direction the third case sets. -/
def Channel.toward (c : Channel) : Direction :=
  if 0 < c.distance then .up else if c.distance < 0 then .down else c.direction

/-- R27 to R30: one motion interval of the motion law. -/
def Channel.move (c : Channel) : Channel :=
  if c.arrives then { c with speed := 0 }
  else if 0 < c.speed && c.opposes then c.travel (c.speed - 1) (c.speed - 1)
  else
    match c.candidate c.distance.natAbs with
    | some v => Channel.travel (min v c.distance.natAbs) v { c with direction := c.toward }
    | none => Channel.travel (c.speed - 1) (c.speed - 1) { c with direction := c.toward }

/-! ### The walk of the coils -/

/-- R31: the phase index of n, which counts microsteps. -/
def phaseOf (n : Nat) : Nat := n % 48

/-- R31: the phase indices of a walk from one count of microsteps to another, the first left out and the last reached. -/
def phaseWalk (start goal : Nat) : List Nat :=
  if start ≤ goal then (List.range (goal - start)).map fun n => phaseOf (start + n + 1)
  else (List.range (start - goal)).map fun n => phaseOf (start - (n + 1))

/-- R31: one motion interval of the motion law, with the walk of the coils in it. -/
def Channel.stepped (c : Channel) : Channel := { c.move with walk := phaseWalk c.position c.move.position }

/-! ### Channel states -/

/-- R32, R34: a channel enters HOMING; its coils stand at the index of H. -/
def Channel.enterHoming (c : Channel) : Channel :=
  { c with state := .homing, position := 0, speed := 0, target := 0, direction := .down,
           overdrive := c.sweepLimit + Config.homingMargin, walk := [] }

/-- R13, R37: a channel enters TRACKING; without an active source T becomes 0. -/
def Channel.enterTracking (c : Channel) : Channel :=
  { c with state := .tracking, target := if c.active.isNone then 0 else c.target }

/-- R36: a channel enters SWEEP_UP. -/
def Channel.enterSweepUp (c : Channel) : Channel := { c with state := .sweepUp, target := c.sweepLimit }

/-- R33, R35: a homed channel sweeps if sweep_test is set, and tracks otherwise. -/
def Channel.sweepOrTrack (c : Channel) : Channel := if c.sweepTest then c.enterSweepUp else c.enterTracking

/-- R33: what a channel does when the power state enters RUN_CHECK. -/
def Channel.onRunCheck (c : Channel) : Channel :=
  if c.enabled then
    match c.state with
    | .unhomed => c.enterHoming
    | .parked | .parking => c.sweepOrTrack
    | .homing | .sweepUp | .sweepDown | .tracking => c
  else c

/-- R32, R38: what a channel does when the ignition goes off in RUN_CHECK or RUN. -/
def Channel.onIgnitionOff (c : Channel) : Channel :=
  match c.state with
  | .tracking | .sweepUp | .sweepDown => { c with state := .parking, target := 0 }
  | .homing =>
    { c with state := .unhomed, overdrive := 0, position := 0, speed := 0, target := 0, direction := .up, walk := [] }
  | .unhomed | .parking | .parked => c

/-- R32, R42: what a channel does on entering supply low: it stops, and its coils hold their present index. -/
def Channel.onSupplyLow (c : Channel) : Channel :=
  match c.state with
  | .sweepUp | .sweepDown | .tracking | .parking => { c with speed := 0, walk := [] }
  | .unhomed | .homing | .parked => { c with walk := [] }

/-- R36, R39: the state a channel enters at the end of an interval in which it has arrived. -/
def Channel.onArrival (c : Channel) : Channel :=
  match c.state with
  | .sweepUp => { c with state := .sweepDown, target := 0 }
  | .sweepDown => c.enterTracking
  | .parking => { c with state := .parked, walk := [] }
  | .tracking | .unhomed | .homing | .parked => c

/-- R35: one interval of the homing overdrive; at H = 0 the channel is homed. -/
def Channel.homingStep (c : Channel) : Channel :=
  let left := c.overdrive - min 4 c.overdrive
  let stepped := { c with overdrive := left, walk := phaseWalk c.overdrive left }
  if left = 0 then ({ stepped with direction := .up } : Channel).sweepOrTrack else stepped

/-- R26, R35, R36, R39: one unsuspended motion interval of a channel. -/
def Channel.interval (c : Channel) : Channel :=
  match c.state with
  | .homing => c.homingStep
  | .sweepUp | .sweepDown | .tracking | .parking => if c.arrives then c.stepped.onArrival else c.stepped
  | .unhomed | .parked => c

/-- R35: whether a motion interval completes a channel's homing. -/
def Channel.homingDone (c : Channel) : Bool := c.state = .homing && c.overdrive ≤ 4

/-- R22, R32: a channel disabled by SET_CHANNEL. -/
def Channel.disable (c : Channel) : Channel :=
  { c with valueD := none, valueS := none, valueR := none, active := none, filter := 0, target := 0, position := 0,
           speed := 0, overdrive := 0, direction := .up, state := .unhomed, walk := [] }

end Sys2Proof.Machine
end

