-- ==== Sys2Proof/Machine/Cycle.lean ====
section
/-! DEFINITION. The ignition cycle (R184 to R188): the passages between the power states, with what each block does at
them. -/
namespace Sys2Proof.Machine

/-! ### Parts of a passage -/

/-- R184: the power state replaced, and POWER_STATE posted with its code. -/
def enterPower (state : PowerState) (s : State) : State :=
  post .powerState state.code (s.setPwc { s.pwc with state })

/-- R14: every gauge contribution formed afresh, as the power state enters or leaves RUN. -/
def formAllGauge (s : State) : State := formGaugeAny (namedLamps s.ge) s

/-- Every channel passed through f. -/
def mapChannels (f : Channel → Channel) (s : State) : State :=
  s.setGe { s.ge with channels := s.ge.channels.map f }

/-- R173: the supervision timer of a port stops, and its source keeps its state. -/
def stopTimer (p : Port) (s : State) : State := s.setPort p { s.port p with timer := none }

/-- R173: the supervision timer of a LIVE source restarts at its full period. -/
def restartIfLive (p : Port) (s : State) : State :=
  if (s.port p).live then s.setPort p { s.port p with timer := some (10 * (s.port p).period) } else s

/-- R128, R173: what the entry to STANDBY brings: the supervision timers stop, the status cadence stops and the STANDBY
frame falls due. -/
def quiesce (s : State) : State :=
  let t := stopTimer .s (stopTimer .d s)
  txDue .standby (t.setRlu { t.rlu with cadence := none })

/-- R127, R173: what the entry to RUN_CHECK from STANDBY brings: the timers of LIVE sources restart, a STATUS frame falls
due and the cadence starts. -/
def awaken (s : State) : State :=
  let t := restartIfLive .s (restartIfLive .d s)
  txDue .status (t.setRlu { t.rlu with cadence := some Config.cadencePeriod })

/-- R78: INTERNAL joins the holders, the hold becomes active and the internal timer starts. -/
def holdInternal (s : State) : State :=
  post .holdGranted 0
    (s.setLmd { s.lmd with
      hold := { s.lmd.hold with internal := true, active := true, internalTimer := some Config.selfCheckPeriod } })

/-- R81: the hold record is cleared at once, and HOLD_ENDED is posted if the hold was active. -/
def dropHold (s : State) : State :=
  let t := s.setLmd { s.lmd with hold := .reset }
  if s.lmd.hold.active then post .holdEnded 0 t else t

/-- R68: the matrix goes dark at once: the row in its slot is switched off, and the plan of the frame becomes a dark one. -/
def darken (s : State) : State := s.setLmd { s.lmd with plan := .fill none, scanning := false }

/-- R92: the chime queue is emptied, the entry in play stops and the gap becomes run out. -/
def silenceChimes (s : State) : State := s.setCu { s.cu with queue := [], playing := none, gap := none }

/-! ### Passages -/

/-- R186: the passage from RUN_CHECK to RUN. -/
def runEntry (s : State) : State :=
  let t := s.setPwc { s.pwc with selfCheck := .stopped }
  judgeTone (formAllGauge (enterPower .run t))

/-- R188: the passage from PARKING to STANDBY. -/
def parkingDone (s : State) : State := quiesce (enterPower .standby s)

/-- R40, R186, R188: the conditions of the Gauge Engine acted on, as they now stand. -/
def powerConditions (s : State) : State :=
  match s.pwc.state with
  | .runCheck => if s.pwc.selfCheck = .runOut && checkComplete s.ge then runEntry s else s
  | .parking => if parkingComplete s.ge then parkingDone s else s
  | .standby | .run => s

/-- R185: the ignition becomes active in STANDBY or PARKING, and RUN_CHECK is entered. -/
def enterRunCheck (s : State) : State :=
  let t := s.setPwc { s.pwc with selfCheck := .running Config.selfCheckPeriod }
  let u := holdInternal (mapChannels Channel.onRunCheck (enterPower .runCheck t))
  if s.pwc.state = .standby then awaken u else u

/-- R187: the state entered when the ignition goes off: PARKING if any channel is PARKING. -/
def offState (g : GaugeEngine) : PowerState :=
  if g.channels.any fun c => c.state = .parking then .parking else .standby

/-- R187: the ignition becomes inactive in RUN_CHECK or RUN: the channels act under R38 and the state they lead to is
entered; the matrix, the hold and the chimes stop at once. -/
def leaveCycle (s : State) : State :=
  let t := mapChannels Channel.onIgnitionOff (s.setPwc { s.pwc with selfCheck := .stopped })
  let off := silenceChimes (dropHold (darken (enterPower (offState t.ge) t)))
  let shown := judgeTone (if s.pwc.state = .run then formAllGauge off else off)
  if offState t.ge = .standby then quiesce shown else shown

/-- R185: the ignition handed to the Power Controller as active. In RUN_CHECK or RUN, where this cannot arise, nothing else
happens (log 20). -/
def ignitionOn (s : State) : State :=
  let t := s.setPwc { s.pwc with ignition := true }
  match s.pwc.state with
  | .standby | .parking => enterRunCheck t
  | .runCheck | .run => t

/-- R187: the ignition handed to the Power Controller as inactive. In STANDBY or PARKING, where this cannot arise, nothing
else happens (log 20). -/
def ignitionOff (s : State) : State :=
  let t := s.setPwc { s.pwc with ignition := false }
  match s.pwc.state with
  | .runCheck | .run => leaveCycle t
  | .standby | .parking => t

end Sys2Proof.Machine
end

