-- ==== Sys2Proof/Machine/Gauges.lean ====
section
/-! DEFINITION. The commands that reach the gauge channels (chapter 1): SET_VALUE, READ_CHANNEL, SET_CHANNEL, LOAD_CURVE,
and the filter update. -/
namespace Sys2Proof.Machine

/-! ### SET_VALUE -/

/-- R6, R9, R15: a value delivered by a source to the channels given, with the selection made again there. -/
def deliver (concerned : Fin 8 → Bool) (a : Source) (v : Nat) (s : State) : State :=
  gaugeChange concerned (Channel.store a (some v)) s

/-- R19, 12.3: the data of SET_VALUE. -/
def valueData (i : Fin 8) (a : Source) (c : Channel) : List Byte :=
  [byteOf i.val, bitByte (c.active = some a), bitByte c.signal, byteOf c.state.code]

/-- SET_VALUE (R19). -/
def setValueReply (p : Port) (channel : Byte) (value : BitVec 16) (s : State) : Reply :=
  match indexOf 8 channel with
  | none => refuse .range s
  | some i =>
    let c := s.ge.channels.get i
    if !c.enabled then refuse .notPermitted s
    else if !c.lists (portSource p) then refuse .notSource s
    else
      let t := deliver (fun j => j = i) (portSource p) value.toNat s
      accept (valueData i (portSource p) (t.ge.channels.get i)) t

/-- SET_VALUE (R19). -/
def execSetValue (p : Port) (channel : Byte) (value : BitVec 16) (s : State) : Host.Outcome State Fault Refusal :=
  .next (takenFrame p 0x10 (setValueReply p channel value) s)

/-! ### READ_CHANNEL -/

/-- R20, 12.3: READ_CHANNEL part 0. -/
def channelData (i : Fin 8) (c : Channel) : List Byte :=
  [flagByte [c.enabled, c.sweepTest, c.signal, c.pendingCurve.isSome, c.direction = .down], byteOf c.state.code]
    ++ word16 c.sweepLimit ++ [byteOf c.vmax, byteOf c.filterShift]
    ++ [byteOf (16 * c.primary.code + (c.fallback.map Source.code).getD 15), byteOf c.faultLamp.val,
      byteOrAbsent (c.active.map Source.code)]
    ++ word16 (c.activeValue.getD 0) ++ word16 c.filtered ++ word16 c.target ++ word16 c.position
    ++ [byteOf c.speed, byteOf c.curve.length, byteOf i.val]

/-- R20: curve points from a place on, x then a. -/
def pointData (curve : List Point) (start count : Nat) : List Byte :=
  (((curve.drop start).take count).map fun q => word16 q.x ++ word16 q.a).flatten

/-- READ_CHANNEL (R20). -/
def readChannelReply (channel part : Byte) (s : State) : Reply :=
  match indexOf 8 channel, part.toNat with
  | some i, 0 => accept (channelData i (s.ge.channels.get i)) s
  | some i, 1 => accept (pointData (s.ge.channels.get i).curve 0 5) s
  | some i, 2 => accept (pointData (s.ge.channels.get i).curve 5 4) s
  | _, _ => refuse .range s

/-- READ_CHANNEL (R20). -/
def execReadChannel (p : Port) (channel part : Byte) (s : State) : Host.Outcome State Fault Refusal :=
  .next (takenFrame p 0x11 (readChannelReply channel part) s)

/-! ### SET_CHANNEL -/

/-- A SET_CHANNEL's arguments as its rule reads them, once in range and clamped. -/
structure ChannelConfig where
  channel : Fin 8
  enabled : Bool
  sweepLimit : Nat
  vmax : Nat
  filterShift : Nat
  primary : Source
  fallback : Option Source
  faultLamp : Fin 48
  sweepTest : Bool
deriving DecidableEq, Repr

/-- R21: check 3 and the clamps; none where check 3 refuses. -/
def channelConfigOf (args : ChannelArgs) : Option ChannelConfig :=
  match indexOf 8 args.channel, indexOf 48 args.faultLamp, sourceListOfArgs args with
  | some channel, some faultLamp, some (primary, fallback) =>
    some
      { channel, enabled := args.enabled, sweepLimit := clamp 60 3780 args.sweepLimit.toNat,
        vmax := clamp 1 12 args.vmax.toNat, filterShift := clamp 0 7 args.filterShift.toNat, primary, fallback, faultLamp,
        sweepTest := args.sweepTest }
  | _, _, _ => none

/-- A channel whose configuration fields are replaced as a whole (R22). -/
def Channel.withConfig (k : ChannelConfig) (c : Channel) : Channel :=
  { c with enabled := k.enabled, sweepLimit := k.sweepLimit, vmax := k.vmax, filterShift := k.filterShift,
           primary := k.primary, fallback := k.fallback, faultLamp := k.faultLamp, sweepTest := k.sweepTest }

/-- R22: a channel without the values of sources that its list does not hold. -/
def Channel.keepListed (c : Channel) : Channel :=
  { c with valueD := if c.lists .portD then c.valueD else none
           valueS := if c.lists .portS then c.valueS else none
           valueR := if c.lists .recorder then c.valueR else none }

/-- R22, R44: the configuration applied to a channel, but for the selection: the values of an enabled channel's dropped
sources go, a disabled channel loses its running state, and a channel enabled in RUN_CHECK or RUN begins to home. -/
def Channel.configure (cycle : Bool) (k : ChannelConfig) (c : Channel) : Channel :=
  if k.enabled then
    if c.enabled then (c.withConfig k).keepListed
    else if cycle then (c.withConfig k).enterHoming
    else c.withConfig k
  else (c.withConfig k).disable

/-- R22: the lamps whose gauge contribution is formed again: both fault lamps where enabled or fault_lamp changes, and the
fault lamp where the signal changes (R11, R12). -/
def configLamps (before after : Channel) : List (Fin 48) :=
  if before.enabled ≠ after.enabled || before.faultLamp ≠ after.faultLamp then [before.faultLamp, after.faultLamp].dedup
  else if before.signal ≠ after.signal then [after.faultLamp] else []

/-- R22: a channel disabled by the request enters NO_SIGNAL without GAUGE_NO_SIGNAL; every other entry and exit is posted. -/
def postSignalChange (i : Fin 8) (before after : Channel) (s : State) : State :=
  if before.signal && !after.signal && after.enabled then post .gaugeNoSignal i.val s
  else if !before.signal && after.signal then post .gaugeSignalRestored i.val s
  else s

/-- R22, R40, R44: a SET_CHANNEL that has passed its checks. -/
def applyChannel (k : ChannelConfig) (s : State) : State :=
  let before := s.ge.channels.get k.channel
  let after := (before.configure (inCycle s) k).reselect (sourceLive s)
  let placed := s.setGe { s.ge with channels := s.ge.channels.set k.channel after }
  let told := handSpeed (vehicleSpeed s) (postSignalChange k.channel before after placed)
  powerConditions (formGaugeAny (configLamps before after) told)

/-- R21: checks 4 and 5, and the request. -/
def changeChannel (k : ChannelConfig) (s : State) : Reply :=
  let c := s.ge.channels.get k.channel
  if k.enabled && c.state ≠ .unhomed && c.state ≠ .parked then refuse .notNow s
  else if c.curve.any fun q => k.sweepLimit < q.a then refuse .badCurve s
  else accept [] (applyChannel k s)

/-- SET_CHANNEL (R21, R22). -/
def setChannelReply (p : Port) (args : ChannelArgs) (s : State) : Reply :=
  ifConfigurable p s
    (match channelConfigOf args with
      | none => refuse .range s
      | some k => changeChannel k s)

/-- SET_CHANNEL (R21, R22, R44). -/
def execSetChannel (p : Port) (args : ChannelArgs) (s : State) : Host.Outcome State Fault Refusal :=
  .next (takenFrame p 0x12 (setChannelReply p args) s)

/-! ### LOAD_CURVE -/

/-- The state with one channel changed. -/
def modifyChannel (i : Fin 8) (f : Channel → Channel) (s : State) : State :=
  s.setGe { s.ge with channels := s.ge.channels.modify i f }

/-- R23, R24: a complete curve offered to a channel: installed if it passes its check; the pending curve goes in both
cases. -/
def offerCurve (i : Fin 8) (curve : List Point) (s : State) : Reply :=
  if curvePasses (s.ge.channels.get i).sweepLimit curve then
    accept [] (modifyChannel i (fun c => { c with curve, pendingCurve := none }) s)
  else { refuse .badCurve s with state := modifyChannel i Channel.dropPending s }

/-- LOAD_CURVE part 0, or a part above 1 (R23). -/
def loadCurvePart0Reply (p : Port) (channel part : BitVec 4) (n : Byte) (points : Tab PointArg 5) (s : State) : Reply :=
  ifConfigurable p s
    (match indexOf 8 (channel.zeroExtend 8) with
      | none => refuse .range s
      | some i =>
        if 1 < part.toNat then refuse .range s
        else if n.toNat < 2 || 9 < n.toNat then refuse .badCurve s
        else
          let given := points.val.map pointOfArg
          if n.toNat ≤ 5 then offerCurve i (given.take n.toNat) s
          else accept [] (modifyChannel i (fun c => { c with pendingCurve := some ⟨n.toNat, given⟩ }) s))

/-- LOAD_CURVE part 0, or a part above 1 (R23). -/
def execLoadCurvePart0 (p : Port) (channel part : BitVec 4) (n : Byte) (points : Tab PointArg 5) (s : State) :
    Host.Outcome State Fault Refusal :=
  .next (takenFrame p 0x13 (loadCurvePart0Reply p channel part n points) s)

/-- LOAD_CURVE part 1 (R24). -/
def loadCurvePart1Reply (p : Port) (channel : BitVec 4) (points : Tab PointArg 4) (s : State) : Reply :=
  ifConfigurable p s
    (match indexOf 8 (channel.zeroExtend 8) with
      | none => refuse .range s
      | some i =>
        match (s.ge.channels.get i).pendingCurve with
        | none => refuse .notNow s
        | some q => offerCurve i (q.points ++ (points.val.map pointOfArg).take (q.n - 5)) s)

/-- LOAD_CURVE part 1 (R24). -/
def execLoadCurvePart1 (p : Port) (channel : BitVec 4) (points : Tab PointArg 4) (s : State) :
    Host.Outcome State Fault Refusal :=
  .next (takenFrame p 0x13 (loadCurvePart1Reply p channel points) s)

/-! ### FILTER_UPDATE -/

/-- R16, R18: the filter and curve stages of every channel that qualifies. -/
def filterAll (s : State) : State :=
  s.setGe { s.ge with channels := s.ge.channels.map Channel.filterUpdate, filterTime := 0 }

/-- FILTER_UPDATE (R16). -/
def execFilterUpdate (s : State) : Host.Outcome State Fault Refusal :=
  .next (timed .filterUpdate true (Config.filterPeriod ≤ s.ge.filterTime) (whenOut filterAll) s)

end Sys2Proof.Machine
end

