-- ==== Sys2Proof/Machine/Inputs.lean ====
section
/-! DEFINITION. The Discrete Input Unit (chapter 9): sampling, debouncing, edges, and the two input commands. -/
namespace Sys2Proof.Machine

/-! ### Edges (R158 to R162) -/

/-- R159: the active state of an input, from its debounced level and its polarity. -/
def InputRecord.formActive (r : InputRecord) : InputRecord := { r with active := r.debounced = r.activeHigh }

/-- R162: whether an edge of an input posts DISCRETE_EDGE. -/
def InputRecord.postsEdge (rising : Bool) (r : InputRecord) : Bool :=
  (r.function = .lamp || r.function = .event) && r.edge.covers rising

/-- R159 to R161: a changed active state handed to the neighbour that the input's function names. -/
def handActive (r : InputRecord) (s : State) : State :=
  match r.function with
  | .ignition => if r.active then ignitionOn s else ignitionOff s
  | .lamp => formInputs [r.target] s
  | .event | .none => s

/-- R158, R159, R162: an edge: the debounced level of an input takes its raw level, and its wait becomes 0. -/
def edge (i : Fin 12) (s : State) : State :=
  let old := s.inputs.get i
  let new := ({ old with debounced := old.raw, wait := 0 } : InputRecord).formActive
  let t := s.setInputs (s.inputs.set i new)
  let told := if new.postsEdge new.debounced then post .discreteEdge i.val t else t
  if new.active = old.active then told else handActive new told

/-- DEBOUNCE_COMPLETE (R158). An input whose raw level is its debounced level has no edge to make (log 3). -/
def execDebounceComplete (input : Fin 12) (s : State) : Host.Outcome State Fault Refusal :=
  .next (whenOut (fun s => if (s.inputs.get input).raw = (s.inputs.get input).debounced then s else edge input s) s)

/-! ### Sampling (R157) -/

/-- R157: how a voltage reads, given how the sample before it read. A voltage at a threshold reads as between the two (log
34). -/
def sampleLevel (millivolts : Int) (before : Bool) : Bool :=
  if Config.inputHigh < millivolts then true else if millivolts < Config.inputLow then false else before

/-- R157, R158: one sample stored and counted; an edge is left to `edge`. -/
def InputRecord.sample (millivolts : Int) (r : InputRecord) : InputRecord :=
  let raw := sampleLevel millivolts r.raw
  { r with raw, wait := if raw = r.debounced then 0 else r.wait + 1 }

/-- R158: whether the sample just counted completes the wait. -/
def InputRecord.waited (r : InputRecord) : Bool := r.raw ≠ r.debounced && r.debounce ≤ r.wait

/-- R157, R158: every input sampled at one moment; the edges that this completes come in some order (log 4, 9). -/
def sampleInputs (millivolts : Tab Int 12) (s : State) : State :=
  let t := s.setPins { s.pins with inputs := millivolts }
  let u := t.setInputs (t.inputs.mapIdx fun i r => r.sample (millivolts.get i))
  inSomeOrder (u.inputs.indices InputRecord.waited) (forEach edge) u

/-- INPUT_SAMPLE (R157). -/
def execInputSample (millivolts : Tab Int 12) (s : State) : Host.Outcome State Fault Refusal :=
  .next (whenOut (sampleInputs millivolts) s)

/-! ### SET_INPUT -/

/-- A SET_INPUT's arguments as its rule reads them, once in range and clamped. -/
structure InputConfig where
  input : Fin 12
  function : InputFunction
  target : Fin 48
  lampState : Lit
  activeHigh : Bool
  debounce : Nat
  edge : EdgeSelection
deriving DecidableEq, Repr

/-- R163: check 3; none where it refuses. -/
def inputConfigOf (a : InputArgs) : Option InputConfig :=
  match indexOf 12 a.input, functionOfCode a.function, indexOf 48 a.target, litOfCode a.lampState,
    polarityOfCode a.polarity, edgeOfCode a.edge with
  | some input, some function, some target, some lampState, some activeHigh, some edge =>
    some { input, function, target, lampState, activeHigh, debounce := debounceOfByte a.debounce, edge }
  | _, _, _, _, _, _ => none

/-- R164: an input whose six configured fields are replaced, with its active state formed again. -/
def InputRecord.configure (k : InputConfig) (r : InputRecord) : InputRecord :=
  ({ r with function := k.function, target := k.target, lampState := k.lampState, activeHigh := k.activeHigh,
            debounce := k.debounce, edge := k.edge } : InputRecord).formActive

/-- R164: the lamps whose input contribution is formed again: both target lamps, where the function is or was LAMP. -/
def inputLamps (before after : InputRecord) : List (Fin 48) :=
  if before.function = .lamp || after.function = .lamp then [before.target, after.target] else []

/-- R49, R164: one update of the input contributions of the lamps given; a lamp that becomes mapped loses its
written_D. -/
def remapLamps (lamps : List (Fin 48)) (before : Tab InputRecord 12) (s : State) : State :=
  lampUpdate (fun i l =>
    if lamps.contains i then
      { l with input := inputContribution s.inputs i
               writtenD := if isMapped s.inputs i && !isMapped before i then none else l.writtenD }
    else l) s

/-- R164: a SET_INPUT that has passed its checks. -/
def applyInput (k : InputConfig) (s : State) : State :=
  let old := s.inputs.get k.input
  let new := old.configure k
  let t := s.setInputs (s.inputs.set k.input new)
  if inputLamps old new = [] then t else remapLamps (inputLamps old new) s.inputs t

/-- R164, 12.3: the data of SET_INPUT. -/
def inputData (i : Fin 12) (r : InputRecord) : List Byte :=
  [byteOf i.val, byteOf r.function.code, byteOf r.target.val, byteOf r.lampState.code, bitByte (!r.activeHigh),
    byteOf (r.debounce / 10), byteOf r.edge.code, flagByte [r.raw, r.debounced, r.active]]

/-- SET_INPUT (R163, R164). -/
def setInputReply (p : Port) (args : InputArgs) (s : State) : Reply :=
  ifConfigurable p s
    (match inputConfigOf args with
      | none => refuse .range s
      | some k =>
        if k.input = 0 then refuse .notPermitted s
        else accept (inputData k.input ((applyInput k s).inputs.get k.input)) (applyInput k s))

/-- SET_INPUT (R163, R164). -/
def execSetInput (p : Port) (args : InputArgs) (s : State) : Host.Outcome State Fault Refusal :=
  .next (takenFrame p 0x60 (setInputReply p args) s)

/-! ### READ_INPUTS -/

/-- R165, 12.3: the data of READ_INPUTS. -/
def inputsData (t : Tab InputRecord 12) : List Byte :=
  inputWord t (·.raw) ++ inputWord t (·.debounced) ++ inputWord t (·.active)

/-- READ_INPUTS (R165). -/
def execReadInputs (p : Port) (s : State) : Host.Outcome State Fault Refusal :=
  .next (takenFrame p 0x61 (fun s => accept (inputsData s.inputs) s) s)

end Sys2Proof.Machine
end

