-- ==== Sys2Proof/Machine/Matrix.lean ====
section
/-! DEFINITION. The Lamp Matrix Driver (chapter 4): its commands, the scan, the flash timers, the duties, open detection and
the lamp test hold. -/
namespace Sys2Proof.Machine

/-! ### READ_LAMPS, SET_DIMMING, SET_SAFETY_FLOOR -/

/-- R82, 12.3: the byte of one lamp place; a place beyond L47 reads OFF, not lit, INFO and clear. -/
def lampPlace (s : State) (place : Nat) : Byte :=
  if h : place < 48 then
    let l := s.lamps.get ⟨place, h⟩
    flagByte [l.resolved.rank % 2 = 1, 2 ≤ l.resolved.rank, isLit s ⟨place, h⟩, l.cls = .safety,
      (s.lmd.readings.get ⟨place, h⟩).openFault]
  else 0

/-- R82, 12.3: the data of READ_LAMPS. -/
def lampData (s : State) (start : Nat) : List Byte :=
  ((List.range 16).map fun i => lampPlace s (start + i)) ++
    [byteOf (min 16 (48 - start)), byteOf s.lmd.dimming, byteOf s.lmd.floor, holdByte s.lmd.hold]

/-- READ_LAMPS (R82). -/
def readLampsReply (start : Byte) (s : State) : Reply :=
  if 47 < start.toNat then refuse .range s else accept (lampData s start.toNat) s

/-- READ_LAMPS (R82). -/
def execReadLamps (p : Port) (start : Byte) (s : State) : Host.Outcome State Fault Refusal :=
  .next (takenFrame p 0x21 (readLampsReply start) s)

/-- SET_DIMMING (R72). -/
def setDimmingReply (p : Port) (level : Byte) (s : State) : Reply :=
  ifPortD p s (accept [byteOf (min 15 level.toNat)] (s.setLmd { s.lmd with dimming := min 15 level.toNat }))

/-- SET_DIMMING (R72). -/
def execSetDimming (p : Port) (level : Byte) (s : State) : Host.Outcome State Fault Refusal :=
  .next (takenFrame p 0x22 (setDimmingReply p level) s)

/-- SET_SAFETY_FLOOR (R73). -/
def setSafetyFloorReply (p : Port) (floor : Byte) (s : State) : Reply :=
  ifConfigurable p s
    (accept [byteOf (clamp 4 16 floor.toNat)] (s.setLmd { s.lmd with floorRequested := clamp 4 16 floor.toNat }))

/-- SET_SAFETY_FLOOR (R73). -/
def execSetSafetyFloor (p : Port) (floor : Byte) (s : State) : Host.Outcome State Fault Refusal :=
  .next (takenFrame p 0x24 (setSafetyFloorReply p floor) s)

/-! ### LAMP_TEST -/

/-- The state with the hold record changed. -/
def modifyHold (f : Hold → Hold) (s : State) : State := s.setLmd { s.lmd with hold := f s.lmd.hold }

/-- R79: PORT_S joins the holder set and its timer starts. -/
def Hold.grantPortS (h : Hold) : Hold :=
  { h with portS := true, request := false, active := true, portSTimer := some Config.portSHoldPeriod }

/-- R79: PORT_S is granted its share of the hold. -/
def grantPortS (s : State) : State := post .holdGranted 1 (modifyHold Hold.grantPortS s)

/-- R79: a request for the hold that has passed its checks. -/
def requestHold (s : State) : State :=
  let h := s.lmd.hold
  if h.portS || h.request then s
  else if h.internal then grantPortS s
  else modifyHold (fun h => { h with request := true }) s

/-- R80: PORT_S leaves the holder set. -/
def Hold.dropPortS (h : Hold) : Hold := { h with portS := false, portSTimer := none }

/-- R80: a release that has passed its checks. -/
def releaseHold (s : State) : State :=
  if s.lmd.hold.request then modifyHold (fun h => { h with request := false }) s
  else if s.lmd.hold.portS then modifyHold Hold.dropPortS s
  else s

/-- R79, R80: the checks of a LAMP_TEST with the action given, and what it then does. -/
def lampTestReply (p : Port) (action : Nat) (act : State → State) (s : State) : Reply :=
  ifPortS p s
    (if 1 < action then refuse .range s
     else if !inCycle s then refuse .notNow s
     else accept [holdByte (act s).lmd.hold] (act s))

/-- LAMP_TEST with an action other than 0 (R79). -/
def execLampTestRequest (p : Port) (action : Byte) (s : State) : Host.Outcome State Fault Refusal :=
  .next (takenFrame p 0x25 (lampTestReply p action.toNat requestHold) s)

/-- LAMP_TEST with action 0 (R80). -/
def execLampTestRelease (p : Port) (s : State) : Host.Outcome State Fault Refusal :=
  .next (takenFrame p 0x25 (lampTestReply p 0 releaseHold) s)

/-- R78: INTERNAL leaves the holder set. -/
def Hold.dropInternal (h : Hold) : Hold := { h with internal := false, internalTimer := none }

/-- INTERNAL_TIMER_EXPIRY (R78): INTERNAL leaves the holder set. A stopped timer does not run out (log 3). -/
def execInternalTimerExpiry (s : State) : Host.Outcome State Fault Refusal :=
  .next (timed .internalTimerExpiry s.lmd.hold.internalTimer.isSome (ranOut s.lmd.hold.internalTimer)
    (whenOut (modifyHold Hold.dropInternal)) s)

/-- PORT_S_TIMER_EXPIRY (R80): PORT_S leaves the holder set. A stopped timer does not run out (log 3). -/
def execPortSTimerExpiry (s : State) : Host.Outcome State Fault Refusal :=
  .next (timed .portSTimerExpiry s.lmd.hold.portSTimer.isSome (ranOut s.lmd.hold.portSTimer)
    (whenOut (modifyHold Hold.dropPortS)) s)

/-! ### SCAN_FRAME_START -/

/-- R69: the SLOW timer in its lit half. -/
def slowLit (m : LampMatrix) : Bool := m.slowTime < 500

/-- R69: the FAST timer in its lit half. -/
def fastLit (m : LampMatrix) : Bool := m.fastTime < 125

/-- R69: both flash timers n ms later. -/
def LampMatrix.flash (n : Nat) (m : LampMatrix) : LampMatrix :=
  { m with slowTime := (m.slowTime + n) % 1000, fastTime := (m.fastTime + n) % 250 }

/-- R70: whether a resolved state lights its lamp in a frame, outside the hold. -/
def litByState (m : LampMatrix) : LampState → Bool
  | .off => false
  | .on => true
  | .slow => slowLit m
  | .fast => fastLit m

/-- R71: the duty of a lit lamp. -/
def dutyOf (m : LampMatrix) (supplyLow : Bool) (cls : LampClass) : Nat :=
  if supplyLow then m.floor
  else if m.hold.active then 16
  else
    match cls with
    | .info => m.dimming + 1
    | .safety => max (m.dimming + 1) m.floor

/-- R67, R68, R70, R71, R77: the frame plan, from its inputs as they stand. -/
def framePlan (s : State) : Tab (Option Nat) 48 :=
  s.lamps.map fun l =>
    if inCycle s && (s.lmd.hold.active || litByState s.lmd l.resolved) then some (dutyOf s.lmd s.pwc.supplyLow l.cls)
    else none

/-- R79: at a frame boundary a pending request is granted. -/
def grantPending (s : State) : State := if s.lmd.hold.request then grantPortS s else s

/-- R80: at a frame boundary a hold that no one keeps ends. -/
def endUnheld (s : State) : State :=
  let h := s.lmd.hold
  if h.active && !h.internal && !h.portS then post .holdEnded 0 (modifyHold (fun h => { h with active := false }) s) else s

/-- R66, R67, R68, R73: the start of a scan frame; its rows are switched on in RUN_CHECK and RUN
alone. The flash timers take the slots of the old frame that did not end one by one. -/
def scanFrameStart (s : State) : State :=
  let t := endUnheld (grantPending (s.setLmd { s.lmd.flash (6 - s.lmd.slot) with slot := 0 }))
  let u := t.setLmd { t.lmd with floor := t.lmd.floorRequested }
  u.setLmd { u.lmd with plan := framePlan u, scanning := inCycle u }

/-- SCAN_FRAME_START (R67). -/
def execScanFrameStart (s : State) : Host.Outcome State Fault Refusal :=
  .next (timed .scanFrameStart true (6 ≤ s.lmd.slot) (whenOut scanFrameStart) s)

/-! ### ROW_SLOT_END -/

/-- R75: one reading, OK or LOW, in a lamp's record. -/
def OpenRecord.read (ok : Bool) (r : OpenRecord) : OpenRecord :=
  if ok then
    { r with low := 0, good := min 3 (r.good + 1), openFault := r.openFault && !(r.good = 2) }
  else
    { r with low := min 3 (r.low + 1), good := 0, openFault := r.openFault || r.low = 2 }

/-- R74: whether a lamp receives a reading at the end of its slot. -/
def isRead (plan : Tab (Option Nat) 48) (n : Fin 48) : Bool :=
  match plan.get n with
  | some d => 4 ≤ d
  | none => false

/-- The lamps of a row. -/
def lampsOfRow (row : Nat) : List (Fin 48) := (List.finRange 8).filterMap (lampAt row)

/-- The column of a lamp (R66). -/
def lampColumn (n : Fin 48) : Fin 8 := ⟨n.val % 8, Nat.mod_lt _ (by decide)⟩

/-- R75: an open fault that a reading set or cleared: its event, and the Telltale Table's own update. -/
def handFault (n : Fin 48) (s : State) : State :=
  let kind := if (s.lmd.readings.get n).openFault then EventKind.lampOpen else EventKind.lampRestored
  lampUpdate (fun _ l => l) (post kind n.val s)

/-- R74, R75: one lamp's reading. -/
def readLamp (draws : Tab Bool 8) (n : Fin 48) (s : State) : State :=
  let old := s.lmd.readings.get n
  let new := old.read (draws.get (lampColumn n))
  let t := s.setLmd { s.lmd with readings := s.lmd.readings.set n new }
  if old.openFault = new.openFault then t else handFault n t

/-- R74: the lamps that receive a reading at the end of the row slot in progress. -/
def readLamps (m : LampMatrix) : List (Fin 48) := (lampsOfRow m.slot).filter (isRead m.plan)

/-- The lamps of those read whose open fault the readings change: only their order can show. -/
def faultsChanged (draws : Tab Bool 8) (m : LampMatrix) : List (Fin 48) :=
  (readLamps m).filter fun n =>
    ((m.readings.get n).read (draws.get (lampColumn n))).openFault ≠ (m.readings.get n).openFault

/-- The lamps of those read whose open fault the readings leave as it is. -/
def faultsKept (draws : Tab Bool 8) (m : LampMatrix) : List (Fin 48) :=
  (readLamps m).filter fun n =>
    ((m.readings.get n).read (draws.get (lampColumn n))).openFault = (m.readings.get n).openFault

/-- Log 10: the column sense of the row in its slot, as the latest command found it. -/
def Pins.sensed (row : Nat) (draws : Tab Bool 8) (p : Pins) : Pins :=
  { p with draws := p.draws.mapIdx fun n d => if n.val / 8 = row then draws.get (lampColumn n) else d }

/-- R66, R69, R74, R75: the end of the row slot in progress. When all six slots of the frame have ended nothing happens
until the next frame starts (log 3). -/
def rowSlotEnd (draws : Tab Bool 8) (s : State) : State :=
  if s.lmd.slot < 6 then
    let quiet := forEach (readLamp draws) (faultsKept draws s.lmd) s
    let told := inSomeOrder (faultsChanged draws s.lmd) (forEach (readLamp draws)) quiet
    let t := told.setLmd { told.lmd.flash 1 with slot := s.lmd.slot + 1 }
    t.setPins (t.pins.sensed s.lmd.slot draws)
  else s

/-- ROW_SLOT_END (R74). -/
def execRowSlotEnd (draws : Tab Bool 8) (s : State) : Host.Outcome State Fault Refusal :=
  .next (whenOut (rowSlotEnd draws) s)

/-! ### Row and column drive -/

/-- R66, R68: whether a row is switched on: in its own slot, in a frame that scans. -/
def rowDrive (s : State) (row : Fin 6) : Bool := s.lmd.scanning && s.lmd.slot = row.val

/-- R66: the on-time of a lamp of the row in its slot, in sixteenths of the slot; none where its column does not sink. -/
def columnDrive (s : State) (col : Fin 8) : Option Nat :=
  match lampAt s.lmd.slot col with
  | some n => s.lmd.plan.get n
  | none => none

end Sys2Proof.Machine
end

