-- ==== Sys2Proof/Machine/Motion.lean ====
section
/-! DEFINITION. The motion interval (R26), and the coil drive of a channel (R31, R32). -/
namespace Sys2Proof.Machine

/-! ### Coil drive -/

/-- The drive of one coil pair: no current, or the currents of a phase index (R31, R32). -/
inductive CoilDrive
  | released
  | energized (phase : Nat)
deriving DecidableEq, Repr

/-- R31, R32: the coils of a channel as it stands. Their currents are CoilDrive.currentA and CoilDrive.currentB. -/
def Channel.coils (c : Channel) : CoilDrive :=
  match c.state with
  | .unhomed | .parked => .released
  | .homing => .energized (phaseOf c.overdrive)
  | .sweepUp | .sweepDown | .tracking | .parking => .energized (phaseOf c.position)

/-- R31, R32, R42: the coils of a channel so many microseconds into the latest motion interval, of 2 ms: each index of its
walk is held for an equal share, and a channel that does not step holds its own (log 21). Released coils, and those of a
suspended motion, stand as the channel stands. -/
def Channel.coilsDuring (c : Channel) (suspended : Bool) (micros : Nat) : CoilDrive :=
  match c.coils with
  | .released => .released
  | .energized k =>
    if suspended then .energized k
    else .energized (c.walk.getD (micros * c.walk.length / (1000 * Config.motionPeriod)) k)

/-! ### MOTION_INTERVAL -/

/-- The channels, in rising order, whose homing this interval completes (R35). -/
def channelsHomed (g : GaugeEngine) : List (Fin 8) := g.channels.indices Channel.homingDone

/-- R26, R35: one unsuspended interval of every channel, with HOMING_DONE for each that is homed. -/
def moveAll (s : State) : State :=
  postAll .homingDone ((channelsHomed s.ge).map (·.val)) (mapChannels Channel.interval s)

/-- R26, R42: a motion interval; while the supply is low nothing moves. -/
def motionInterval (s : State) : State :=
  let t := s.setGe { s.ge with motionTime := 0 }
  if s.pwc.supplyLow then t else powerConditions (moveAll t)

/-- MOTION_INTERVAL (R26). -/
def execMotionInterval (s : State) : Host.Outcome State Fault Refusal :=
  .next (timed .motionInterval true (Config.motionPeriod ≤ s.ge.motionTime) (whenOut motionInterval) s)

end Sys2Proof.Machine
end

