-- ==== Sys2Proof/Machine/PortCommands.lean ====
section
/-! DEFINITION. The commands of the ports themselves (chapter 10): NOP, unknown codes, frames not taken, status, events, the
config window, supervision, and the expiry of a supervision timer. -/
namespace Sys2Proof.Machine

/-! ### NOP, UNKNOWN_COMMAND, BAD_FRAME -/

/-- NOP (R170). -/
def execNop (p : Port) (s : State) : Host.Outcome State Fault Refusal := .next (takenFrame p 0x00 (accept []) s)

/-- UNKNOWN_COMMAND (R170). -/
def execUnknownCommand (p : Port) (code : Byte) (s : State) : Host.Outcome State Fault Refusal :=
  .next (takenFrame p code (refuse .unknownCommand) s)

/-- R168: the answer to a frame that is not taken. -/
def Response.badFrame : Response := { command := 0, result := .badFrame, data := .fill 0 }

/-- BAD_FRAME (R167, R168): the pending response shifts out and is replaced; nothing else happens. -/
def execBadFrame (p : Port) (s : State) : Host.Outcome State Fault Refusal :=
  .next (whenOut (fun s => respond p .badFrame (shiftOut p none s)) s)

/-! ### READ_STATUS, CLEAR_RESET_CAUSE -/

/-- R177, 12.3: the data of READ_STATUS. -/
def statusData (p : Port) (s : State) : List Byte :=
  word16 Config.identity ++
    [byteOf Config.revision, causeByte s.pwc.causes, byteOf s.pwc.state.code, statusFlags s,
      byteOf (kindsPending (s.port p).events)]

/-- READ_STATUS (R177). -/
def execReadStatus (p : Port) (s : State) : Host.Outcome State Fault Refusal :=
  .next (takenFrame p 0x01 (fun s => accept (statusData p s) s) s)

/-- CLEAR_RESET_CAUSE (R177). -/
def clearCauseReply (s : State) : Reply := accept [causeByte .empty] (s.setPwc { s.pwc with causes := .empty })

/-- CLEAR_RESET_CAUSE (R177). -/
def execClearResetCause (p : Port) (s : State) : Host.Outcome State Fault Refusal :=
  .next (takenFrame p 0x02 clearCauseReply s)

/-! ### FETCH_EVENT, SET_EVENT_LEVEL -/

/-- R182: the highest level among the pending kinds; 0 when none is pending. -/
def topLevel (t : Tab EventRecord 26) : Nat := ((t.val.filter EventRecord.isPending).map (·.level)).foldl max 0

/-- R182: the kind a fetch picks: the lowest number among the pending kinds of the highest level. -/
def pickedKind (t : Tab EventRecord 26) : Option (Fin 26) :=
  (t.indices fun r => r.isPending && r.level = topLevel t).head?

/-- R181, R182: a record removed. -/
def EventRecord.removed (r : EventRecord) : EventRecord := { r with count := 0, argument := 0 }

/-- The state with the event table of a port changed. -/
def modifyEvents (p : Port) (f : Tab EventRecord 26 → Tab EventRecord 26) (s : State) : State :=
  s.setPort p { s.port p with events := f (s.port p).events }

/-- FETCH_EVENT (R182). -/
def fetchReply (p : Port) (s : State) : Reply :=
  match pickedKind (s.port p).events with
  | none => accept [0xFF, 0, 0, 0] s
  | some k =>
    let r := (s.port p).events.get k
    let t := modifyEvents p (fun e => e.modify k EventRecord.removed) s
    accept [byteOf k.val, byteOf r.count, byteOf r.argument, byteOf (kindsPending (t.port p).events)] t

/-- FETCH_EVENT (R182). -/
def execFetchEvent (p : Port) (s : State) : Host.Outcome State Fault Refusal := .next (takenFrame p 0x03 (fetchReply p) s)

/-- R181: a record given a new level; at level 0 an occurrence that is pending is removed. -/
def EventRecord.withLevel (level : Nat) (r : EventRecord) : EventRecord :=
  if level = 0 then { level, count := 0, argument := 0 } else { r with level }

/-- R181: whether a port may set the level of a kind. -/
def levelFixed (p : Port) (k : Fin 26) : Bool :=
  match p with
  | .d => false
  | .s => fixedAtPortS k

/-- R181, 12.3: the data of SET_EVENT_LEVEL. -/
def levelData (k : Fin 26) (r : EventRecord) : List Byte :=
  [byteOf k.val, byteOf r.level, bitByte r.isPending, byteOf r.count]

/-- SET_EVENT_LEVEL (R181). -/
def setEventLevelReply (p : Port) (kind level : Byte) (s : State) : Reply :=
  match indexOf 26 kind with
  | none => refuse .range s
  | some k =>
    if 3 < level.toNat then refuse .range s
    else if levelFixed p k then refuse .notPermitted s
    else
      let t := modifyEvents p (fun e => e.modify k (EventRecord.withLevel level.toNat)) s
      accept (levelData k ((t.port p).events.get k)) t

/-- SET_EVENT_LEVEL (R181). -/
def execSetEventLevel (p : Port) (kind level : Byte) (s : State) : Host.Outcome State Fault Refusal :=
  .next (takenFrame p 0x04 (setEventLevelReply p kind level) s)

/-! ### OPEN_CONFIG, CLOSE_CONFIG, SET_SUPERVISION -/

/-- R175: whether the vehicle speed value keeps the window shut. -/
def tooFast (s : State) : Bool :=
  match vehicleSpeed s with
  | some v => Config.windowSpeed ≤ v
  | none => false

/-- OPEN_CONFIG (R175). -/
def openConfigReply (p : Port) (s : State) : Reply :=
  ifPortS p s
    (if tooFast s then refuse .notNow s
     else accept ([bitByte true, bitByte (vehicleSpeed s).isSome] ++ word16 ((vehicleSpeed s).getD 0)) (s.setWindow true))

/-- OPEN_CONFIG (R175). -/
def execOpenConfig (p : Port) (s : State) : Host.Outcome State Fault Refusal :=
  .next (takenFrame p 0x05 (openConfigReply p) s)

/-- CLOSE_CONFIG (R176). -/
def closeConfigReply (p : Port) (s : State) : Reply := ifPortS p s (accept [bitByte false] (closeWindow s))

/-- CLOSE_CONFIG (R176). -/
def execCloseConfig (p : Port) (s : State) : Host.Outcome State Fault Refusal :=
  .next (takenFrame p 0x06 (closeConfigReply p) s)

/-- R174: the period of a port replaced. -/
def setPeriod (p : Port) (n : Nat) (s : State) : State := s.setPort p { s.port p with period := n }

/-- SET_SUPERVISION (R174). -/
def setSupervisionReply (p : Port) (periodD periodS : Byte) (s : State) : Reply :=
  ifConfigurable p s
    (accept [byteOf (clamp 5 200 periodD.toNat), byteOf (clamp 5 100 periodS.toNat)]
      (setPeriod .s (clamp 5 100 periodS.toNat) (setPeriod .d (clamp 5 200 periodD.toNat) s)))

/-- SET_SUPERVISION (R174). -/
def execSetSupervision (p : Port) (periodD periodS : Byte) (s : State) : Host.Outcome State Fault Refusal :=
  .next (takenFrame p 0x07 (setSupervisionReply p periodD periodS) s)

/-! ### Supervision (R171) -/

/-- R171: a port's source becomes SILENT, and its readers act; for PORT_S the config window closes. -/
def silencePort (p : Port) (s : State) : State :=
  let t := post .sourceSilent (portSource p).code (s.setPort p { s.port p with live := false, timer := none })
  let u := match p with
    | .d => t
    | .s => closeWindow t
  silenceSource (portSource p) (discardWritten p) u

/-- SUPERVISION_TIMER_EXPIRY (R171). A stopped timer does not run out, nor one that a frame of the same
moment restarted (log 3). -/
def execSupervisionTimerExpiry (p : Port) (s : State) : Host.Outcome State Fault Refusal :=
  .next (timed (.supervisionTimerExpiry p) (s.port p).timer.isSome (ranOut (s.port p).timer) (whenOut (silencePort p)) s)

end Sys2Proof.Machine
end

