-- ==== Sys2Proof/Machine/Drivers.lean ====
section
/-! DEFINITION. Driver activity and driving time (chapter 8): tallies, crediting, warnings, history, cards, summaries, the
basis, and the three driver commands. -/
namespace Sys2Proof.Machine

/-! ### Records -/

/-- The driver record of a slot. -/
def Accounting.record (a : Accounting) : Slot → DriverRecord
  | .one => a.one
  | .two => a.two

/-- The state with the driver record of a slot replaced. -/
def setRecord (slot : Slot) (r : DriverRecord) (s : State) : State :=
  match slot with
  | .one => s.setAau { s.aau with one := r }
  | .two => s.setAau { s.aau with two := r }

/-- The state with the driver record of a slot changed. -/
def modifyRecord (slot : Slot) (f : DriverRecord → DriverRecord) (s : State) : State :=
  setRecord slot (f (s.aau.record slot)) s

/-- R147: the generation advanced by one, wrapping. -/
def DriverRecord.nextGeneration (r : DriverRecord) : DriverRecord := { r with generation := r.generation + 1 }

/-! ### Tallies (R136 to R138) -/

/-- The tally of one activity. -/
def Tallies.of (t : Tallies) : Activity → Nat
  | .unknown => t.unknown | .rest => t.rest | .available => t.available | .work => t.work | .drive => t.drive

/-- R136: one second added to the tally of an activity, which stays at 60. -/
def Tallies.addSecond (t : Tallies) : Activity → Tallies
  | .unknown => { t with unknown := min 60 (t.unknown + 1) }
  | .rest => { t with rest := min 60 (t.rest + 1) }
  | .available => { t with available := min 60 (t.available + 1) }
  | .work => { t with work := min 60 (t.work + 1) }
  | .drive => { t with drive := min 60 (t.drive + 1) }

/-- R138: the order in which equal tallies are preferred. -/
def creditOrder : List Activity := [.drive, .work, .available, .rest, .unknown]

/-- R138: the largest tally. -/
def Tallies.largest (t : Tallies) : Nat := (creditOrder.map t.of).foldl max 0

/-- R138: the activity with the largest tally, the first in the order where several share it; none when all are 0. -/
def Tallies.pick (t : Tallies) : Option Activity :=
  if t.largest = 0 then none else creditOrder.find? fun a => t.of a = t.largest

/-- R136: the second tick in one record. -/
def DriverRecord.tally (r : DriverRecord) : DriverRecord :=
  if r.card then { r with tallies := r.tallies.addSecond r.activity } else r

/-- R136: the second tick, in both records. -/
def tallySecond (s : State) : State := s.setAau { s.aau with one := s.aau.one.tally, two := s.aau.two.tally }

/-- R137: the tallies of both records discarded. -/
def discardTallies (s : State) : State :=
  s.setAau { s.aau with one := { s.aau.one with tallies := .zero }, two := { s.aau.two with tallies := .zero } }

/-! ### Counters (R140, R141) -/

/-- R140: a rest run ends. -/
def DriverRecord.endRestRun (r : DriverRecord) : DriverRecord :=
  if 0 < r.restRun then
    { r with firstPart := r.firstPart || (15 ≤ r.restRun && !r.runQualified), restRun := 0, runQualified := false }
  else r

/-- R141: a break qualifies. -/
def DriverRecord.qualify (r : DriverRecord) : DriverRecord :=
  { r with continuous := 0, firstPart := false, runQualified := true }

/-- R141: whether a REST minute, added to the rest run, qualifies it as a break. -/
def DriverRecord.restQualifies (r : DriverRecord) : Bool :=
  let run := min 1440 (r.restRun + 1)
  !r.runQualified && (run = 45 || (run = 30 && r.firstPart))

/-- R141: a REST minute credited. -/
def DriverRecord.creditRest (r : DriverRecord) : DriverRecord :=
  let run := min 1440 (r.restRun + 1)
  let t := { r with restRun := run }
  if r.restQualifies then t.qualify else if run = 540 then { t with daily := 0, continuous := 0 } else t

/-- R140: a DRIVE minute credited. -/
def DriverRecord.creditDrive (r : DriverRecord) : DriverRecord :=
  ({ r with continuous := min 1440 (r.continuous + 1), daily := min 1440 (r.daily + 1) } : DriverRecord).endRestRun

/-- R140, R141: step 3 of a credit. -/
def DriverRecord.creditCounters (a : Activity) (r : DriverRecord) : DriverRecord :=
  match a with
  | .drive => r.creditDrive
  | .rest => r.creditRest
  | .work | .available | .unknown => r.endRestRun

/-- R141: whether step 3 of a credit qualifies a break. -/
def DriverRecord.creditQualifies (a : Activity) (r : DriverRecord) : Bool := a = .rest && r.restQualifies

/-! ### History (R146) -/

/-- R146: step 4 of a credit: the last entry's run grows, or a new entry is appended and the oldest of 25 removed. -/
def extendHistory (a : Activity) (stamp : Nat) (unset : Bool) (h : List HistoryEntry) : List HistoryEntry :=
  match h.getLast? with
  | some e =>
    if e.activity = a then h.dropLast ++ [{ e with duration := min 1440 (e.duration + 1) }]
    else
      let longer := h ++ [{ activity := a, start := stamp, timeUnset := unset, duration := 1 }]
      if 24 < longer.length then longer.drop 1 else longer
  | none => [{ activity := a, start := stamp, timeUnset := unset, duration := 1 }]

/-! ### Warnings (R143, R144) -/

/-- R143: the warn_state of a record under a pre-warning lead. -/
def DriverRecord.warnOf (lead : Nat) (r : DriverRecord) : WarnState :=
  if r.contLimit ≤ r.continuous then .limit
  else if 0 < lead && r.contLimit - lead ≤ r.continuous then .prewarn
  else .none

/-- R143: the event and the chime of a new warn_state. -/
def announceWarn (slot : Slot) (w : WarnState) (s : State) : State :=
  match w with
  | .prewarn => requestFor .single 2 (.account slot) (post .drivePrewarn (slotNumber slot) s)
  | .limit => requestFor .triple 2 (.account slot) (post .driveLimit (slotNumber slot) s)
  | .none => s

/-- R143: whether forming the warn_state of a PRESENT record would change it. -/
def warnChanges (slot : Slot) (s : State) : Bool :=
  (s.aau.record slot).card && (s.aau.record slot).warnOf s.aau.lead ≠ (s.aau.record slot).warn

/-- R143, R144: the warn_state of a PRESENT record formed, with its event, its chime and L2 where it changes. -/
def formWarn (slot : Slot) (s : State) : State :=
  if warnChanges slot s then
    let w := (s.aau.record slot).warnOf s.aau.lead
    handAccount (announceWarn slot w (modifyRecord slot (fun r => { r with warn := w }) s))
  else s

/-! ### Crediting a minute (R138 to R142) -/

/-- R142: step 7 of a credit. -/
def DriverRecord.finishMinute (a : Activity) (stamp : Nat) (r : DriverRecord) : DriverRecord :=
  ({ r with tallies := .zero, creditSkip := false, lastCredited := some a, lastMinute := stamp } :
    DriverRecord).nextGeneration

/-- R140 to R143, R146: steps 3 to 7 of a credit of one slot. -/
def creditSlot (stamp : Nat) (c : Slot × Activity) (s : State) : State :=
  let r := s.aau.record c.1
  let counted := if r.creditSkip then r else r.creditCounters c.2
  let written := { counted with history := extendHistory c.2 stamp (!s.cc.isSet) r.history }
  let placed := setRecord c.1 written s
  let told := if !r.creditSkip && r.creditQualifies c.2 then post .breakQualified (slotNumber c.1) placed else placed
  let warned := if r.creditSkip then told else formWarn c.1 told
  modifyRecord c.1 (DriverRecord.finishMinute c.2 stamp) warned

/-- R138: the activity a record credits at a minute tick, before a crew conflict is settled. -/
def DriverRecord.picked (r : DriverRecord) : Option Activity := if r.card then r.tallies.pick else none

/-- R139: whether both slots picked DRIVE. -/
def crewConflict (a : Accounting) : Bool := a.one.picked = some .drive && a.two.picked = some .drive

/-- R138, R139: the slots that are credited at a minute tick, each with its activity. -/
def credits (a : Accounting) : List (Slot × Activity) :=
  (a.one.picked.map fun x => (Slot.one, x)).toList ++
    ((if crewConflict a then some .available else a.two.picked).map fun x => (Slot.two, x)).toList

/-- R138 to R142: the minute tick, which carries the stamp of the minute that has ended. -/
def creditMinute (stamp : Nat) (s : State) : State :=
  let told := if crewConflict s.aau then post .recorderInconsistent 2 s else s
  inSomeOrder (credits s.aau) (forEach (creditSlot stamp)) told

/-! ### Cards and the activity in force (R131 to R134) -/

/-- R131, R132: a record with a card inserted. -/
def DriverRecord.insertCard (arg : ActivityArg) (stamp : Nat) (r : DriverRecord) : DriverRecord :=
  { DriverRecord.reset with card := true, activity := activityOfCode arg.activity, crew := arg.crew,
                            lastMinute := stamp - 1, generation := r.generation + 1 }

/-- R133: a record with its card removed. -/
def DriverRecord.removeCard (r : DriverRecord) : DriverRecord :=
  ({ r with card := false, tallies := .zero, creditSkip := false, warn := .none } : DriverRecord).nextGeneration

/-- R134: a record of a PRESENT card with the activity and crew flag of a slot's byte. -/
def DriverRecord.changeActivity (arg : ActivityArg) (r : DriverRecord) : DriverRecord :=
  ({ r with activity := activityOfCode arg.activity, crew := arg.crew } : DriverRecord).nextGeneration

/-- Whether a slot's byte of an ACTIVITY frame changes its record (R132 to R134). -/
def activityActs (r : DriverRecord) (arg : ActivityArg) : Bool :=
  if arg.card then !r.card || activityOfCode arg.activity ≠ r.activity || arg.crew ≠ r.crew else r.card

/-- R132 to R134: one slot's byte of an ACTIVITY frame. -/
def slotActivity (c : Slot × ActivityArg) (s : State) : State :=
  let r := s.aau.record c.1
  if activityActs r c.2 then
    if c.2.card then
      if r.card then
        let t := modifyRecord c.1 (DriverRecord.changeActivity c.2) s
        if activityOfCode c.2.activity ≠ r.activity then post .activityChange (slotNumber c.1) t else t
      else
        handAccount (post .cardChange (slotNumber c.1)
          (modifyRecord c.1 (DriverRecord.insertCard c.2 (minuteStamp s.cc.now)) s))
    else handAccount (post .cardChange (slotNumber c.1) (modifyRecord c.1 DriverRecord.removeCard s))
  else s

/-- R123, R134: both slots' bytes of an ACTIVITY frame, in some order (log 4). -/
def activityContents (a b : ActivityArg) (s : State) : State :=
  inSomeOrder ([(Slot.one, a), (Slot.two, b)].filter fun c => activityActs (s.aau.record c.1) c.2)
    (forEach slotActivity) s

/-! ### Summaries (R148 to R150) -/

/-- R148: how a summary that is not ignored is settled. -/
inductive SummaryCase
  /-- Adopted, and credit_skip clears. -/
  | plain
  /-- as_of is L − 1: adopted, and the last credited minute applied again. -/
  | again
  /-- as_of is L + 1: adopted, and credit_skip set. -/
  | skip
  /-- Discarded. -/
  | stale
deriving DecidableEq, Repr

/-- R148: the first row of its table that applies. -/
def summaryCase (clockSet : Bool) (asOf lastMinute : Nat) : SummaryCase :=
  if !clockSet then .plain
  else if asOf = lastMinute then .plain
  else if asOf + 1 = lastMinute then .again
  else if asOf = lastMinute + 1 then .skip
  else .stale

/-- R149, steps 1 to 3: the values of a summary, before the clamp of step 4. -/
def DriverRecord.takeSummary (arg : SummaryArg) (r : DriverRecord) : DriverRecord :=
  { r with
    continuous := min 1440 arg.continuous.toNat
    daily := min 1440 arg.daily.toNat
    restRun := min 1440 arg.restRun.toNat
    contLimit := clamp 60 600 arg.contLimit.toNat
    dailyLimit := clamp 60 1440 arg.dailyLimit.toNat
    firstPart := arg.firstPart
    runQualified := arg.runQualified }

/-- R149, steps 4 and 5: continuous clamped to daily, and the basis CONFIRMED. -/
def DriverRecord.confirm (stamp : Nat) (r : DriverRecord) : DriverRecord :=
  { r with continuous := min r.continuous r.daily, confirmed := true, lastAdopted := some stamp,
           basisTimer := some Config.basisPeriod }

/-- R150: the minute applied again in the L − 1 case, if one has been credited. -/
def reapplied (k : SummaryCase) (r : DriverRecord) : Option Activity := if k = .again then r.lastCredited else none

/-- R150: step 6 of an adoption in the record: the last credited minute applied again or not, and credit_skip. -/
def DriverRecord.settleMinute (k : SummaryCase) (r : DriverRecord) : DriverRecord :=
  let t := match reapplied k r with
    | some a => r.creditCounters a
    | none => r
  { t with creditSkip := k = .skip }

/-- R149: one slot's summary adopted. -/
def adopt (slot : Slot) (arg : SummaryArg) (k : SummaryCase) (s : State) : State :=
  let taken := (s.aau.record slot).takeSummary arg
  let told := if taken.daily < taken.continuous then post .recorderInconsistent (slotNumber slot) s else s
  let confirmed := taken.confirm (minuteStamp s.cc.now)
  let placed := setRecord slot (confirmed.settleMinute k) told
  let broke := match reapplied k confirmed with
    | some a => if confirmed.creditQualifies a then post .breakQualified (slotNumber slot) placed else placed
    | none => placed
  modifyRecord slot DriverRecord.nextGeneration (post .summaryAdopted (slotNumber slot) (formWarn slot broke))

/-- R148: whether one slot's part of a SUMMARY frame is not ignored. -/
def summaryActs (r : DriverRecord) (arg : SummaryArg) : Bool := r.card && arg.card

/-- R148: one slot's part of a SUMMARY frame. -/
def slotSummary (c : Slot × SummaryArg) (s : State) : State :=
  let r := s.aau.record c.1
  if summaryActs r c.2 then
    match summaryCase s.cc.isSet c.2.asOf.toNat r.lastMinute with
    | .stale => post .summaryStale (slotNumber c.1) s
    | k => adopt c.1 c.2 k s
  else s

/-- R148: both slots' parts of a SUMMARY frame, in some order (log 4). -/
def summaryContents (a b : SummaryArg) (s : State) : State :=
  inSomeOrder ([(Slot.one, a), (Slot.two, b)].filter fun c => summaryActs (s.aau.record c.1) c.2)
    (forEach slotSummary) s

/-! ### The basis (R135, R152) -/

/-- R135: a record when the recorder link becomes LOST. -/
def DriverRecord.loseLink (r : DriverRecord) : DriverRecord :=
  let t := if r.confirmed then r.nextGeneration else r
  { t with confirmed := false, basisTimer := none }

/-- R135: both records turn ESTIMATED. -/
def basisLost (s : State) : State := s.setAau { s.aau with one := s.aau.one.loseLink, two := s.aau.two.loseLink }

/-- R152: a record whose basis timer runs out. -/
def DriverRecord.basisExpires (r : DriverRecord) : DriverRecord :=
  ({ r with confirmed := false, basisTimer := none } : DriverRecord).nextGeneration

/-- BASIS_TIMER_EXPIRY (R152). A stopped timer does not run out, nor one that an adoption of the same moment restarted
(log 3). -/
def execBasisTimerExpiry (slot : Slot) (s : State) : Host.Outcome State Fault Refusal :=
  .next (timed (.basisTimerExpiry slot) (s.aau.record slot).basisTimer.isSome (ranOut (s.aau.record slot).basisTimer)
    (whenOut (modifyRecord slot DriverRecord.basisExpires)) s)

/-! ### Driver commands (R153 to R155) -/

/-- R145: the remaining driving time. -/
def DriverRecord.remaining (r : DriverRecord) : Nat := min (r.contLimit - r.continuous) (r.dailyLimit - r.daily)

/-- R153, 12.3: READ_DRIVER part 0. -/
def driverAccount (slot : Slot) (r : DriverRecord) : List Byte :=
  [byteOf (slotNumber slot), flagByte [r.card, r.crew, r.firstPart, r.runQualified, r.confirmed], byteOf r.activity.code,
      byteOf r.warn.code]
    ++ word16 r.continuous ++ word16 r.daily ++ word16 r.restRun ++ word16 r.remaining ++ word16 r.contLimit
    ++ word16 r.dailyLimit ++ [byteOf r.history.length, r.generation]

/-- R153, 12.3: READ_DRIVER part 1. -/
def driverCrediting (slot : Slot) (r : DriverRecord) : List Byte :=
  [byteOf (slotNumber slot)] ++ word32 r.lastMinute
    ++ [byteOrAbsent (r.lastCredited.map Activity.code), bitByte r.creditSkip]
    ++ word32 (r.lastAdopted.getD 0xFFFFFFFF)
    ++ [byteOf r.tallies.unknown, byteOf r.tallies.rest, byteOf r.tallies.available, byteOf r.tallies.work,
      byteOf r.tallies.drive, r.generation]

/-- READ_DRIVER (R153). -/
def readDriverReply (slot part : Byte) (s : State) : Reply :=
  match slotOfNumber slot, part.toNat with
  | some n, 0 => accept (driverAccount n (s.aau.record n)) s
  | some n, 1 => accept (driverCrediting n (s.aau.record n)) s
  | _, _ => refuse .range s

/-- READ_DRIVER (R153). -/
def execReadDriver (p : Port) (slot part : Byte) (s : State) : Host.Outcome State Fault Refusal :=
  .next (takenFrame p 0x41 (readDriverReply slot part) s)

/-- 12.3: the seven bytes of a history entry. -/
def historyBytes (e : HistoryEntry) : List Byte :=
  [flagByte [e.activity.code % 2 = 1, e.activity.code / 2 % 2 = 1, e.activity.code / 4 % 2 = 1, false, false, false, false,
      e.timeUnset]]
    ++ word32 e.start ++ word16 e.duration

/-- R154, 12.3: the data of READ_HISTORY. -/
def historyData (slot : Slot) (start : Nat) (r : DriverRecord) : List Byte :=
  let found := (r.history.drop start).take 2
  [byteOf (slotNumber slot), r.generation, byteOf r.history.length, byteOf found.length]
    ++ (found.map historyBytes).flatten

/-- READ_HISTORY (R154). -/
def readHistoryReply (slot start : Byte) (s : State) : Reply :=
  match slotOfNumber slot with
  | some n => if start.toNat ≤ 23 then accept (historyData n start.toNat (s.aau.record n)) s else refuse .range s
  | none => refuse .range s

/-- READ_HISTORY (R154). -/
def execReadHistory (p : Port) (slot start : Byte) (s : State) : Host.Outcome State Fault Refusal :=
  .next (takenFrame p 0x42 (readHistoryReply slot start) s)

/-- R155: warn_state formed again by SET_DRIVE_WARNING, with the generation where it changes. -/
def rewarn (slot : Slot) (s : State) : State :=
  if warnChanges slot s then modifyRecord slot DriverRecord.nextGeneration (formWarn slot s) else s

/-- R155: the pre-warning lead set and both PRESENT records judged again, in some order (log 4). -/
def setLead (lead : Nat) (s : State) : State :=
  let t := s.setAau { s.aau with lead }
  inSomeOrder ([Slot.one, Slot.two].filter fun slot => warnChanges slot t) (forEach rewarn) t

/-- SET_DRIVE_WARNING (R155). -/
def setDriveWarningReply (p : Port) (lead : Byte) (s : State) : Reply :=
  ifPortD p s
    (let t := setLead (min 60 lead.toNat) s
     accept [byteOf t.aau.lead, byteOf t.aau.one.warn.code, byteOf t.aau.two.warn.code] t)

/-- SET_DRIVE_WARNING (R155). -/
def execSetDriveWarning (p : Port) (lead : Byte) (s : State) : Host.Outcome State Fault Refusal :=
  .next (takenFrame p 0x43 (setDriveWarningReply p lead) s)

end Sys2Proof.Machine
end

