-- ==== Sys2Proof/Machine/ClockUnit.lean ====
section
/-! DEFINITION. The Calendar Clock (chapter 6): its commands, the load, the advance with its ticks, and the oscillator
monitor. -/
namespace Sys2Proof.Machine

/-! ### Loading the time (R105) -/

/-- R105: the clock after a load. -/
def Clock.load (t : DateTime) (byRecorder : Bool) (c : Clock) : Clock :=
  { c with now := t, weekday := weekdayOf t, prescaler := 0, crystalPhase := 0, rangeHold := false, isSet := true,
           byRecorder }

/-- R105: a load, with the discard of the tallies, and TIME_STEP where the clock was SET. -/
def loadClock (t : DateTime) (byRecorder : Bool) (s : State) : State :=
  let u := discardTallies (s.setCc (s.cc.load t byRecorder))
  if s.cc.isSet then post .timeStep (if byRecorder then 0 else 1) u else u

/-- R104: whether a TIME frame is loaded. -/
def loadsFrame (c : Clock) (t : DateTime) (valid : Bool) : Bool :=
  c.running && valid && t.legal && (!c.isSet || !c.byRecorder || 2 < secondsApart t c.now)

/-- R104, R122: a TIME frame handed to the clock. -/
def timeContents (t : DateTime) (valid : Bool) (s : State) : State := if loadsFrame s.cc t valid then loadClock t true s else s

/-! ### Commands -/

/-- R112, 12.3: the data of READ_TIME. -/
def timeData (c : Clock) : List Byte :=
  let l := localTime c.now c.localOffset
  dateBytes c.now c.weekday ++ word32 (minuteStamp c.now) ++ dateBytes l.1 (weekdayOf l.1)
    ++ [clockFlags c l.2, byteOfOffset c.localOffset]

/-- READ_TIME (R112). -/
def execReadTime (p : Port) (s : State) : Host.Outcome State Fault Refusal :=
  .next (takenFrame p 0x50 (fun s => accept (timeData s.cc) s) s)

/-- SET_TIME (R106). -/
def setTimeReply (t : DateTime) (s : State) : Reply :=
  if !t.legal then refuse .range s
  else if !s.cc.running then refuse .notNow s
  else if s.rlu.live && s.cc.byRecorder then refuse .notNow s
  else
    let u := loadClock t false s
    accept (dateBytes u.cc.now u.cc.weekday ++ [clockFlags u.cc false]) u

/-- SET_TIME (R106). -/
def execSetTime (p : Port) (time : TimeArgs) (s : State) : Host.Outcome State Fault Refusal :=
  .next (takenFrame p 0x51 (setTimeReply (dateOfArgs time)) s)

/-- SET_LOCAL_OFFSET (R111). -/
def setLocalOffsetReply (p : Port) (q : Byte) (s : State) : Reply :=
  ifPortD p s (accept [byteOfOffset (offsetOfByte q)] (s.setCc { s.cc with localOffset := offsetOfByte q }))

/-- SET_LOCAL_OFFSET (R111). -/
def execSetLocalOffset (p : Port) (q : Byte) (s : State) : Host.Outcome State Fault Refusal :=
  .next (takenFrame p 0x52 (setLocalOffsetReply p q) s)

/-- R103: the tick subscription of a port. -/
def Clock.tick (c : Clock) : Port → TickPeriod
  | .d => c.tickD
  | .s => c.tickS

/-- R103: the tick subscription of a port replaced. -/
def Clock.withTick (k : TickPeriod) (c : Clock) : Port → Clock
  | .d => { c with tickD := k }
  | .s => { c with tickS := k }

/-- SET_TICK (R103). -/
def setTickReply (p : Port) (period : Byte) (s : State) : Reply :=
  match tickOfCode period with
  | none => refuse .range s
  | some k => accept [byteOf k.code] (s.setCc (s.cc.withTick k p))

/-- SET_TICK (R103). -/
def execSetTick (p : Port) (period : Byte) (s : State) : Host.Outcome State Fault Refusal :=
  .next (takenFrame p 0x53 (setTickReply p period) s)

/-! ### SECOND_ADVANCE -/

/-- R103: whether an advance issues the tick a subscription asks for. -/
def Ticks.has (t : Ticks) : TickPeriod → Bool
  | .none => false
  | .second => true
  | .minute => t.minute
  | .hour => t.hour
  | .day => t.day

/-- R103: CLOCK_TICK posted to a port whose subscription matches; its argument is the kind of the tick. -/
def tickAt (p : Port) (t : Ticks) (s : State) : State :=
  if t.has (s.cc.tick p) then postAt p .clockTick ((s.cc.tick p).code - 1) s else s

/-- R98, R99: the clock after an advance. A day carry moves the weekday on by one. -/
def Clock.advanced (c : Clock) : Clock :=
  { c with now := (advance c.now).1
           weekday := if (advance c.now).2.day then (c.weekday + 1) % 7 else c.weekday }

/-- R101: whether the clock stands at the end of its range. -/
def Clock.atEnd (c : Clock) : Bool := c.now = DateTime.last

/-- R102: the ticks of an advance handed to the Activity Accounting Unit: the second tick, then the minute tick with the
stamp of the minute that has ended. -/
def handTicks (t : Ticks) (s : State) : State :=
  let u := tallySecond s
  if t.minute then creditMinute (minuteStamp s.cc.now - 1) u else u

/-- R98 to R103: a second completed out of reset. -/
def advanceOut (s : State) : State :=
  if s.cc.atEnd then
    if s.cc.rangeHold then s else post .clockRange 0 (s.setCc { s.cc with rangeHold := true })
  else
    let ticks := (advance s.cc.now).2
    handTicks ticks (tickAt .s ticks (tickAt .d ticks (s.setCc s.cc.advanced)))

/-- R97: a second completed in a pin or command reset: the fields change and the ticks reach no block. CLOCK_RANGE reaches
no table (log 11). -/
def Clock.advancedHeld (c : Clock) : Clock := if c.atEnd then { c with rangeHold := true } else c.advanced

/-- R96, R97, R107: whether the crystal and its monitor work: out of reset, and through a pin or command reset. -/
def clockWorks (s : State) : Bool := isOut s || !s.rst.causes.powerOn

/-- R98: the second completed. -/
def secondAdvance (s : State) : State :=
  let t := s.setCc { s.cc with prescaler := 0 }
  if isOut s then advanceOut t
  else if clockWorks s then t.setCc t.cc.advancedHeld
  else s

/-- SECOND_ADVANCE (R98). While running is no, no second completes; nor after a load of the same moment (log 3). -/
def execSecondAdvance (s : State) : Host.Outcome State Fault Refusal :=
  .next (timed .secondAdvance s.cc.running s.cc.secondOut secondAdvance s)

/-! ### The oscillator monitor (R107 to R109) -/

/-- R108: the clock at an oscillator stop. -/
def Clock.stop (c : Clock) : Clock :=
  { c with now := .epoch, weekday := 5, isSet := false, byRecorder := false, running := false, prescaler := 0,
           crystalPhase := 0, rangeHold := false, monitor := .stopped }

/-- R107, R108: an oscillator stop. In a pin or command reset its CLOCK_FAULT waits for the end of the hold (log 23). -/
def oscillatorStop (s : State) : State :=
  if s.cc.monitor = .running && clockWorks s then
    let t := s.setCc s.cc.stop
    if isOut s then discardTallies (post .clockFault 0 t)
    else t.setRst { t.rst with clockFaults := t.rst.clockFaults + 1 }
  else s

/-- OSCILLATOR_STOP (R108): no edge for 4 ms while RUNNING. -/
def execOscillatorStop (s : State) : Host.Outcome State Fault Refusal := .next (oscillatorStop s)

/-- The monitor replaced. -/
def setMonitor (m : Monitor) (s : State) : State := s.setCc { s.cc with monitor := m }

/-- R107: an edge while STOPPED. -/
def edgeReturn (s : State) : State :=
  if s.cc.monitor = .stopped && clockWorks s then setMonitor (.recovering 0) s else s

/-- OSCILLATOR_EDGE_RETURN (R107). -/
def execOscillatorEdgeReturn (s : State) : Host.Outcome State Fault Refusal := .next (edgeReturn s)

/-- R107: no edge for 4 ms while RECOVERING. -/
def recoveryAbandoned (s : State) : State :=
  if s.cc.monitor.isRecovering && clockWorks s then setMonitor .stopped s else s

/-- RECOVERY_ABANDONED (R107). -/
def execRecoveryAbandoned (s : State) : Host.Outcome State Fault Refusal := .next (recoveryAbandoned s)

/-- R109: the clock when edges have held for 100 ms. -/
def Clock.recover (c : Clock) : Clock :=
  { c with monitor := .running, running := true, prescaler := 0, crystalPhase := 0 }

/-- R109: the recovery. -/
def oscillatorRecovery (s : State) : State := if clockWorks s then s.setCc s.cc.recover else s

/-- OSCILLATOR_RECOVERY (R109). Outside RECOVERING there is none (log 3). -/
def execOscillatorRecovery (s : State) : Host.Outcome State Fault Refusal :=
  .next (timed .oscillatorRecovery s.cc.monitor.isRecovering s.cc.monitor.recovered oscillatorRecovery s)

end Sys2Proof.Machine
end

