-- ==== Sys2Proof/Machine/Recorder.lean ====
section
/-! DEFINITION. The Recorder Link Unit (chapter 7): frame assembly, valid frames and their contents, link supervision, the
frames to the recorder, and READ_VEHICLE. -/
namespace Sys2Proof.Machine

/-! ### Valid frames (R117, R119) -/

/-- R119: a valid frame returns a LOST link to LIVE. -/
def returnLink (s : State) : State :=
  if s.rlu.live then s
  else reformLoss (post .sourceRestored Source.recorder.code (s.setRlu { s.rlu with live := true }))

/-- R115: the frame assembly in a state, with a character's stop bit just past. -/
def setAssembly (a : Assembly) (s : State) : State := s.setRlu { s.rlu with assembly := a, gapTime := 0 }

/-- R117: link supervision restarts. -/
def restartLink (s : State) : State := s.setRlu { s.rlu with timer := some Config.linkPeriod }

/-- R115, R117: a valid frame: the link returns, supervision restarts and the contents reach their owners; the assembly
stands in HUNT (log 19). -/
def validFrame (contents : State → State) (s : State) : State := contents (restartLink (returnLink (setAssembly .hunt s)))

/-- The vehicle record changed. -/
def modifyVehicle (f : VehicleRecord → VehicleRecord) (s : State) : State :=
  s.setRlu { s.rlu with vehicle := f s.rlu.vehicle }

/-! ### Contents (R120 to R124) -/

/-- R121: the overspeed flag of a SPEED frame, judged against the field as it stood before. -/
def overspeedContents (overspeed before : Bool) (s : State) : State :=
  let t := handRecorder 4 (if overspeed then .on else .off) s
  if overspeed && !before then requestFor .single 2 .recorder t else t

/-- R120: the contents of a SPEED frame. -/
def speedContents (speed : Nat) (overspeed motion : Bool) (s : State) : State :=
  let concerned := fun i : Fin 8 => (s.ge.channels.get i).enabled && (s.ge.channels.get i).lists .recorder
  overspeedContents overspeed s.rlu.vehicle.overspeed
    (modifyVehicle (fun v => { v with speed, overspeed, motion, heldSpeed := false }) (deliver concerned .recorder speed s))

/-- R124: the contents of a DISTANCE frame. -/
def distanceContents (odometer trip : Nat) (s : State) : State :=
  modifyVehicle (fun v => { v with odometer, trip, heldDistance := false }) s

/-- R124: the recorder contribution of L3 for a notice level. -/
def NoticeLevel.lamp : NoticeLevel → LampState
  | .none => .off
  | .warning => .on
  | .fault => .slow

/-- R124: the contents of a NOTICE frame. -/
def noticeContents (level : NoticeLevel) (code : Byte) (s : State) : State :=
  handRecorder 3 level.lamp
    (modifyVehicle (fun v => { v with noticeLevel := level, noticeCode := code, heldNotice := false }) s)

/-- SPEED_FRAME (R120, R121). -/
def execSpeedFrame (speed : BitVec 16) (overspeed motion : Bool) (s : State) : Host.Outcome State Fault Refusal :=
  .next (whenOut (validFrame (speedContents speed.toNat overspeed motion)) s)

/-- TIME_FRAME (R104, R122). -/
def execTimeFrame (time : TimeArgs) (valid : Bool) (s : State) : Host.Outcome State Fault Refusal :=
  .next (whenOut (validFrame (timeContents (dateOfArgs time) valid)) s)

/-- ACTIVITY_FRAME (R123, R132 to R134). -/
def execActivityFrame (slot1 slot2 : ActivityArg) (s : State) : Host.Outcome State Fault Refusal :=
  .next (whenOut (validFrame (activityContents slot1 slot2)) s)

/-- SUMMARY_FRAME (R123, R148). -/
def execSummaryFrame (slot1 slot2 : SummaryArg) (s : State) : Host.Outcome State Fault Refusal :=
  .next (whenOut (validFrame (summaryContents slot1 slot2)) s)

/-- DISTANCE_FRAME (R124). -/
def execDistanceFrame (odometer trip : BitVec 32) (s : State) : Host.Outcome State Fault Refusal :=
  .next (whenOut (validFrame (distanceContents odometer.toNat trip.toNat)) s)

/-- NOTICE_FRAME (R124). -/
def execNoticeFrame (level code : Byte) (s : State) : Host.Outcome State Fault Refusal :=
  .next (whenOut (validFrame (noticeContents (noticeOfByte level) code)) s)

/-! ### Frame assembly (R115, R116) -/

/-- The contents of the recorder frame a command stands for; every other command has none. -/
def frameContents : Instr → State → State
  | .speedFrame v overspeed motion => speedContents v.toNat overspeed motion
  | .timeFrame t valid => timeContents (dateOfArgs t) valid
  | .activityFrame a b => activityContents a b
  | .summaryFrame a b => summaryContents a b
  | .distanceFrame odometer trip => distanceContents odometer.toNat trip.toNat
  | .noticeFrame level code => noticeContents (noticeOfByte level) code
  | _ => id

/-- R116: the state of the assembly after a frame is discarded in TYPE or LENGTH. -/
def resync (char : Byte) (framingError : Bool) : Assembly := if char = syncByte && !framingError then .type else .hunt

/-- R115: the CRC a frame must carry. -/
def frameCrc (type : Byte) (payload : List Byte) : Byte := crc8 ([syncByte, type, BitVec.ofNat 8 payload.length] ++ payload)

/-- What a character makes of the frame in assembly. -/
inductive Taken
  /-- The assembly stands in a state. -/
  | stands (a : Assembly)
  /-- A valid frame: its TYPE and payload. -/
  | frame (type : Byte) (payload : List Byte)
deriving DecidableEq, Repr

/-- R115: a payload byte taken. -/
def takePayload (type : Byte) (received : List Byte) (char : Byte) : Assembly :=
  if (recorderLength type).getD 0 ≤ received.length + 1 then .check type (received ++ [char])
  else .payload type (received ++ [char])

/-- R115, R116: a character taken in the state of the assembly. -/
def takeCharacter (a : Assembly) (char : Byte) (framingError : Bool) : Taken :=
  match a with
  | .hunt => .stands (resync char framingError)
  | .type =>
    if !framingError && (recorderLength char).isSome then .stands (.length char) else .stands (resync char framingError)
  | .length type =>
    if !framingError && recorderLength type = some char.toNat then .stands (.payload type [])
    else .stands (resync char framingError)
  | .payload type received => if framingError then .stands .hunt else .stands (takePayload type received char)
  | .check type received =>
    if !framingError && char = frameCrc type received then .frame type received else .stands .hunt

/-- R115 to R117: a character received; a valid frame is acted on at once (log 9). -/
def receive (char : Byte) (framingError : Bool) (s : State) : State :=
  match takeCharacter s.rlu.assembly char framingError with
  | .stands a => setAssembly a s
  | .frame type payload =>
    match decodeRecorder type payload with
    | some i => validFrame (frameContents i) s
    | none => setAssembly .hunt s

/-- CHARACTER_RECEIVED (R115). -/
def execCharacterReceived (char : Byte) (framingError : Bool) (s : State) : Host.Outcome State Fault Refusal :=
  .next (whenOut (receive char framingError) s)

/-- R116: the frame in assembly discarded because of a character. In HUNT there is none (log 3). -/
def discardFrame (char : Byte) (framingError : Bool) (s : State) : State :=
  match s.rlu.assembly with
  | .hunt => s
  | .type | .length _ => setAssembly (resync char framingError) s
  | .payload _ _ | .check _ _ => setAssembly .hunt s

/-- RECORDER_FRAME_DISCARDED (R116). -/
def execRecorderFrameDiscarded (char : Byte) (framingError : Bool) (s : State) : Host.Outcome State Fault Refusal :=
  .next (whenOut (discardFrame char framingError) s)

/-- GAP_TIMEOUT (R116): the frame in assembly is discarded, and the assembly stands in HUNT. In HUNT a pause is of no account,
the start bit of the next character ends it, and it does not run out after a character of the same moment (log 3). -/
def execGapTimeout (s : State) : Host.Outcome State Fault Refusal :=
  .next (timed .gapTimeout s.rlu.pauses s.rlu.gapOut (whenOut (setAssembly .hunt)) s)

/-! ### Link supervision (R118) -/

/-- R118, R125: the fields of the vehicle record become held. -/
def VehicleRecord.hold (v : VehicleRecord) : VehicleRecord :=
  { v with heldSpeed := true, heldDistance := true, heldNotice := true }

/-- R118: the link becomes LOST, and its readers act. -/
def loseLink (s : State) : State :=
  let t := s.setRlu { s.rlu with live := false, timer := none, vehicle := s.rlu.vehicle.hold }
  basisLost (silenceSource .recorder discardRecorder (post .sourceSilent Source.recorder.code t))

/-- LINK_SUPERVISION_EXPIRY (R118). A stopped timer does not run out, nor one that a valid frame of the same moment restarted
(log 3). -/
def execLinkSupervisionExpiry (s : State) : Host.Outcome State Fault Refusal :=
  .next (timed .linkSupervisionExpiry s.rlu.timer.isSome (ranOut s.rlu.timer) (whenOut loseLink) s)

/-! ### Frames to the recorder (R127, R128) -/

/-- R127: a STATUS frame falls due, and the next one 1000 ms later. -/
def cadence (s : State) : State := txDue .status (s.setRlu { s.rlu with cadence := some Config.cadencePeriod })

/-- STATUS_CADENCE (R127). A stopped cadence brings no frame, nor one that started again in the same moment (log 3). -/
def execStatusCadence (s : State) : Host.Outcome State Fault Refusal :=
  .next (timed .statusCadence s.rlu.cadence.isSome (ranOut s.rlu.cadence) (whenOut cadence) s)

/-- R128: the frame being sent is complete, and the next waiting frame starts. -/
def transmitted (s : State) : State :=
  match s.rlu.waiting with
  | [] => s.setRlu { s.rlu with sending := none }
  | k :: rest => txStart k (s.setRlu { s.rlu with sending := none, waiting := rest })

/-- TRANSMIT_COMPLETE (R128). With no frame being sent nothing happens (log 3). -/
def execTransmitComplete (s : State) : Host.Outcome State Fault Refusal :=
  .next (timed .transmitComplete s.rlu.sending.isSome s.rlu.sent (whenOut transmitted) s)

/-! ### READ_VEHICLE -/

/-- R126, 12.3: the data of READ_VEHICLE. -/
def vehicleData (s : State) : List Byte :=
  let v := s.rlu.vehicle
  [flagByte [s.rlu.live, v.overspeed, v.motion, (vehicleSpeed s).isSome],
      flagByte [v.heldSpeed, v.heldSpeed, v.heldSpeed, v.heldDistance, v.heldDistance, v.heldNotice, v.heldNotice]]
    ++ word16 v.speed ++ word32 v.odometer ++ word32 v.trip ++ [byteOf v.noticeLevel.code, v.noticeCode]
    ++ word16 ((vehicleSpeed s).getD 0)

/-- READ_VEHICLE (R126). -/
def execReadVehicle (p : Port) (s : State) : Host.Outcome State Fault Refusal :=
  .next (takenFrame p 0x40 (fun s => accept (vehicleData s) s) s)

end Sys2Proof.Machine
end

