-- ==== Sys2Proof/Machine/Resets.lean ====
section
/-! DEFINITION. The Power Controller's own commands (chapter 11): the self-check timer, the supply monitor, and the resets
with RESET_PART. -/
namespace Sys2Proof.Machine

/-! ### The self-check timer -/

/-- R186: the self-check timer runs out, and RUN is entered if check complete holds. -/
def selfCheckExpires (s : State) : State := powerConditions (s.setPwc { s.pwc with selfCheck := .runOut })

/-- SELF_CHECK_TIMER_EXPIRY (R186). A timer that does not run does not run out (log 3). -/
def execSelfCheckTimerExpiry (s : State) : Host.Outcome State Fault Refusal :=
  .next (timed .selfCheckTimerExpiry s.pwc.selfCheck.isRunning (s.pwc.selfCheck = .running 0) (whenOut selfCheckExpires) s)

/-! ### The supply monitor (R189) -/

/-- R42, R91, R189: the supply state becomes LOW: SUPPLY_LOW (1), motion is suspended and the sounder mutes. In LOW it does
so no second time (log 3). -/
def supplyFalls (s : State) : State :=
  if s.pwc.supplyLow then s
  else
    let t := mapChannels Channel.onSupplyLow (s.setPwc { s.pwc with supplyLow := true, supplyWait := 0 })
    post .supplyLow 1 (t.setCu { t.cu with muted := true })

/-- R43, R91, R189: the supply state becomes NORMAL: SUPPLY_LOW (0), motion resumes and the sounder unmutes. In NORMAL it
does so no second time (log 3). -/
def supplyReturns (s : State) : State :=
  if s.pwc.supplyLow then
    let t := s.setPwc { s.pwc with supplyLow := false, supplyWait := 0 }
    post .supplyLow 0 (t.setCu { t.cu with muted := false })
  else s

/-- SUPPLY_LOW_ENTERED (R189). -/
def execSupplyLowEntered (s : State) : Host.Outcome State Fault Refusal := .next (whenOut supplyFalls s)

/-- SUPPLY_LOW_LEFT (R189). -/
def execSupplyLowLeft (s : State) : Host.Outcome State Fault Refusal := .next (whenOut supplyReturns s)

/-- R189: whether a measurement stands beyond the threshold that would change the supply state. -/
def counts (low : Bool) (millivolts : Nat) : Bool :=
  if low then Config.supplyNormalAbove < millivolts else millivolts < Config.supplyLowBelow

/-- R189: a measurement judged; the twentieth in a row changes the supply state at once (log 9). -/
def measure (millivolts : Nat) (s : State) : State :=
  let wait := if counts s.pwc.supplyLow millivolts then s.pwc.supplyWait + 1 else 0
  let t := (s.setPins { s.pins with battery := millivolts }).setPwc { s.pwc with supplyWait := wait }
  if Config.supplyWaitPeriod ≤ wait then (if s.pwc.supplyLow then supplyReturns t else supplyFalls t) else t

/-- VBS_MEASUREMENT (R189). -/
def execVbsMeasurement (millivolts : Nat) (s : State) : Host.Outcome State Fault Refusal :=
  .next (whenOut (measure millivolts) s)

/-! ### Resets (R190 to R192) -/

/-- The set of causes with one more cause. -/
def CauseSet.add (c : Cause) (k : CauseSet) : CauseSet :=
  match c with
  | .powerOn => { k with powerOn := true }
  | .pin => { k with pin := true }
  | .command => { k with command := true }

/-- R191: the reset-cause record after a cause that leaves the causes given. -/
def recordCauses (held made : CauseSet) : CauseSet :=
  if made.powerOn then { powerOn := true, pin := false, command := false }
  else { powerOn := held.powerOn, pin := held.pin || made.pin, command := held.command || made.command }

/-- R97: the clock through a pin or command reset: q and the tick subscriptions return to their reset values, and the rest
stands. -/
def Clock.keep (c : Clock) : Clock := { c with localOffset := 0, tickD := .none, tickS := .none }

/-- R190: the causes of the reset in progress, with one more; out of reset a new reset begins. -/
def causesWith (c : Cause) (s : State) : CauseSet := if isOut s then CauseSet.empty.add c else s.rst.causes.add c

/-- R107: the oscillator stops that wait for the end of the hold; a new reset has none, and a power-on reset none that
would be told (R96). -/
def faultsWith (c : Cause) (s : State) : Nat := if isOut s || c = .powerOn then 0 else s.rst.clockFaults

/-- R190, R166: the leads of a port in a reset: the frame under way is cut off. -/
def SpiLead.cutOff (l : SpiLead) : SpiLead := { l with status := none, ended := [] }

/-- R190: the leads in a reset. -/
def Pins.cutOff (p : Pins) : Pins := { p with spiD := p.spiD.cutOff, spiS := p.spiS.cutOff }

/-- R190: every block at its reset values, with the causes of the reset. In a reset that no power-on cause has made, the
Calendar Clock keeps what R97 keeps. -/
def heldBlocks (c : Cause) (s : State) : State :=
  { State.powerOnHeld with
    cc := if (causesWith c s).powerOn then .reset else s.cc.keep
    pwc := .reset (recordCauses s.pwc.causes (causesWith c s))
    rst := { progress := s.rst.progress, causes := causesWith c s, latest := c, clockFaults := faultsWith c s }
    pins := s.pins.cutOff, choices := s.choices, due := s.due, pending := s.pending }

/-- R190: a cause begins that lasts until RESET_CAUSE_END. -/
def beginCause (c : Cause) (s : State) : State :=
  let t := heldBlocks c s
  t.setRst { t.rst with progress := .cause }

/-- POWER_ON_RESET (R190): VDD5 falls below 4.3 V. -/
def execPowerOnReset (s : State) : Host.Outcome State Fault Refusal := .next (beginCause .powerOn s)

/-- PIN_RESET (R190): RST_N is held low. -/
def execPinReset (s : State) : Host.Outcome State Fault Refusal := .next (beginCause .pin s)

/-- R178, R190: a command reset: its cause begins and ends at once, and the reset hold runs. -/
def commandReset (s : State) : State :=
  let t := heldBlocks .command s
  t.setRst { t.rst with progress := .hold Config.resetHold }

/-- RESET_PART (R178). From Port D it is refused; from Port S the part enters a command reset, whose reset values take the
place of an answer. -/
def resetPart (p : Port) (s : State) : State :=
  match p with
  | .d => takenFrame .d 0x08 (refuse .notPermitted) s
  | .s => commandReset (beginFrame .s s)

/-- RESET_PART (R178). -/
def execResetPart (p : Port) (s : State) : Host.Outcome State Fault Refusal := .next (whenOut (resetPart p) s)

/-- R190: the last cause ends, and the reset hold runs. While a lead still holds a cause, the part stays in reset (log 22);
with no cause lasting nothing happens (log 3). -/
def causeEnds (s : State) : State :=
  if s.rst.progress = .cause && !s.pins.holdsCause then s.setRst { s.rst with progress := .hold Config.resetHold } else s

/-- RESET_CAUSE_END (R190). -/
def execResetCauseEnd (s : State) : Host.Outcome State Fault Refusal := .next (causeEnds s)

/-- R191: the cause that RESET_REPORT names. -/
def reportedCause (r : Reset) : Cause := if r.causes.powerOn then .powerOn else r.latest

/-- R107, R179, R192: the part comes out of reset: RESET_REPORT becomes pending in both tables, the clock faults found in
the reset are posted, and the STANDBY frame falls due. -/
def comeOut (s : State) : State :=
  let t := s.setRst { s.rst with progress := .out, clockFaults := 0 }
  let told := forEach (fun _ => post .clockFault 0) (List.range s.rst.clockFaults)
    (post .resetReport (reportedCause s.rst).code t)
  txDue .standby told

/-- RESET_HOLD_END (R192). Out of reset, and while a cause lasts, the hold does not run (log 24). -/
def execResetHoldEnd (s : State) : Host.Outcome State Fault Refusal :=
  .next (timed .resetHoldEnd s.rst.progress.isHold (s.rst.progress = .hold 0) comeOut s)

end Sys2Proof.Machine
end

