-- ==== Sys2Proof/Machine/Telltales.lean ====
section
/-! DEFINITION. The two commands that write the lamp table (chapter 3): WRITE_LAMPS and SET_LAMP_CONFIG. -/
namespace Sys2Proof.Machine

/-! ### WRITE_LAMPS -/

/-- R57: a counted pair as its rule reads it; none where check 2 refuses it. -/
def readPair (q : LampPair) : Option (Fin 48 × Option LampState) :=
  match indexOf 48 q.lamp, writeOfCode q.code with
  | some n, some v => some (n, v)
  | _, _ => none

/-- R57: the counted pairs of a WRITE_LAMPS; none where check 1 or 2 refuses the request. -/
def readPairs (count : Byte) (pairs : Tab LampPair 8) : Option (List (Fin 48 × Option LampState)) :=
  if 8 < count.toNat then none else (pairs.val.take count.toNat).mapM readPair

/-- R57: whether Port D may write a lamp: it is INFO class and not mapped. -/
def portDMayWrite (s : State) (n : Fin 48) : Bool := (s.lamps.get n).cls = .info && !isMapped s.inputs n

/-- R57: check 3. -/
def mayWrite (p : Port) (s : State) (n : Fin 48) : Bool :=
  match p with
  | .d => portDMayWrite s n
  | .s => true

/-- R58: a lamp whose written contribution of a port is replaced. -/
def Lamp.write (p : Port) (v : Option LampState) (l : Lamp) : Lamp :=
  match p with
  | .d => { l with writtenD := v }
  | .s => { l with writtenS := v }

/-- R58: what the pairs store in one lamp; a later pair replaces an earlier one. -/
def storePairs (p : Port) (pairs : List (Fin 48 × Option LampState)) (i : Fin 48) (l : Lamp) : Lamp :=
  pairs.foldl (fun l q => if q.1 = i then l.write p q.2 else l) l

/-- WRITE_LAMPS (R57, R58). -/
def writeLampsReply (p : Port) (count : Byte) (pairs : Tab LampPair 8) (s : State) : Reply :=
  match readPairs count pairs with
  | none => refuse .range s
  | some given =>
    if given.all fun q => mayWrite p s q.1 then
      let t := lampUpdate (storePairs p given) s
      accept (count :: given.map fun q => byteOf (t.lamps.get q.1).resolved.rank) t
    else refuse .notPermitted s

/-- WRITE_LAMPS (R57, R58). -/
def execWriteLamps (p : Port) (count : Byte) (pairs : Tab LampPair 8) (s : State) : Host.Outcome State Fault Refusal :=
  .next (takenFrame p 0x20 (writeLampsReply p count pairs) s)

/-! ### SET_LAMP_CONFIG -/

/-- R47, R59: the fixed class of L0 to L5; none for the other lamps. -/
def fixedClass (n : Fin 48) : Option LampClass :=
  if n.val = 0 then some .safety else if n.val ≤ 5 then some .info else none

/-- A SET_LAMP_CONFIG's arguments as its rule reads them. -/
structure LampConfig where
  lamp : Fin 48
  cls : LampClass
  lossD : Option Lit
  lossS : Option Lit
  lossR : Option Lit
deriving DecidableEq, Repr

/-- R59: check 3; none where it refuses. -/
def lampConfigOf (lamp cls d s r : Byte) : Option LampConfig :=
  match indexOf 48 lamp, classOfCode cls, lossOfCode d, lossOfCode s, lossOfCode r with
  | some lamp, some cls, some lossD, some lossS, some lossR => some { lamp, cls, lossD, lossS, lossR }
  | _, _, _, _, _ => none

/-- R59: a lamp with a new class and new loss states; a lamp that becomes SAFETY class loses its written_D. -/
def Lamp.withConfig (k : LampConfig) (l : Lamp) : Lamp :=
  { l with cls := k.cls, lossD := k.lossD, lossS := k.lossS, lossR := k.lossR,
           writtenD := if l.cls = .info && k.cls = .safety then none else l.writtenD }

/-- R59: the update of a SET_LAMP_CONFIG. -/
def configureLamp (k : LampConfig) (s : State) : State :=
  lampUpdate (fun i l =>
    if i = k.lamp then { l.withConfig k with loss := lossNow s (l.withConfig k) } else l) s

/-- R59, 12.3: the data of SET_LAMP_CONFIG. -/
def lampConfigData (n : Fin 48) (l : Lamp) : List Byte :=
  [byteOf n.val, byteOf l.cls.code, byteOf ((l.lossD.map Lit.code).getD 0), byteOf ((l.lossS.map Lit.code).getD 0),
    byteOf ((l.lossR.map Lit.code).getD 0), byteOf l.resolved.rank]

/-- SET_LAMP_CONFIG (R59). -/
def setLampConfigReply (p : Port) (lamp cls d s r : Byte) (st : State) : Reply :=
  ifConfigurable p st
    (match lampConfigOf lamp cls d s r with
      | none => refuse .range st
      | some k =>
        if fixedClass k.lamp = none || fixedClass k.lamp = some k.cls then
          let t := configureLamp k st
          accept (lampConfigData k.lamp (t.lamps.get k.lamp)) t
        else refuse .notPermitted st)

/-- SET_LAMP_CONFIG (R59). -/
def execSetLampConfig (p : Port) (lamp cls d s r : Byte) (st : State) : Host.Outcome State Fault Refusal :=
  .next (takenFrame p 0x23 (setLampConfigReply p lamp cls d s r) st)

end Sys2Proof.Machine
end

