-- ==== Sys2Proof/Machine/Dispatch.lean ====
section
/-! DEFINITION. The effect of every command on everything but the queue: one arm for each row of spec/opcode_table.json. -/
namespace Sys2Proof.Machine

/-- The meaning of a command. -/
def exec (i : Instr) (s : State) : Host.Outcome State Fault Refusal :=
  match i with
  | .nop p => Sys2Proof.Machine.execNop p s
  | .unknownCommand p code => Sys2Proof.Machine.execUnknownCommand p code s
  | .badFrame p => Sys2Proof.Machine.execBadFrame p s
  | .readStatus p => Sys2Proof.Machine.execReadStatus p s
  | .clearResetCause p => Sys2Proof.Machine.execClearResetCause p s
  | .fetchEvent p => Sys2Proof.Machine.execFetchEvent p s
  | .setEventLevel p kind level => Sys2Proof.Machine.execSetEventLevel p kind level s
  | .openConfig p => Sys2Proof.Machine.execOpenConfig p s
  | .closeConfig p => Sys2Proof.Machine.execCloseConfig p s
  | .setSupervision p periodD periodS => Sys2Proof.Machine.execSetSupervision p periodD periodS s
  | .resetPart p => Sys2Proof.Machine.execResetPart p s
  | .setValue p channel value => Sys2Proof.Machine.execSetValue p channel value s
  | .readChannel p channel part => Sys2Proof.Machine.execReadChannel p channel part s
  | .setChannel p args => Sys2Proof.Machine.execSetChannel p args s
  | .loadCurvePart0 p channel part n points => Sys2Proof.Machine.execLoadCurvePart0 p channel part n points s
  | .loadCurvePart1 p channel points => Sys2Proof.Machine.execLoadCurvePart1 p channel points s
  | .writeLamps p count pairs => Sys2Proof.Machine.execWriteLamps p count pairs s
  | .setLampConfig p lamp cls lossD lossS lossR => Sys2Proof.Machine.execSetLampConfig p lamp cls lossD lossS lossR s
  | .readLamps p start => Sys2Proof.Machine.execReadLamps p start s
  | .setDimming p level => Sys2Proof.Machine.execSetDimming p level s
  | .setSafetyFloor p floor => Sys2Proof.Machine.execSetSafetyFloor p floor s
  | .lampTestRequest p action => Sys2Proof.Machine.execLampTestRequest p action s
  | .lampTestRelease p => Sys2Proof.Machine.execLampTestRelease p s
  | .requestChime p sound priority => Sys2Proof.Machine.execRequestChime p sound priority s
  | .cancelChimes p => Sys2Proof.Machine.execCancelChimes p s
  | .readVehicle p => Sys2Proof.Machine.execReadVehicle p s
  | .readDriver p slot part => Sys2Proof.Machine.execReadDriver p slot part s
  | .readHistory p slot start => Sys2Proof.Machine.execReadHistory p slot start s
  | .setDriveWarning p lead => Sys2Proof.Machine.execSetDriveWarning p lead s
  | .readTime p => Sys2Proof.Machine.execReadTime p s
  | .setTime p time => Sys2Proof.Machine.execSetTime p time s
  | .setLocalOffset p q => Sys2Proof.Machine.execSetLocalOffset p q s
  | .setTick p period => Sys2Proof.Machine.execSetTick p period s
  | .setInput p args => Sys2Proof.Machine.execSetInput p args s
  | .readInputs p => Sys2Proof.Machine.execReadInputs p s
  | .supervisionTimerExpiry p => Sys2Proof.Machine.execSupervisionTimerExpiry p s
  | .speedFrame speed overspeed motion => Sys2Proof.Machine.execSpeedFrame speed overspeed motion s
  | .timeFrame time valid => Sys2Proof.Machine.execTimeFrame time valid s
  | .activityFrame slot1 slot2 => Sys2Proof.Machine.execActivityFrame slot1 slot2 s
  | .summaryFrame slot1 slot2 => Sys2Proof.Machine.execSummaryFrame slot1 slot2 s
  | .distanceFrame odometer trip => Sys2Proof.Machine.execDistanceFrame odometer trip s
  | .noticeFrame level code => Sys2Proof.Machine.execNoticeFrame level code s
  | .recorderFrameDiscarded char framingError => Sys2Proof.Machine.execRecorderFrameDiscarded char framingError s
  | .gapTimeout => Sys2Proof.Machine.execGapTimeout s
  | .linkSupervisionExpiry => Sys2Proof.Machine.execLinkSupervisionExpiry s
  | .statusCadence => Sys2Proof.Machine.execStatusCadence s
  | .transmitComplete => Sys2Proof.Machine.execTransmitComplete s
  | .filterUpdate => Sys2Proof.Machine.execFilterUpdate s
  | .motionInterval => Sys2Proof.Machine.execMotionInterval s
  | .scanFrameStart => Sys2Proof.Machine.execScanFrameStart s
  | .rowSlotEnd draws => Sys2Proof.Machine.execRowSlotEnd draws s
  | .internalTimerExpiry => Sys2Proof.Machine.execInternalTimerExpiry s
  | .portSTimerExpiry => Sys2Proof.Machine.execPortSTimerExpiry s
  | .chimeEnd => Sys2Proof.Machine.execChimeEnd s
  | .gapEnd => Sys2Proof.Machine.execGapEnd s
  | .secondAdvance => Sys2Proof.Machine.execSecondAdvance s
  | .oscillatorStop => Sys2Proof.Machine.execOscillatorStop s
  | .oscillatorEdgeReturn => Sys2Proof.Machine.execOscillatorEdgeReturn s
  | .recoveryAbandoned => Sys2Proof.Machine.execRecoveryAbandoned s
  | .oscillatorRecovery => Sys2Proof.Machine.execOscillatorRecovery s
  | .basisTimerExpiry slot => Sys2Proof.Machine.execBasisTimerExpiry slot s
  | .debounceComplete input => Sys2Proof.Machine.execDebounceComplete input s
  | .selfCheckTimerExpiry => Sys2Proof.Machine.execSelfCheckTimerExpiry s
  | .supplyLowEntered => Sys2Proof.Machine.execSupplyLowEntered s
  | .supplyLowLeft => Sys2Proof.Machine.execSupplyLowLeft s
  | .powerOnReset => Sys2Proof.Machine.execPowerOnReset s
  | .pinReset => Sys2Proof.Machine.execPinReset s
  | .resetCauseEnd => Sys2Proof.Machine.execResetCauseEnd s
  | .resetHoldEnd => Sys2Proof.Machine.execResetHoldEnd s
  | .characterReceived char framingError => Sys2Proof.Machine.execCharacterReceived char framingError s
  | .inputSample millivolts => Sys2Proof.Machine.execInputSample millivolts s
  | .vbsMeasurement millivolts => Sys2Proof.Machine.execVbsMeasurement millivolts s

end Sys2Proof.Machine
end

