-- ==== Sys2Proof/Machine/Tick.lean ====
section
/-! DEFINITION. One millisecond of the part's own clockwork (log 2): every timer of the spec moves on by a millisecond, and
the commands that then fall due are put in the queue, in a free order where the spec sets none (log 4, 13). -/
namespace Sys2Proof.Machine

/-! ### A millisecond in each block -/

/-- A timer that counts down; a stopped timer stays stopped. -/
def countDown (t : Option Nat) : Option Nat := t.map (· - 1)

/-- R16, R26: the two timers of the Gauge Engine. -/
def GaugeEngine.pass (g : GaugeEngine) : GaugeEngine :=
  { g with filterTime := min Config.filterPeriod (g.filterTime + 1)
           motionTime := min Config.motionPeriod (g.motionTime + 1) }

/-- R78, R80: the two hold timers. -/
def LampMatrix.pass (m : LampMatrix) : LampMatrix :=
  { m with hold := { m.hold with internalTimer := countDown m.hold.internalTimer
                                 portSTimer := countDown m.hold.portSTimer } }

/-- R89, R90: the play time, the gap and the cadence of the standing tone. -/
def ChimeUnit.pass (u : ChimeUnit) : ChimeUnit :=
  { u with playing := u.playing.map fun q => { q with elapsed := min q.chime.sound.length (q.elapsed + 1) }
           gap := countDown u.gap
           tone := u.tone.map fun t => (t + 1) % 1000 }

/-- R107: the 100 ms of edges of a recovery. -/
def Monitor.pass : Monitor → Monitor
  | .recovering t => .recovering (min Config.recoveryPeriod (t + 1))
  | .running => .running
  | .stopped => .stopped

/-- R98: a millisecond of the crystal at its nominal 32768 Hz, 4096 cycles in 125 ms (log 8). -/
def Clock.pass (c : Clock) : Clock :=
  if c.running then
    { c with prescaler := min Config.prescalerPeriod (c.prescaler + (c.crystalPhase + 4096) / 125)
             crystalPhase := (c.crystalPhase + 4096) % 125 }
  else { c with monitor := c.monitor.pass }

/-- R114, R128: a millisecond of a frame to the recorder, 38.4 bit times (log 15). -/
def Sending.pass (t : Sending) : Sending := { t with left := t.left - 384 }

/-- R116, R118, R127, R128: the character gap, link supervision, the cadence and the transmitter. -/
def RecorderLink.pass (r : RecorderLink) : RecorderLink :=
  { r with gapTime := if r.assembly = .hunt then 0 else min Config.characterGap (r.gapTime + 1)
           timer := countDown r.timer
           cadence := countDown r.cadence
           sending := r.sending.map Sending.pass }

/-- R152: the basis timer of a record. -/
def DriverRecord.pass (r : DriverRecord) : DriverRecord := { r with basisTimer := countDown r.basisTimer }

/-- R152: both basis timers. -/
def Accounting.pass (a : Accounting) : Accounting := { a with one := a.one.pass, two := a.two.pass }

/-- R171: the supervision timer of a port. -/
def PortUnit.pass (u : PortUnit) : PortUnit := { u with timer := countDown u.timer }

/-- R185: the self-check timer. -/
def SelfCheck.pass : SelfCheck → SelfCheck
  | .running n => .running (n - 1)
  | .stopped => .stopped
  | .runOut => .runOut

/-- R185: the timer of the Power Controller. -/
def Power.pass (w : Power) : Power := { w with selfCheck := w.selfCheck.pass }

/-- R190: the reset hold. -/
def ResetProgress.pass : ResetProgress → ResetProgress
  | .hold n => .hold (n - 1)
  | .out => .out
  | .cause => .cause

/-! ### What falls due -/

/-- A command that falls due under a condition. -/
def dueIf (c : Bool) (i : Instr) : List Instr := if c then [i] else []

/-- R98, R109: what falls due in the clock. -/
def clockDue (c : Clock) : List Instr :=
  dueIf c.secondOut .secondAdvance ++ dueIf c.monitor.recovered .oscillatorRecovery

/-- R118, R127, R128, R116: what falls due in the Recorder Link Unit. -/
def linkDue (r : RecorderLink) : List Instr :=
  dueIf r.gapOut .gapTimeout ++ dueIf (ranOut r.timer) .linkSupervisionExpiry ++
    dueIf (ranOut r.cadence) .statusCadence ++ dueIf r.sent .transmitComplete

/-- R89: what falls due in the Chime Unit. -/
def chimeDue (u : ChimeUnit) : List Instr :=
  dueIf u.playedOut .chimeEnd ++ dueIf (ranOut u.gap) .gapEnd

/-- The column sense of the row in its slot, as the latest command found it (log 10). -/
def rowDraws (s : State) : Tab Bool 8 :=
  .ofFn fun c => match lampAt s.lmd.slot c with | some n => s.pins.draws.get n | none => true

/-- The timers of a part out of reset that have run out, but for the start of a scan frame. -/
def timersDue (s : State) : List Instr :=
  dueIf (Config.filterPeriod ≤ s.ge.filterTime) .filterUpdate ++
    dueIf (Config.motionPeriod ≤ s.ge.motionTime) .motionInterval ++
    dueIf (ranOut s.lmd.hold.internalTimer) .internalTimerExpiry ++
    dueIf (ranOut s.lmd.hold.portSTimer) .portSTimerExpiry ++ chimeDue s.cu ++ clockDue s.cc ++ linkDue s.rlu ++
    dueIf (ranOut s.aau.one.basisTimer) (.basisTimerExpiry .one) ++
    dueIf (ranOut s.aau.two.basisTimer) (.basisTimerExpiry .two) ++
    dueIf (ranOut s.portD.timer) (.supervisionTimerExpiry .d) ++
    dueIf (ranOut s.portS.timer) (.supervisionTimerExpiry .s) ++
    dueIf (s.pwc.selfCheck = .running 0) .selfCheckTimerExpiry

/-- What is measured in every millisecond out of reset: the inputs, the battery and the row in its slot. -/
def measuresDue (s : State) : List Instr :=
  [.inputSample s.pins.inputs, .vbsMeasurement s.pins.battery] ++ dueIf (s.lmd.slot < 6) (.rowSlotEnd (rowDraws s))

/-- A command put at a free place behind a given one. -/
def placeAfter (k : Nat) (first later : Instr) (l : List Instr) : List Instr :=
  let behind := l.idxOf first + 1
  let place := behind + k % (l.length + 1 - behind)
  l.take place ++ later :: l.drop place

/-- Commands that fall due at one moment, in a free order: the events of timers, and the measurements of the moment. -/
def queueDue (timers measures : List Instr) (s : State) : State :=
  let all := measures ++ timers
  ((s.setPending (arrange s.choices all)).setChoices (s.choices + (all.length - 1))).setDue timers

/-- R66: a scan frame that starts at the end of its sixth row slot, at a free place behind the slot's end (log 13). -/
def queueFrameStart (s : State) : State :=
  if 5 ≤ s.lmd.slot then
    ((s.setPending (placeAfter (Config.freeChoice s.choices) (.rowSlotEnd (rowDraws s)) .scanFrameStart s.pending)).setChoices
      (s.choices + 1)).setDue (.scanFrameStart :: s.due)
  else s

/-! ### The millisecond -/

/-- Every timer of a part that is out of reset, a millisecond on. -/
def passOut (s : State) : State :=
  { s with ge := s.ge.pass, lmd := s.lmd.pass, cu := s.cu.pass, cc := s.cc.pass, rlu := s.rlu.pass, aau := s.aau.pass
           portD := s.portD.pass, portS := s.portS.pass, pwc := s.pwc.pass }

/-- R97, R107, R190: a part in reset: the hold runs, and in a reset that no power-on cause has made the crystal goes on. -/
def passHeld (s : State) : State :=
  { s with rst := { s.rst with progress := s.rst.progress.pass }
           cc := if s.rst.causes.powerOn then s.cc else s.cc.pass }

/-- What falls due in a part in reset. -/
def heldDue (s : State) : List Instr :=
  dueIf (s.rst.progress = .hold 0) .resetHoldEnd ++ (if s.rst.causes.powerOn then [] else clockDue s.cc)

/-- One millisecond on an empty queue. -/
def tick (s : State) : State :=
  if isOut s then queueFrameStart (queueDue (timersDue (passOut s)) (measuresDue (passOut s)) (passOut s))
  else queueDue (heldDue (passHeld s)) [] (passHeld s)

end Sys2Proof.Machine
end

