-- ==== Sys2Proof/Machine/Leads.lean ====
section
/-! DEFINITION. The input leads bit by bit: chip select and clock of the SPI ports (R166 to R169), the line from the
recorder (R114), and the leads of the reset causes (R190). These are no commands of their own: they make the commands of whole
frames, characters and causes, which they put at the back of the queue (log 16). -/
namespace Sys2Proof.Machine

/-- A command put at the back of the queue. -/
def enqueue (i : Instr) (s : State) : State := s.setPending (s.pending ++ [i])

/-! ### SPI ports -/

/-- R166, R169: chip select of a port falls. Out of reset a frame begins, and its status byte is formed; in a reset the low
period is not a frame. A chip select that is low does not fall. -/
def selectFalls (p : Port) (s : State) : State :=
  let l := s.spi p
  if l.selected then s
  else s.setSpi p { l with selected := true, bits := [], status := if isOut s then some (statusByte s p) else none }

/-- R166: a rising edge of the clock of a port, with the level of its data input; a port that is not selected takes none. -/
def clockBit (p : Port) (level : Bool) (s : State) : State :=
  let l := s.spi p
  if l.selected then s.setSpi p { l with bits := l.bits ++ [level] } else s

/-- R166 to R169: chip select of a port rises. If a frame ends, its command is put in the queue, and what the
leads tell of it is kept for that command; another low period ends without one. -/
def selectRises (p : Port) (s : State) : State :=
  let l := s.spi p
  if l.selected then
    let idle := { l with selected := false, status := none, bits := [] }
    match l.status with
    | some b =>
      enqueue (decodePeriod p l.bits) (s.setSpi p { idle with ended := l.ended ++ [{ status := b, bits := l.bits.length }] })
    | none => s.setSpi p idle
  else s

/-- R166: a whole low period of a port, with the bits clocked in it. -/
def lowPeriod (p : Port) (bits : List Bool) (s : State) : State :=
  selectRises p (bits.foldl (fun s b => clockBit p b s) (selectFalls p s))

/-! ### The line from the recorder -/

/-- R114: what the receiver makes of one more sample of the line, and the command of the character it completes. -/
def Receiver.sample (level : Bool) : Receiver → Receiver × Option Instr
  | .waiting => (if level then .idle else .waiting, none)
  | .idle => (if level then .idle else .taking [false], none)
  | .taking samples =>
    if samples.length < 9 then (.taking (samples ++ [level]), none)
    else (if level then .idle else .broken 0, decodeCharacter (samples ++ [level]))
  | .broken low =>
    if level then (.idle, none)
    else if low < 9 then (.broken (low + 1), none)
    else (.broken 0, some (.characterReceived 0 true))

/-- R114: one bit time of the line from the recorder, sampled at its middle (log 16); a character it completes is put in the
queue. In a reset the receiver is held. -/
def lineBit (level : Bool) (s : State) : State :=
  if isOut s then
    let t := s.setRlu { s.rlu with receiver := (s.rlu.receiver.sample level).1 }
    match (s.rlu.receiver.sample level).2 with
    | some i => enqueue i t
    | none => t
  else s

/-- R114: several bit times of the line, first to last. -/
def lineBits (levels : List Bool) (s : State) : State := levels.foldl (fun s b => lineBit b s) s

/-! ### Reset causes -/

/-- R190: a lead gives up its cause; with it the last cause ends, if no other lead holds one. -/
def causeGone (s : State) : State := if s.pins.holdsCause then s else enqueue .resetCauseEnd s

/-- R190: VDD5 stands at so many mV: below 4.3 V it is a power-on cause, which ends when it rises above 4.4 V. -/
def vdd5Lead (millivolts : Nat) (s : State) : State :=
  if s.pins.vdd5Low then
    if Config.powerOnAbove < millivolts then causeGone (s.setPins { s.pins with vdd5Low := false }) else s
  else if millivolts < Config.powerOnBelow then enqueue .powerOnReset (s.setPins { s.pins with vdd5Low := true })
  else s

/-- R190: RST_N has been low for so many ns: a shorter pulse than 1 µs is ignored, and another is a cause. -/
def rstFalls (nanos : Nat) (s : State) : State :=
  if s.pins.rstLow || nanos < Config.pinPulse then s else enqueue .pinReset (s.setPins { s.pins with rstLow := true })

/-- R190: RST_N returns high, which ends its cause. -/
def rstRises (s : State) : State :=
  if s.pins.rstLow then causeGone (s.setPins { s.pins with rstLow := false }) else s

end Sys2Proof.Machine
end

