-- ==== Sys2Proof/Machine/Pins.lean ====
section
/-! DEFINITION. The output leads, each computed from the state: coils (R31, R32), rows and columns (R66, R68), sounder (R91),
event lines (R183), the line to the recorder (R114, R128), the data outputs of the ports (R166), and their release in a reset
(R190). -/
namespace Sys2Proof.Machine

/-! ### Coils -/

/-- R31: the current of coil A in mA, positive from GnA1 to GnA2: 25 mA times the sine of k times 7.5 degrees. -/
noncomputable def CoilDrive.currentA : CoilDrive → ℝ
  | .released => 0
  | .energized k => Config.fullScale * Real.sin (k * (Real.pi / 24))

/-- R31: the current of coil B in mA, positive from GnB1 to GnB2: 25 mA times the cosine of k times 7.5 degrees. -/
noncomputable def CoilDrive.currentB : CoilDrive → ℝ
  | .released => 0
  | .energized k => Config.fullScale * Real.cos (k * (Real.pi / 24))

/-- R31, R32, R190: the coils of a gauge, once the latest motion interval has passed; released in a reset. -/
def coilLead (s : State) (i : Fin 8) : CoilDrive := if isOut s then (s.ge.channels.get i).coils else .released

/-- R31, R32, R42, R190: the coils of a gauge so many microseconds into the latest motion interval; released in a reset. -/
def coilDuring (s : State) (i : Fin 8) (micros : Nat) : CoilDrive :=
  if isOut s then (s.ge.channels.get i).coilsDuring s.pwc.supplyLow micros else .released

/-! ### Lamp matrix -/

/-- R66, R68, R190: whether a row output, LR0 to LR5, is switched on. -/
def rowLead (s : State) (row : Fin 6) : Bool := isOut s && rowDrive s row

/-- R66, R190: for a column output, its on-time in sixteenths of the slot; none where it does not sink in this slot. -/
def columnLead (s : State) (col : Fin 8) : Option Nat := if isOut s then columnDrive s col else none

/-- R66: whether a column sinks so many microseconds into its row slot, of 1 ms: the on-time begins with the slot. -/
def columnSinks (s : State) (col : Fin 8) (micros : Nat) : Bool :=
  match columnLead s col with
  | some d => 16 * micros < 1000 * d
  | none => false

/-! ### Sounder, event lines and the line to the recorder -/

/-- R91, R190: the frequency at the sounder, in Hz; none while it is silent. -/
def sounderLead (s : State) : Option Nat := if isOut s then s.cu.output else none

/-- R183: whether an event line is driven low. It is released in a reset. -/
def eventLead (s : State) (p : Port) : Bool := isOut s && eventLine (s.port p)

/-- R114: the level of one bit of a character on the line, from its start bit. -/
def characterBit (b : Byte) (n : Nat) : Bool := if n = 0 then false else if n ≤ 8 then b.getLsbD (n - 1) else true

/-- R114: the level of the line at one bit of a frame, from the start bit of its first character; high once its last stop bit
has passed. -/
def frameBit (f : List Byte) (n : Nat) : Bool := if n < 10 * f.length then characterBit (byteAt f (n / 10)) (n % 10) else true

/-- R114, R128, R190: the level of RLTX: the bit of the frame under way, high while the line idles and in a reset. -/
def recorderLead (s : State) : Bool :=
  match s.rlu.sending with
  | some t => if isOut s then frameBit t.bytes ((100 * t.bytes.length - t.left) / 10) else true
  | none => true

/-! ### The data outputs of the ports -/

/-- R166: a bit of a frame of bytes, most significant bit of each first; 0 after the last. -/
def outputBit (f : List Byte) (n : Nat) : Bool := if n < 8 * f.length then (byteAt f (n / 8)).getMsbD (n % 8) else false

/-- The number of a port. -/
def portNumber : Port → Nat
  | .d => 0
  | .s => 1

/-- R166, R168, R190: the data output of a port: none at high impedance, while chip select is high and in a reset; in a frame
the bit of the pending response that follows the bits clocked so far, and 00h after its 24 bytes; in a low period that is not
a frame a free bit (log 30). -/
def dataLead (s : State) (p : Port) : Option Bool :=
  let l := s.spi p
  if isOut s && l.selected then
    match l.status with
    | some b => some (outputBit (responseFrame b (s.port p).response) l.bits.length)
    | none => some (Config.strayBit (portNumber p) s.choices l.bits.length)
  else none

end Sys2Proof.Machine
end

