-- ==== Sys2Proof/Safety.lean ====
section
/-! DEFINITION. What a sound state of the part is: the properties the rules give its records at all times, each decidable,
each kept by every step. The claims are stated in these terms. -/
namespace Sys2Proof.Machine

/-! ### How a command answers -/

/-- R168: the machine takes a port frame, and its request leaves state t and is answered with a result and data. -/
def Answers (c : Instr) (p : Port) (code : Byte) (result : ResultCode) (data : List Byte) (s t : State) : Prop :=
  exec c s = .next (respond p { command := code, result, data := .ofList 0 data } t)

/-- R170: a port frame that is refused: steps 1 and 2 of a taken frame, the result, and nothing else. -/
def Refuses (c : Instr) (p : Port) (code : Byte) (result : ResultCode) (s : State) : Prop :=
  Answers c p code result [] s (beginFrame p s)

/-- Log 3: the event of a timer takes place at its command: the timer has run out, where the latest millisecond found the
command due, and runs, where the command is given otherwise. -/
def Comes (c : Instr) (running out : Prop) (s : State) : Prop := (c ∈ s.due → out) ∧ (c ∉ s.due → running)

/-- The state once a timer command has been run: it is no longer among those found due. -/
def ranBy (c : Instr) (s : State) : State := s.setDue (s.due.erase c)

/-- Log 3: a timer command whose event does not take place changes nothing but the list of those found due. -/
def Lapses (c : Instr) (running out : Prop) (s : State) : Prop := ¬Comes c running out s → exec c s = .next (ranBy c s)

/-- R166: the bits of a frame in the order they are clocked in: byte by byte, most significant bit first. -/
def frameBits (f : List Byte) : List Bool := f.flatMap fun b => (List.range 8).map b.getMsbD

/-- The parts of the state that a frame of a statement names. -/
inductive Block
  | gauges | lamps | matrix | chimes | clock | recorder | drivers | inputs
  /-- The two event tables. -/
  | events
  /-- Source state, supervision and fresh of both ports. -/
  | ports
  /-- The pending responses of both ports. -/
  | responses
  | window | power | reset
  /-- The measured input leads. -/
  | leads
  /-- The leads of the SPI ports. -/
  | spi
  /-- The model's own list of timer commands found due. -/
  | due
  | queue
deriving DecidableEq, Repr

/-- That a block stands in t as it stood in s. -/
def Block.same (s t : State) : Block → Prop
  | .gauges => t.ge = s.ge
  | .lamps => t.lamps = s.lamps
  | .matrix => t.lmd = s.lmd
  | .chimes => t.cu = s.cu
  | .clock => t.cc = s.cc
  | .recorder => t.rlu = s.rlu
  | .drivers => t.aau = s.aau
  | .inputs => t.inputs = s.inputs
  | .events => ∀ p, (t.port p).events = (s.port p).events
  | .ports => ∀ p, (t.port p).live = (s.port p).live ∧ (t.port p).timer = (s.port p).timer ∧
      (t.port p).period = (s.port p).period ∧ (t.port p).fresh = (s.port p).fresh
  | .responses => ∀ p, (t.port p).response = (s.port p).response
  | .window => t.window = s.window
  | .power => t.pwc = s.pwc
  | .reset => t.rst = s.rst
  | .leads => t.pins.inputs = s.pins.inputs ∧ t.pins.battery = s.pins.battery ∧ t.pins.draws = s.pins.draws
  | .spi => ∀ p, t.spi p = s.spi p
  | .due => t.due = s.due
  | .queue => t.pending = s.pending

/-- Every block but those listed stands as it stood. -/
def OnlyChanges (blocks : List Block) (s t : State) : Prop := ∀ b, b ∉ blocks → b.same s t

/-- The events of a kind recorded in both tables as one posting more, with an argument (R180). -/
def Posted (k : EventKind) (argument : Nat) (s t : State) : Prop :=
  ∀ q, (t.port q).events.get k.number = ((s.port q).events.get k.number).posted argument

/-- The events of a kind stand in both tables as they stood. -/
def NotPosted (k : EventKind) (s t : State) : Prop :=
  ∀ q, (t.port q).events.get k.number = (s.port q).events.get k.number

/-! ### Gauge channels (chapters 1 and 2) -/

/-- The states in which a pointer rests at 0 with nothing to run (R4, R34, R38, R39). -/
def Channel.mustRest (c : Channel) : Bool := c.state = .unhomed || c.state = .homing || c.state = .parked

/-- R30: where a move of n microsteps in a direction leaves a channel: it stops at 0 or at sweep_limit where it would pass
them, and its speed is then 0. -/
def Channel.moved (c : Channel) (dir : Direction) (n speed : Nat) : Channel :=
  let goal : Int := match dir with | .up => c.position + n | .down => (c.position : Int) - n
  { c with
    direction := dir
    position := if goal < 0 then 0 else if (c.sweepLimit : Int) < goal then c.sweepLimit else goal.toNat
    speed := if goal < 0 ∨ (c.sweepLimit : Int) < goal then 0 else speed }

/-- R11: whether a channel has entered NO_SIGNAL between two states. -/
def LosesSignal (s t : State) (i : Fin 8) : Prop :=
  (s.ge.channels.get i).active ≠ none ∧ (t.ge.channels.get i).active = none

/-- R11, R180: every channel that has entered NO_SIGNAL has F at 0, and T too where it is TRACKING, and posts
GAUGE_NO_SIGNAL; the F and T of every other channel stand. -/
def SignalsLost (s t : State) : Prop :=
  (∀ i, LosesSignal s t i → (t.ge.channels.get i).filter = 0 ∧
    (t.ge.channels.get i).target = if (s.ge.channels.get i).state = .tracking then 0 else (s.ge.channels.get i).target) ∧
  (∀ i, ¬LosesSignal s t i → (t.ge.channels.get i).filter = (s.ge.channels.get i).filter ∧
    (t.ge.channels.get i).target = (s.ge.channels.get i).target) ∧
  (∀ p, ∀ lost : List (Fin 8), lost.Nodup → (∀ i, i ∈ lost ↔ LosesSignal s t i) →
    let old := (s.port p).events.get EventKind.gaugeNoSignal.number
    ((t.port p).events.get EventKind.gaugeNoSignal.number).count =
      if old.level = 0 ∨ lost = [] then old.count else min 255 (old.count + lost.length)) ∧
  ((∀ i, ¬LosesSignal s t i) → NotPosted .gaugeNoSignal s t) ∧
  ∀ i, LosesSignal s t i → (∀ j, LosesSignal s t j → j = i) → Posted .gaugeNoSignal i.val s t

/-- R5: what a curve must meet under a sweep limit. -/
def CurveLegal (sweepLimit : Nat) (curve : List Point) : Prop :=
  2 ≤ curve.length ∧ curve.length ≤ 9 ∧ curve.Pairwise (fun p q => p.x < q.x) ∧ ∀ q ∈ curve, q.a ≤ sweepLimit

/-- R18: q is the quotient num ÷ den rounded to the nearest whole number, a half away from zero. -/
def NearestQuotient (num : Int) (den : Nat) (q : Int) : Prop :=
  2 * (q * den - num).natAbs ≤ den ∧ (2 * (q * den - num).natAbs = den → num.natAbs < (q * den).natAbs)

/-- R4, R36, R38, R39, R13: the target that the state of a channel fixes. -/
def Channel.targetSound (c : Channel) : Bool :=
  match c.state with
  | .unhomed | .homing | .parked | .parking | .sweepDown => c.target = 0
  | .sweepUp => c.target = c.sweepLimit
  | .tracking => c.active.isSome || c.target = 0

/-- R4: a value is absent or a 16-bit quantity. -/
def valueSound (v : Option Nat) : Bool := match v with | some x => x ≤ 65535 | none => true

/-- R31: the walk of a channel's coils ends at their present phase index, and released coils walk nowhere. -/
def Channel.walkSound (c : Channel) : Bool :=
  match c.coils with
  | .released => c.walk = []
  | .energized k => c.walk.all (· < 48) && (c.walk = [] || c.walk.getLast? = some k)

/-- R4 to R40: a channel record within its ranges, with its curve checked and its running state as its rules leave it. -/
def Channel.sound (c : Channel) : Bool :=
  60 ≤ c.sweepLimit && c.sweepLimit ≤ 3780 && 1 ≤ c.vmax && c.vmax ≤ 12 && c.filterShift ≤ 7 &&
    c.fallback ≠ some c.primary && curvePasses c.sweepLimit c.curve &&
    valueSound c.valueD && valueSound c.valueS && valueSound c.valueR &&
    (match c.active with | some a => c.enabled && c.lists a && (c.value a).isSome | none => c.filter = 0) &&
    c.filter ≤ 16776960 && c.target ≤ c.sweepLimit && c.position ≤ c.sweepLimit && c.speed ≤ c.vmax &&
    c.overdrive ≤ c.sweepLimit + 120 && (c.state = .homing || c.overdrive = 0) && c.targetSound && c.walkSound &&
    (!c.mustRest || (c.position = 0 && c.speed = 0)) &&
    (c.enabled || (c.state = .unhomed && c.valueD = none && c.valueS = none && c.valueR = none))

/-- Every channel is sound, and while the supply is low no coils walk (R42). -/
def State.gaugesSound (s : State) : Bool :=
  s.ge.channels.all fun c => c.sound && (!s.pwc.supplyLow || c.walk = [])

/-- R7, R9: no source that is not LIVE holds a value in a channel, and the active source is the first of the list that is
LIVE and holds one. -/
def Channel.follows (live : Source → Bool) (c : Channel) : Bool :=
  (live .portD || c.valueD = none) && (live .portS || c.valueS = none) && (live .recorder || c.valueR = none) &&
    c.active = c.select live

/-- Every channel follows its sources. -/
def State.sourcesFollowed (s : State) : Bool := s.ge.channels.all (Channel.follows (sourceLive s))

/-! ### Config window (R25, R176) -/

/-- R25, R176: while the window is open the vehicle speed value is absent or below 100, and a pending curve stands only
while it is open. -/
def State.windowSound (s : State) : Bool :=
  (!s.window || (match vehicleSpeed s with | some v => v < 100 | none => true)) &&
    (s.window || s.ge.channels.all fun c => c.pendingCurve.isNone)

/-! ### Lamps (chapter 3) -/

/-- A lamp record without what the table itself forms in an update: substitution, resolved and previous resolved state. -/
def Lamp.stored (l : Lamp) : Lamp := { l with substitution := false, resolved := .off, previous := .off }

/-- R51, R52: one update of the lamp table: a lamp whose contributions it changed is resolved, one whose contributions it left
keeps its resolved state, and a changed resolved state becomes the previous one. -/
def LampsUpdated (s t : State) : Prop :=
  ∀ n,
    let old := s.lamps.get n
    let new := t.lamps.get n
    (new.stored ≠ old.stored ∨ new.substitution ≠ old.substitution → new.resolved = new.resolve) ∧
      (new.stored = old.stored → new.substitution = old.substitution → new.resolved = old.resolved) ∧
      new.previous = (if new.resolved = old.resolved then old.previous else old.resolved)

/-- R60, R61: the substitution contributions of L0 and L1 stand as the open faults and the resolved states ask for. -/
def Substituted (t : State) : Prop :=
  let wanted := fun (cls : LampClass) (central : Fin 48) => ∃ n, n ≠ central ∧ (t.lamps.get n).cls = cls ∧
    (t.lmd.readings.get n).openFault = true ∧ (t.lamps.get n).resolved ≠ .off
  ((t.lamps.get 0).substitution = true ↔ wanted .safety 0) ∧ ((t.lamps.get 1).substitution = true ↔ wanted .info 1)

/-- R47, R51, R54, R57, R59: a lamp record that is resolved, with the contributions that its sources and its class allow. -/
def lampSound (s : State) (n : Fin 48) (l : Lamp) : Bool :=
  l.resolved = l.resolve && l.loss = lossNow s l && (s.portD.live || l.writtenD = none) &&
    (s.portS.live || l.writtenS = none) && (s.rlu.live || l.recorder = none) &&
    (l.cls = .info || l.writtenD = none) && (!isMapped s.inputs n || l.writtenD = none) &&
    (n ≠ 0 || l.cls = .safety) && (n.val = 0 || 5 < n.val || l.cls = .info)

/-- Every lamp record is sound. -/
def State.lampsSound (s : State) : Bool := (List.finRange 48).all fun n => lampSound s n (s.lamps.get n)

/-- R14, R48 to R50, R60, R61: the contributions that the blocks form: input, account, gauge and substitution stand as the
blocks would now form them. -/
def handedSound (s : State) (n : Fin 48) (l : Lamp) : Bool :=
  l.input = inputContribution s.inputs n && l.account = (if n = 2 then some (accountContribution s.aau) else none) &&
    l.gauge = gaugeContribution s.ge s.pwc.state n && (n.val = 3 || n.val = 4 || l.recorder = none) &&
    (n ≠ 0 || l.cls = .safety) && (n ≠ 1 || l.cls = .info) &&
    l.substitution =
      (if n = 0 then wantsSubstitution s.lmd.readings s.lamps .safety 0
       else if n = 1 then wantsSubstitution s.lmd.readings s.lamps .info 1 else false)

/-- Every contribution stands as its block would now form it. -/
def State.handedAll (s : State) : Bool := (List.finRange 48).all fun n => handedSound s n (s.lamps.get n)

/-! ### Lamp matrix (chapter 4) -/

/-- R75: one counter at most is above 0, and neither is above 3. -/
def OpenRecord.sound (r : OpenRecord) : Bool := r.low ≤ 3 && r.good ≤ 3 && (r.low = 0 || r.good = 0)

/-- R77 to R81: each holder has its timer, a hold that is kept is active, and outside RUN_CHECK and RUN nothing holds. -/
def Hold.sound (cycle : Bool) (h : Hold) : Bool :=
  h.internal = h.internalTimer.isSome && h.portS = h.portSTimer.isSome && (h.active || !(h.internal || h.portS)) &&
    (cycle || !(h.active || h.request)) && !(h.request && (h.internal || h.portS))

/-- R66 to R68, R71 to R81: the LMD within its ranges; a frame that scans stands in RUN_CHECK or RUN alone, and no other frame
lights a lamp. -/
def State.matrixSound (s : State) : Bool :=
  s.lmd.slot ≤ 6 && s.lmd.slowTime < 1000 && s.lmd.fastTime < 250 && s.lmd.dimming ≤ 15 && 4 ≤ s.lmd.floor &&
    s.lmd.floor ≤ 16 && 4 ≤ s.lmd.floorRequested && s.lmd.floorRequested ≤ 16 && s.lmd.readings.all OpenRecord.sound &&
    (s.lmd.plan.all fun d => match d with | some n => 1 ≤ n && n ≤ 16 | none => true) &&
    (inCycle s || !s.lmd.scanning) && (s.lmd.scanning || s.lmd.plan.all Option.isNone) && s.lmd.hold.sound (inCycle s)

/-! ### Chimes (chapter 5) -/

/-- R85: whether one entry stands before another. -/
def Chime.before (c d : Chime) : Bool := d.priority < c.priority || (d.priority = c.priority && c.arrival < d.arrival)

/-- R85: a chime queue in order, without two entries of one sound and origin. -/
def chimesOrdered : List Chime → Bool
  | [] => true
  | c :: rest => rest.all (fun d => c.before d && !(c.sound = d.sound && c.origin = d.origin)) && chimesOrdered rest

/-- R83, R85, R88 to R92: the Chime Unit: a queue of at most 8 entries in order, that waits only behind an entry in play or a
gap, the standing tone exactly while its three conditions hold, the mute exactly while the supply is low, and nothing queued
or playing outside RUN_CHECK and RUN. -/
def State.chimesSound (s : State) : Bool :=
  s.cu.queue.length ≤ 8 && chimesOrdered s.cu.queue && (s.cu.queue.all fun c => c.priority ≤ 3 && c.arrival ≤ s.cu.arrivals) &&
    (s.cu.queue.isEmpty || s.cu.playing.isSome || s.cu.gap.isSome) &&
    (s.cu.playing.isNone || s.cu.gap.isNone) && s.cu.tone.isSome = toneDue s && s.cu.muted = s.pwc.supplyLow &&
    (inCycle s || (s.cu.queue.isEmpty && s.cu.playing.isNone && s.cu.gap.isNone))

/-! ### Clock (chapter 6) -/

/-- R96, R99 to R101, R107: the clock holds a legal date, its weekday agrees with the date, it counts exactly while the
monitor is RUNNING, and it holds only at the end of its range. -/
def State.clockSound (s : State) : Bool :=
  s.cc.now.legal && s.cc.weekday = weekdayOf s.cc.now && s.cc.running = (s.cc.monitor = .running) &&
    (!s.cc.rangeHold || s.cc.now = DateTime.last) && (s.cc.running || (!s.cc.isSet && s.cc.now = DateTime.epoch)) &&
    (s.cc.isSet || !s.cc.byRecorder) && -48 ≤ s.cc.localOffset && s.cc.localOffset ≤ 56

/-! ### Recorder link (chapter 7) -/

/-- R115: characters that arrive one after another without framing error. -/
def characters : List Byte → State → Host.Outcome State Fault Refusal
  | [], s => .next s
  | c :: rest, s =>
    match exec (.characterReceived c false) s with
    | .next t => characters rest t
    | .fault e => .fault e
    | .refused e => .refused e

/-- R127, 12.4: the STATUS frame that starts in a state. -/
def statusFrame (t : State) : List Byte :=
  let f := [0xC5, 0x81, 0x03, byteOf t.pwc.state.code,
    flagByte [(t.lmd.plan.get 4).isSome, (t.lmd.plan.get 2).isSome, (t.lmd.readings.get 4).openFault],
    if t.cc.isSet then 1 else 0]
  f ++ [crc8 f]

/-- R128, 12.4: the bytes of a frame to the recorder that starts in a state. -/
def TxKind.frame (t : State) : TxKind → List Byte
  | .status => statusFrame t
  | .standby => [0xC5, 0x82, 0x00, crc8 [0xC5, 0x82, 0x00]]

/-- R128: a frame has fallen due: with the transmitter idle it has started, and otherwise it waits behind the others. -/
def FrameDue (k : TxKind) (s t : State) : Prop :=
  (s.rlu.sending = none → t.rlu.sending = some { bytes := k.frame t, left := 100 * (k.frame t).length } ∧
    t.rlu.waiting = s.rlu.waiting) ∧
  (s.rlu.sending ≠ none → t.rlu.sending = s.rlu.sending ∧ t.rlu.waiting = s.rlu.waiting ++ [k])

/-! ### Drivers (chapter 8) -/

/-- R146: a history list whose durations are 1 to 1440 and in which no two successive entries hold the same activity. -/
def historySound : List HistoryEntry → Bool
  | [] => true
  | [e] => 1 ≤ e.duration && e.duration ≤ 1440
  | e :: f :: rest => 1 ≤ e.duration && e.duration ≤ 1440 && e.activity ≠ f.activity && historySound (f :: rest)

/-- R130, R136, R140, R143, R146, R152: a driver record within its ranges; continuous never exceeds daily, a PRESENT record
holds the warning that its counts give and an ABSENT one holds NONE, and the basis timer runs while the basis is
CONFIRMED. -/
def DriverRecord.sound (lead : Nat) (r : DriverRecord) : Bool :=
  r.continuous ≤ r.daily && r.daily ≤ 1440 && r.restRun ≤ 1440 && 60 ≤ r.contLimit && r.contLimit ≤ 600 &&
    60 ≤ r.dailyLimit && r.dailyLimit ≤ 1440 && r.tallies.unknown ≤ 60 && r.tallies.rest ≤ 60 &&
    r.tallies.available ≤ 60 && r.tallies.work ≤ 60 && r.tallies.drive ≤ 60 && r.history.length ≤ 24 &&
    historySound r.history && r.warn = (if r.card then r.warnOf lead else .none) && r.confirmed = r.basisTimer.isSome

/-- Both driver records are sound, under a lead of at most 60. -/
def State.driversSound (s : State) : Bool :=
  s.aau.lead ≤ 60 && s.aau.one.sound s.aau.lead && s.aau.two.sound s.aau.lead

/-- R138: an activity has the largest tally, and of those that share it the one that comes first in the order. -/
def Tallies.Favours (t : Tallies) (a : Activity) : Prop :=
  let order : List Activity := [.drive, .work, .available, .rest, .unknown]
  0 < t.of a ∧ ∀ b, t.of b < t.of a ∨ (t.of b = t.of a ∧ order.idxOf a ≤ order.idxOf b)

/-- R136, R138: what a record picks at a minute tick, with the second that completes the minute tallied before. -/
def DriverRecord.Picks (r : DriverRecord) (a : Activity) : Prop :=
  r.card = true ∧ (r.tallies.addSecond r.activity).Favours a

/-- R139: both slots picked DRIVE. -/
def CrewConflict (s : State) : Prop := s.aau.one.Picks .drive ∧ s.aau.two.Picks .drive

/-- R138, R139: what a slot is credited at a minute tick. -/
def Credited (s : State) (slot : Slot) (a : Activity) : Prop :=
  (slot = .two ∧ CrewConflict s ∧ a = .available) ∨
    (¬(slot = .two ∧ CrewConflict s) ∧ (s.aau.record slot).Picks a)

/-- R141: a credited REST minute qualifies a break. -/
def DriverRecord.BreakQualifies (r : DriverRecord) : Prop :=
  r.runQualified = false ∧ (min 1440 (r.restRun + 1) = 45 ∨ (min 1440 (r.restRun + 1) = 30 ∧ r.firstPart = true))

/-- R140, R141: the counters of a record after a minute of an activity has been applied to them. -/
def CreditCounts (a : Activity) (r after : DriverRecord) : Prop :=
  (a = .drive → after.continuous = min 1440 (r.continuous + 1) ∧ after.daily = min 1440 (r.daily + 1)) ∧
  (a = .work ∨ a = .available ∨ a = .unknown → after.continuous = r.continuous ∧ after.daily = r.daily) ∧
  (a ≠ .rest → after.restRun = 0 ∧ (after.runQualified = true ↔ r.restRun = 0 ∧ r.runQualified = true) ∧
    (after.firstPart = true ↔ r.firstPart = true ∨ (15 ≤ r.restRun ∧ r.runQualified = false))) ∧
  (a = .rest →
    let run := min 1440 (r.restRun + 1)
    after.restRun = run ∧ (after.runQualified = true ↔ r.runQualified = true ∨ r.BreakQualifies) ∧
      (after.firstPart = true ↔ r.firstPart = true ∧ ¬r.BreakQualifies) ∧
      (r.BreakQualifies ∨ run = 540 → after.continuous = 0) ∧
      (¬r.BreakQualifies → run ≠ 540 → after.continuous = r.continuous) ∧
      after.daily = (if run = 540 then 0 else r.daily))

/-- R143: the warning that a record's counts give under a lead. -/
def WarnFits (lead : Nat) (r : DriverRecord) : Prop :=
  (r.warn = .limit ↔ r.contLimit ≤ r.continuous) ∧
    (r.warn = .prewarn ↔ r.continuous < r.contLimit ∧ 0 < lead ∧ r.contLimit - lead ≤ r.continuous)

/-- A chime of a sound and origin is queued or in play, or the queue is full. -/
def Chimes (sound : Sound) (origin : Origin) (t : State) : Prop :=
  (∃ c ∈ t.cu.queue, c.sound = sound ∧ c.origin = origin) ∨
    (∃ q ∈ t.cu.playing, q.chime.sound = sound ∧ q.chime.origin = origin) ∨ 8 ≤ t.cu.queue.length

/-- R50, R143, R144: what a change of a slot's warning brings: its event, its chime in RUN_CHECK and RUN, and L2. -/
def WarnTold (slot : Slot) (s t : State) : Prop :=
  let old := (s.aau.record slot).warn
  let new := (t.aau.record slot).warn
  let origin : Origin := .account slot
  (new ≠ old → new = .prewarn → inCycle s = true → Chimes .single origin t) ∧
    (new ≠ old → new = .limit → inCycle s = true → Chimes .triple origin t) ∧
    (new ≠ old → (t.lamps.get 2).account =
      some (if t.aau.one.warn = .limit ∨ t.aau.two.warn = .limit then .slow
        else if t.aau.one.warn = .prewarn ∨ t.aau.two.warn = .prewarn then .on else .off)) ∧
    ((t.aau.record slot).card = true →
      (∀ other, other ≠ slot → t.aau.record other = s.aau.record other) →
      (if new ≠ old ∧ new = .prewarn then Posted .drivePrewarn (slotNumber slot) s t else NotPosted .drivePrewarn s t) ∧
      (if new ≠ old ∧ new = .limit then Posted .driveLimit (slotNumber slot) s t else NotPosted .driveLimit s t))

/-! ### Inputs (chapter 9) -/

/-- R156, R158, R159: an input record within its ranges: it is active exactly while its debounced level is its polarity, a wait
runs only while the levels differ, and IGNITION is the function of DI0 alone, whose settings are fixed. -/
def inputSound (i : Fin 12) (r : InputRecord) : Bool :=
  r.active = (r.debounced = r.activeHigh) && (r.raw ≠ r.debounced || r.wait = 0) && r.wait ≤ 249 && 10 ≤ r.debounce &&
    r.debounce ≤ 250 && r.debounce % 10 = 0 && ((r.function = .ignition) = (i = 0)) &&
    (i ≠ 0 || (r.activeHigh && r.debounce = 50 && r.edge = .none && r.target = 0 && r.lampState = .on))

/-- Every input record is sound. -/
def State.inputsSound (s : State) : Bool := (List.finRange 12).all fun i => inputSound i (s.inputs.get i)

/-- R161: an input asks for a lamp state on a lamp. -/
def InputAsks (t : State) (n : Fin 48) (v : LampState) : Prop :=
  ∃ j, (t.inputs.get j).function = .lamp ∧ (t.inputs.get j).target = n ∧
    v = if (t.inputs.get j).active then (t.inputs.get j).lampState.lamp else .off

/-- R49, R161: the input contribution of a lamp is the most prominent of what its inputs ask for, and absent where none asks. -/
def InputFormed (t : State) (n : Fin 48) : Prop :=
  match (t.lamps.get n).input with
  | none => ∀ j, ¬((t.inputs.get j).function = .lamp ∧ (t.inputs.get j).target = n)
  | some v => InputAsks t n v ∧ ∀ j, (t.inputs.get j).function = .lamp → (t.inputs.get j).target = n →
      (if (t.inputs.get j).active then (t.inputs.get j).lampState.lamp else .off : LampState).rank ≤ v.rank

/-- R157: how a sample reads: high above 8.0 V, low below 4.0 V, and as the sample before it between; so too at a threshold
(log 34). -/
def InputRecord.reads (r : InputRecord) (millivolts : Int) : Bool :=
  if 8000 < millivolts then true else if millivolts < 4000 then false else r.raw

/-- R158: a sample completes the wait of an input. -/
def InputRecord.Completes (r : InputRecord) (millivolts : Int) : Prop :=
  r.reads millivolts ≠ r.debounced ∧ r.debounce ≤ r.wait + 1

/-- R162: an edge to a level posts DISCRETE_EDGE. -/
def InputRecord.Tells (r : InputRecord) (level : Bool) : Prop :=
  (r.function = .lamp ∨ r.function = .event) ∧ (r.edge = .both ∨ r.edge = if level then .rise else .fall)

/-! ### The ignition cycle (chapters 2 and 11) -/

/-- R40: check complete. -/
def CheckComplete (t : State) : Prop :=
  ∀ i, (t.ge.channels.get i).enabled = true → (t.ge.channels.get i).state = .tracking

/-- R40: parking complete. -/
def ParkingComplete (t : State) : Prop :=
  ∀ i, (t.ge.channels.get i).state = .unhomed ∨ (t.ge.channels.get i).state = .homing ∨
    (t.ge.channels.get i).state = .parked

/-- R14: every lamp that an enabled channel names holds its gauge contribution as it would now be formed: ON in RUN where one
of the channels that name it has no signal, and OFF otherwise. -/
def GaugeFormed (t : State) : Prop :=
  ∀ i, (t.ge.channels.get i).enabled = true →
    let n := (t.ge.channels.get i).faultLamp
    let lost := ∃ j, (t.ge.channels.get j).enabled = true ∧ (t.ge.channels.get j).faultLamp = n ∧
      (t.ge.channels.get j).active = none
    (t.pwc.state = .run ∧ lost → (t.lamps.get n).gauge = some .on) ∧
      (¬(t.pwc.state = .run ∧ lost) → (t.lamps.get n).gauge = some .off)

/-- R128, R173: STANDBY has been entered: the supervision timers and the cadence stand still, and a STANDBY frame has fallen
due. -/
def Quiesced (s t : State) : Prop :=
  t.portD.timer = none ∧ t.portS.timer = none ∧ t.rlu.cadence = none ∧ FrameDue .standby s t

/-! ### Events (R179, R181) -/

/-- R179: an event record: a kind at level 0 is not pending, and a kind that is not pending holds nothing. -/
def EventRecord.sound (r : EventRecord) : Bool :=
  r.level ≤ 3 && r.count ≤ 255 && r.argument ≤ 255 && (r.level ≠ 0 || r.count = 0) && (r.count ≠ 0 || r.argument = 0)

/-- R179, R181: both event tables sound, the fixed levels of Port S at 3, and nothing pending in a reset. -/
def State.eventsSound (s : State) : Bool :=
  s.portD.events.all EventRecord.sound && s.portS.events.all EventRecord.sound &&
    ((List.finRange 26).all fun k => !fixedAtPortS k || (s.portS.events.get k).level = 3) &&
    (isOut s || (kindsPending s.portD.events = 0 && kindsPending s.portS.events = 0))

/-! ### Power and supervision (chapters 10 and 11) -/

/-- R33, R38, R41: the channel states that a power state allows. -/
def stateAllowed (w : PowerState) (c : Channel) : Bool :=
  match w with
  | .standby => c.state = .unhomed || c.state = .parked
  | .parking => c.state = .unhomed || c.state = .parked || c.state = .parking
  | .runCheck | .run => c.state ≠ .parked && c.state ≠ .parking && (c.state ≠ .unhomed || !c.enabled)

/-- R184 to R188: the ignition is active exactly in RUN_CHECK and RUN, the self-check timer runs or has run out exactly in
RUN_CHECK, a RUN_CHECK or a PARKING whose condition holds has already been left, and every channel is in a state that the
power state allows. -/
def State.cycleSound (s : State) : Bool :=
  s.pwc.ignition = inCycle s && ((s.pwc.state = .runCheck) = (s.pwc.selfCheck ≠ .stopped)) &&
    !(s.pwc.state = .runCheck && s.pwc.selfCheck = .runOut && checkComplete s.ge) &&
    !(s.pwc.state = .parking && parkingComplete s.ge) && (s.ge.channels.all (stateAllowed s.pwc.state)) &&
    s.pwc.ignition = (s.inputs.get 0).active && (s.ge.channels.all fun c => c.enabled || c.state = .unhomed) &&
    (List.finRange 12).all fun i => ((s.inputs.get i).function = .ignition) = (i = 0)

/-- R171, R173: a port's timer runs exactly while its source is LIVE outside STANDBY. -/
def State.timersSound (s : State) : Bool :=
  (s.portD.timer.isSome = (s.portD.live && s.pwc.state ≠ .standby)) &&
    (s.portS.timer.isSome = (s.portS.live && s.pwc.state ≠ .standby)) && (s.rlu.timer.isSome = s.rlu.live) &&
    (s.rlu.cadence.isSome = (s.pwc.state ≠ .standby)) && (s.rlu.waiting = [] || s.rlu.sending.isSome) &&
    5 ≤ s.portD.period && s.portD.period ≤ 200 && 5 ≤ s.portS.period && s.portS.period ≤ 100

/-! ### Resets (R190) -/

/-- R190: while the part is held in reset every block but the Calendar Clock stands at its reset values, with no frame under
way at a port. -/
def State.heldSound (s : State) : Bool :=
  isOut s ||
    (s.ge = .reset && s.lamps = .ofFn Lamp.reset && s.lmd = .reset && s.cu = .reset && s.rlu = .reset && s.aau = .reset &&
      s.inputs = .ofFn InputRecord.reset && s.portD = .reset .d && s.portS = .reset .s && !s.window &&
      s.pwc = .reset s.pwc.causes && (!s.rst.causes.powerOn || s.cc = .reset) && s.pins = s.pins.cutOff)

end Sys2Proof.Machine
end

