-- ==== Sys2Proof/Certificates/Slice0/Obligations.lean ====
section
/-! DEFINITION. The statements about the HC440 for the provers. -/

open Sys2Proof Sys2Proof.Machine

/-! ### The step and the wire -/

/-- The command at the front of the queue is run by exec, with the queue's rest in the queue. -/
def Obligations.StepRunsFrontCommand : Prop :=
  ∀ (c : Instr) (rest : List Instr) (s : State), step (s.setPending (c :: rest)) = exec c (s.setPending rest)

/-- On an empty queue a millisecond passes (the model's choice, log 2). Out of reset: the timers of supervision (ports and
link), status cadence, lamp test hold, chime gap, bases and self-check, the filter, motion, play, tone, prescaler (log 8),
recovery, transmitter (log 15) and character gap times each move on by a millisecond; the event of each stands in the queue
exactly when its time is up (the row slot in progress always ends, and the sixth ends the scan frame), and the inputs and the
battery are measured. In a reset the hold moves on, and, where no power-on cause has made the reset, the crystal and a
recovery exactly as out of it; in a power-on reset the clock stands. The timer commands queued are those found due (log 3). -/
def Obligations.MillisecondCountsTimersDown : Prop :=
  let clockMoves := fun s t : State =>
    (s.cc.running = true →
      let cycles := s.cc.crystalPhase + 4096
      t.cc = { s.cc with prescaler := min 32768 (s.cc.prescaler + cycles / 125), crystalPhase := cycles % 125 }) ∧
    (s.cc.running = false →
      (∀ n, s.cc.monitor = .recovering n → t.cc = { s.cc with monitor := .recovering (min 100 (n + 1)) }) ∧
      ((∀ n, s.cc.monitor ≠ .recovering n) → t.cc = s.cc)) ∧
    (.secondAdvance ∈ t.pending ↔ t.cc.running = true ∧ 32768 ≤ t.cc.prescaler) ∧
    (.oscillatorRecovery ∈ t.pending ↔ ∃ n, 100 ≤ n ∧ t.cc.monitor = .recovering n)
  (∀ s : State, isOut s = true → s.pending = [] → ∃ t, step s = .next t ∧
    (∀ p, (t.port p).timer = (s.port p).timer.map (· - 1) ∧
      (.supervisionTimerExpiry p ∈ t.pending ↔ (t.port p).timer = some 0)) ∧
    (t.rlu.timer = s.rlu.timer.map (· - 1) ∧ (.linkSupervisionExpiry ∈ t.pending ↔ t.rlu.timer = some 0)) ∧
    (t.rlu.cadence = s.rlu.cadence.map (· - 1) ∧ (.statusCadence ∈ t.pending ↔ t.rlu.cadence = some 0)) ∧
    (t.rlu.gapTime = (if s.rlu.assembly = .hunt then 0 else min 5 (s.rlu.gapTime + 1)) ∧
      (.gapTimeout ∈ t.pending ↔ s.rlu.assembly ≠ .hunt ∧ t.rlu.gapTime = 5 ∧
        s.rlu.receiver.underWay = false)) ∧
    (t.rlu.sending = s.rlu.sending.map (fun f => { f with left := f.left - 384 }) ∧
      (.transmitComplete ∈ t.pending ↔ ∃ f ∈ t.rlu.sending, f.left = 0)) ∧
    (t.lmd.hold.internalTimer = s.lmd.hold.internalTimer.map (· - 1) ∧
      (.internalTimerExpiry ∈ t.pending ↔ t.lmd.hold.internalTimer = some 0)) ∧
    (t.lmd.hold.portSTimer = s.lmd.hold.portSTimer.map (· - 1) ∧
      (.portSTimerExpiry ∈ t.pending ↔ t.lmd.hold.portSTimer = some 0)) ∧
    (t.cu.gap = s.cu.gap.map (· - 1) ∧ (.gapEnd ∈ t.pending ↔ t.cu.gap = some 0)) ∧
    (t.cu.playing = s.cu.playing.map (fun q => { q with elapsed := min q.chime.sound.length (q.elapsed + 1) }) ∧
      (.chimeEnd ∈ t.pending ↔ ∃ q ∈ t.cu.playing, q.elapsed = q.chime.sound.length)) ∧
    t.cu.tone = s.cu.tone.map (fun n => (n + 1) % 1000) ∧
    (t.aau.one.basisTimer = s.aau.one.basisTimer.map (· - 1) ∧
      (.basisTimerExpiry .one ∈ t.pending ↔ t.aau.one.basisTimer = some 0)) ∧
    (t.aau.two.basisTimer = s.aau.two.basisTimer.map (· - 1) ∧
      (.basisTimerExpiry .two ∈ t.pending ↔ t.aau.two.basisTimer = some 0)) ∧
    ((∀ n, s.pwc.selfCheck = .running n → t.pwc.selfCheck = .running (n - 1)) ∧
      ((∀ n, s.pwc.selfCheck ≠ .running n) → t.pwc.selfCheck = s.pwc.selfCheck) ∧
      (.selfCheckTimerExpiry ∈ t.pending ↔ t.pwc.selfCheck = .running 0)) ∧
    (t.ge.filterTime = min 20 (s.ge.filterTime + 1) ∧ (.filterUpdate ∈ t.pending ↔ t.ge.filterTime = 20)) ∧
    (t.ge.motionTime = min 2 (s.ge.motionTime + 1) ∧ (.motionInterval ∈ t.pending ↔ t.ge.motionTime = 2)) ∧
    clockMoves s t ∧
    (s.lmd.slot < 6 → ∃ draws, .rowSlotEnd draws ∈ t.pending) ∧ (.scanFrameStart ∈ t.pending ↔ 5 ≤ s.lmd.slot) ∧
    .inputSample s.pins.inputs ∈ t.pending ∧ .vbsMeasurement s.pins.battery ∈ t.pending ∧
    (∀ c, c ∈ t.due ↔ c ∈ t.pending ∧ c ≠ .inputSample s.pins.inputs ∧ c ≠ .vbsMeasurement s.pins.battery ∧
      ∀ draws, c ≠ .rowSlotEnd draws) ∧
    t.ge.channels = s.ge.channels ∧ t.lmd = { s.lmd with hold := t.lmd.hold } ∧
    t.rlu.assembly = s.rlu.assembly ∧ t.rlu.receiver = s.rlu.receiver ∧
    (∀ p, (t.port p).live = (s.port p).live ∧ (t.port p).period = (s.port p).period ∧ (t.port p).fresh = (s.port p).fresh) ∧
    OnlyChanges [.gauges, .matrix, .chimes, .clock, .recorder, .drivers, .ports, .power, .due, .queue] s t) ∧
  ∀ s : State, isOut s = false → s.pending = [] → ∃ t, step s = .next t ∧
    (∀ n, s.rst.progress = .hold n → t.rst = { s.rst with progress := .hold (n - 1) }) ∧
    (s.rst.progress = .cause → t.rst = s.rst) ∧ (.resetHoldEnd ∈ t.pending ↔ t.rst.progress = .hold 0) ∧
    (s.rst.causes.powerOn = true → t.cc = s.cc ∧ .secondAdvance ∉ t.pending ∧ .oscillatorRecovery ∉ t.pending) ∧
    (s.rst.causes.powerOn = false → clockMoves s t) ∧ (∀ c, c ∈ t.due ↔ c ∈ t.pending) ∧
    OnlyChanges [.clock, .reset, .due, .queue] s t

/-! ### Ports and events (chapter 10) -/

/-- R170 to R173, by NOP, which does nothing more: a taken frame shifts the pending response out, clears fresh, returns a
SILENT source to LIVE with SOURCE_RESTORED and the loss contributions formed again, and restarts supervision outside STANDBY.
The status byte shifted out is the one formed at the falling edge of the frame (R169); for a frame whose falling edge the
leads were not told it is formed just before the frame is taken (the model's choice, log 6). -/
def Obligations.TakenFrameReturnsAndRestarts : Prop :=
  ∀ (p : Port) (s : State), isOut s = true → ∃ t, exec (.nop p) s = .next t ∧
    OnlyChanges [.lamps, .chimes, .events, .ports, .responses, .spi] s t ∧
    (t.port p).live = true ∧ (t.port p).fresh = false ∧ (t.port p).period = (s.port p).period ∧
    (t.port p).timer = (if s.pwc.state = .standby then (s.port p).timer else some (10 * (s.port p).period)) ∧
    (t.port p).response = { command := 0x00, result := .ok, data := .fill 0 } ∧
    (let told := (s.spi p).ended.head?
      let status := (told.map FrameEnd.status).getD (statusByte s p)
      t.spi p = { s.spi p with
        ended := (s.spi p).ended.tail
        offered := sealFrame ([status, (s.port p).response.command, (s.port p).response.result.code] ++
          (s.port p).response.data.val)
        clocked := some ((told.map FrameEnd.bits).getD 192) }) ∧ (∀ q, q ≠ p → t.spi q = s.spi q) ∧
    ((s.port p).live = true → t.lamps = s.lamps ∧ t.cu = s.cu ∧ (t.port p).events = (s.port p).events ∧
      ∀ q, q ≠ p → t.port q = s.port q) ∧
    ((s.port p).live = false → Posted .sourceRestored (portSource p).code s t ∧
      (∀ i, (t.lamps.get i).loss = lossNow t (t.lamps.get i) ∧ (t.lamps.get i).writtenD = (s.lamps.get i).writtenD ∧
        (t.lamps.get i).writtenS = (s.lamps.get i).writtenS ∧ (t.lamps.get i).recorder = (s.lamps.get i).recorder) ∧
      (∀ k : EventKind, k ≠ .sourceRestored → k ≠ .chimeDropped → NotPosted k s t) ∧
      ∀ q, q ≠ p → (t.port q).live = (s.port q).live ∧ (t.port q).timer = (s.port q).timer ∧
        (t.port q).response = (s.port q).response)

/-- R167, R168, R170: a taken frame with an unknown code is refused UNKNOWN_COMMAND; a frame that is not taken changes nothing
but the bytes shifted out, with the bits it clocked, and the pending response. Its status byte is the one formed at its
falling edge; for a frame that the leads do not tell of it is formed just before its end (the model's choice, log 6), and its
bits are not known (log 33). -/
def Obligations.UnknownAndDamagedFramesRefused : Prop :=
  (∀ (p : Port) (code : Byte) (s : State), isOut s = true → Refuses (.unknownCommand p code) p code .unknownCommand s) ∧
  ∀ (p : Port) (s : State), isOut s = true →
    let told := (s.spi p).ended.head?
    let status := (told.map FrameEnd.status).getD (statusByte s p)
    exec (.badFrame p) s = .next
      ((s.setSpi p { s.spi p with
        ended := (s.spi p).ended.tail
        offered := sealFrame ([status, (s.port p).response.command, (s.port p).response.result.code] ++
          (s.port p).response.data.val)
        clocked := told.map FrameEnd.bits }).setPort p
          { s.port p with response := { command := 0, result := .badFrame, data := .fill 0 } })

/-- R177, R126, R165, 12.3: READ_STATUS answers the identity, the revision, the reset-cause record, the power state, the flags
and the count of kinds pending; CLEAR_RESET_CAUSE empties the record; READ_VEHICLE answers the link state, the vehicle record
with its held flags and the vehicle speed value; READ_INPUTS answers the raw, debounced and active levels of the twelve
inputs. -/
def Obligations.StatusVehicleAndInputsRead : Prop :=
  ∀ (p : Port) (s : State), isOut s = true →
    let b := beginFrame p s
    let v := s.rlu.vehicle
    let gauge := (s.ge.channels.get 0).active.bind (s.ge.channels.get 0).value
    let level : NoticeLevel → Byte := fun l => match l with | .none => 0 | .warning => 1 | .fault => 2
    let word := fun f : InputRecord → Bool =>
      let bit := fun n : Fin 12 => f (s.inputs.get n)
      [flagByte [bit 8, bit 9, bit 10, bit 11],
        flagByte [bit 0, bit 1, bit 2, bit 3, bit 4, bit 5, bit 6, bit 7]]
    Answers (.readStatus p) p 0x01 .ok
      [0x04, 0x40, 0x01, flagByte [s.pwc.causes.powerOn, s.pwc.causes.pin, s.pwc.causes.command], byteOf s.pwc.state.code,
        flagByte [s.pwc.supplyLow, s.window, b.portD.live, b.portS.live, s.rlu.live],
        byteOf (kindsPending (b.port p).events)] s b ∧
    Answers (.clearResetCause p) p 0x02 .ok [0] s
      (b.setPwc { s.pwc with causes := { powerOn := false, pin := false, command := false } }) ∧
    Answers (.readVehicle p) p 0x40 .ok
      ([flagByte [s.rlu.live, v.overspeed, v.motion, gauge.isSome],
          flagByte [v.heldSpeed, v.heldSpeed, v.heldSpeed, v.heldDistance, v.heldDistance, v.heldNotice, v.heldNotice]] ++
        word16 v.speed ++ word32 v.odometer ++ word32 v.trip ++ [level v.noticeLevel, v.noticeCode] ++
        word16 (gauge.getD 0)) s b ∧
    Answers (.readInputs p) p 0x61 .ok (word (·.raw) ++ word (·.debounced) ++ word (·.active)) s b

/-- R182: a fetch picks, among the pending kinds of the port's own table, the highest level and then the lowest number,
answers it and removes it; with none pending it answers FFh and changes nothing. -/
def Obligations.FetchTakesMostUrgentKind : Prop :=
  ∀ (p : Port) (s : State), isOut s = true →
    let b := beginFrame p s
    let e := (b.port p).events
    ((∀ k, (e.get k).count = 0) → Answers (.fetchEvent p) p 0x03 .ok [0xFF, 0, 0, 0] s b) ∧
    ∀ k : Fin 26, (e.get k).count ≠ 0 →
      (∀ j, (e.get j).count ≠ 0 →
        (e.get j).level < (e.get k).level ∨ ((e.get j).level = (e.get k).level ∧ k ≤ j)) →
      let after := e.set k { level := (e.get k).level, count := 0, argument := 0 }
      Answers (.fetchEvent p) p 0x03 .ok
        [byteOf k.val, byteOf (e.get k).count, byteOf (e.get k).argument, byteOf (kindsPending after)] s
        (b.setPort p { b.port p with events := after })

/-- R181: SET_EVENT_LEVEL: its two checks, and its effect on the record of the sending port alone. That the data bytes of a
refused response are 0 is the model's choice (log 7). -/
def Obligations.EventLevelSet : Prop :=
  ∀ (p : Port) (kind level : Byte) (s : State), isOut s = true →
    let b := beginFrame p s
    let fixed := p = .s ∧ (kind = 0 ∨ kind = 1 ∨ kind = 3 ∨ kind = 17 ∨ kind = 25)
    (25 < kind.toNat ∨ 3 < level.toNat → Refuses (.setEventLevel p kind level) p 0x04 .range s) ∧
    (kind.toNat ≤ 25 → level.toNat ≤ 3 → fixed → Refuses (.setEventLevel p kind level) p 0x04 .notPermitted s) ∧
    (level.toNat ≤ 3 → ¬fixed → ∀ k : Fin 26, kind.toNat = k.val →
      let old := (b.port p).events.get k
      let new : EventRecord :=
        if level = 0 then { level := 0, count := 0, argument := 0 } else { old with level := level.toNat }
      Answers (.setEventLevel p kind level) p 0x04 .ok [kind, level, if new.count = 0 then 0 else 1, byteOf new.count] s
        (b.setPort p { b.port p with events := (b.port p).events.set k new }))

/-- R175, R176: OPEN_CONFIG and CLOSE_CONFIG: the port, the vehicle speed that keeps the window shut, and the pending curves
that a closing discards. R174, R72, R73, R111, R103: the five commands that set one quantity of the part: the port that may
send each, the window where it needs one, the clamped value in force and answered, and nothing else changed. That the data
bytes of a refused response are 0 is the model's choice (log 7). -/
def Obligations.WindowAndSettings : Prop :=
  ∀ (p : Port) (v w : Byte) (s : State), isOut s = true →
    let d := beginFrame .d s
    let b := beginFrame .s s
    let newD := max 5 (min v.toNat 200)
    let newS := max 5 (min w.toNat 100)
    let floor := if v.toNat < 4 then 4 else if 16 < v.toNat then 16 else v.toNat
    let q : Int := if v.toInt < -48 then -48 else if 56 < v.toInt then 56 else v.toInt
    let k := ([.none, .second, .minute, .hour, .day] : List TickPeriod).getD v.toNat .none
    (Refuses (.openConfig .d) .d 0x05 .notPermitted s ∧ Refuses (.closeConfig .d) .d 0x06 .notPermitted s ∧
      (∀ x, vehicleSpeed s = some x → 100 ≤ x → Refuses (.openConfig .s) .s 0x05 .notNow s) ∧
      (∀ x, vehicleSpeed s = some x → x < 100 →
        Answers (.openConfig .s) .s 0x05 .ok [1, 1, 0, byteOf x] s (b.setWindow true)) ∧
      (vehicleSpeed s = none → Answers (.openConfig .s) .s 0x05 .ok [1, 0, 0, 0] s (b.setWindow true)) ∧
      (s.window = false → Answers (.closeConfig .s) .s 0x06 .ok [0] s b) ∧
      (s.window = true → Answers (.closeConfig .s) .s 0x06 .ok [0] s
        ((b.setWindow false).setGe
          { s.ge with channels := s.ge.channels.map fun c => { c with pendingCurve := none } }))) ∧
    Refuses (.setSupervision .d v w) .d 0x07 .notPermitted s ∧
    (s.window = false → Refuses (.setSupervision .s v w) .s 0x07 .locked s) ∧
    (s.window = true → Answers (.setSupervision .s v w) .s 0x07 .ok [byteOf newD, byteOf newS] s
      ((b.setPort .d { b.portD with period := newD }).setPort .s { b.portS with period := newS })) ∧
    Refuses (.setDimming .s v) .s 0x22 .notPermitted s ∧
    Answers (.setDimming .d v) .d 0x22 .ok [byteOf (min 15 v.toNat)] s
      (d.setLmd { s.lmd with dimming := min 15 v.toNat }) ∧
    Refuses (.setSafetyFloor .d v) .d 0x24 .notPermitted s ∧
    (s.window = false → Refuses (.setSafetyFloor .s v) .s 0x24 .locked s) ∧
    (s.window = true → Answers (.setSafetyFloor .s v) .s 0x24 .ok [byteOf floor] s
      (b.setLmd { s.lmd with floorRequested := floor })) ∧
    Refuses (.setLocalOffset .s v) .s 0x52 .notPermitted s ∧
    Answers (.setLocalOffset .d v) .d 0x52 .ok [BitVec.ofInt 8 q] s (d.setCc { s.cc with localOffset := q }) ∧
    (4 < v.toNat → Refuses (.setTick p v) p 0x53 .range s) ∧
    (v.toNat ≤ 4 → Answers (.setTick p v) p 0x53 .ok [v] s ((beginFrame p s).setCc
      (match p with | .d => { s.cc with tickD := k } | .s => { s.cc with tickS := k })))

/-- R171, R173, R7, R11: a supervision timer that runs out (log 3 says when its command stands for that) makes its source
SILENT: SOURCE_SILENT, the port's values and written contributions gone, the NO_SIGNAL entry of each channel that it leaves
without a source (F, T and GAUGE_NO_SIGNAL), the loss contributions formed again, and for Port S the window closed. An expiry
found due whose timer a frame of the same moment restarted first lapses. -/
def Obligations.SupervisionExpirySilencesPort : Prop :=
  ∀ (p : Port) (s : State), isOut s = true →
    Lapses (.supervisionTimerExpiry p) ((s.port p).timer ≠ none) ((s.port p).timer = some 0) s ∧
    (Comes (.supervisionTimerExpiry p) ((s.port p).timer ≠ none) ((s.port p).timer = some 0) s → ∃ t,
    exec (.supervisionTimerExpiry p) s = .next t ∧ (t.port p).live = false ∧ (t.port p).timer = none ∧
    (t.port p).period = (s.port p).period ∧ (t.port p).response = (s.port p).response ∧
    (t.port p).fresh = (s.port p).fresh ∧ Posted .sourceSilent (portSource p).code s t ∧
    (∀ i, (t.ge.channels.get i).value (portSource p) = none ∧
      (∀ a, a ≠ portSource p → (t.ge.channels.get i).value a = (s.ge.channels.get i).value a) ∧
      (t.ge.channels.get i).active = (t.ge.channels.get i).select (sourceLive t) ∧
      (t.ge.channels.get i).position = (s.ge.channels.get i).position ∧
      (t.ge.channels.get i).state = (s.ge.channels.get i).state) ∧ SignalsLost s t ∧
    (∀ i, (p = .d → (t.lamps.get i).writtenD = none ∧ (t.lamps.get i).writtenS = (s.lamps.get i).writtenS) ∧
      (p = .s → (t.lamps.get i).writtenS = none ∧ (t.lamps.get i).writtenD = (s.lamps.get i).writtenD) ∧
      (t.lamps.get i).loss = lossNow t (t.lamps.get i)) ∧
    (p = .s → t.window = false) ∧ (p = .d → t.window = true → s.window = true) ∧
    t.due = s.due.erase (.supervisionTimerExpiry p) ∧
    OnlyChanges [.gauges, .lamps, .chimes, .events, .ports, .window, .due] s t)

/-! ### Resets (chapter 11) -/

/-- R190, R191, R97: each cause of a reset holds every block at its reset values; the Calendar Clock keeps its time through a
pin or command reset and takes its reset values in a power-on reset. RESET_CAUSE_END, the end of the last cause, starts the
hold of 20 ms. That it changes nothing while a lead still holds a cause (log 22) or no cause lasts (log 3) is the model's
choice. -/
def Obligations.CausesHoldThePartInReset : Prop :=
  (∀ s : State, ∃ t, exec .powerOnReset s = .next t ∧ t.rst.progress = .cause ∧ t.heldSound = true ∧ t.cc = .reset ∧
    t.rst.latest = .powerOn ∧ t.pwc.causes = { powerOn := true, pin := false, command := false }) ∧
  (∀ s : State, (isOut s = true ∨ s.rst.causes.powerOn = false) → ∃ t, exec .pinReset s = .next t ∧
    t.rst.progress = .cause ∧ t.heldSound = true ∧ t.rst.latest = .pin ∧
    t.pwc.causes = { s.pwc.causes with
      pin := true, command := s.pwc.causes.command || (!isOut s && s.rst.causes.command) } ∧
    t.cc = { s.cc with localOffset := 0, tickD := .none, tickS := .none }) ∧
  (∀ s : State, isOut s = false → s.rst.causes.powerOn = true → ∃ t, exec .pinReset s = .next t ∧
    t.rst.progress = .cause ∧ t.heldSound = true ∧ t.cc = .reset ∧
    t.pwc.causes = { powerOn := true, pin := false, command := false }) ∧
  (∀ s : State, isOut s = true → ∃ t, exec (.resetPart .s) s = .next t ∧ t.rst.progress = .hold 20 ∧ t.heldSound = true ∧
    t.rst.latest = .command ∧ t.pwc.causes = { s.pwc.causes with command := true } ∧
    t.cc = { s.cc with localOffset := 0, tickD := .none, tickS := .none }) ∧
  (∀ s : State, isOut s = true → Refuses (.resetPart .d) .d 0x08 .notPermitted s) ∧
  ∀ s : State,
    (s.rst.progress = .cause → s.pins.vdd5Low = false → s.pins.rstLow = false →
      exec .resetCauseEnd s = .next (s.setRst { s.rst with progress := .hold 20 })) ∧
    (s.rst.progress ≠ .cause ∨ s.pins.vdd5Low = true ∨ s.pins.rstLow = true → exec .resetCauseEnd s = .next s)

/-- R179, R191, R192: at the end of the hold (log 3 says when its command stands for that) RESET_REPORT becomes pending in
both tables with the cause as argument, the STANDBY frame falls due, and nothing else changes; the clock faults found in the
reset are posted (R107; once each, the model's choice, log 23). State.reset is where a power-on reset comes out (the model's
choice, log 1). -/
def Obligations.HoldEndBringsThePartOut : Prop :=
  exec .resetHoldEnd State.powerOnHeld = .next State.reset ∧
  ∀ s : State, Lapses .resetHoldEnd (∃ n, s.rst.progress = .hold n) (s.rst.progress = .hold 0) s ∧
    (Comes .resetHoldEnd (∃ n, s.rst.progress = .hold n) (s.rst.progress = .hold 0) s → ∃ t,
      exec .resetHoldEnd s = .next t ∧ isOut t = true ∧
      Posted .resetReport (if s.rst.causes.powerOn then 0 else s.rst.latest.code) s t ∧
      (∀ p, (t.port p).events.get EventKind.clockFault.number =
        let r := (s.port p).events.get EventKind.clockFault.number
        if r.level = 0 ∨ s.rst.clockFaults = 0 then r
        else { r with count := if r.count + s.rst.clockFaults ≤ 255 then r.count + s.rst.clockFaults else 255
                      argument := 0 }) ∧
      (∀ k : EventKind, k ≠ .resetReport → k ≠ .clockFault → NotPosted k s t) ∧
      FrameDue .standby s t ∧ { t.rlu with sending := s.rlu.sending, waiting := s.rlu.waiting } = s.rlu ∧
      t.rst = { s.rst with progress := .out, clockFaults := 0 } ∧ t.due = s.due.erase .resetHoldEnd ∧
      OnlyChanges [.recorder, .events, .reset, .due] s t)

/-! ### Gauge channels (chapter 1) -/

/-- R19, R6, R9, R10, R12, R14, R15: SET_VALUE: its three checks; the value stored for the sending port, the selection made
again, GAUGE_SIGNAL_RESTORED with the fault lamp's contribution where the channel gains a signal, and nothing else of the
channels changed but the pending curves that a closing window discards. That the data bytes of a refused response are 0 is the
model's choice (log 7). -/
def Obligations.SetValueStoresAndSelects : Prop :=
  ∀ (p : Port) (ch : Byte) (v : BitVec 16) (s : State), isOut s = true →
    (7 < ch.toNat → Refuses (.setValue p ch v) p 0x10 .range s) ∧
    ∀ i : Fin 8, ch.toNat = i.val →
      let c := s.ge.channels.get i
      (c.enabled = false → Refuses (.setValue p ch v) p 0x10 .notPermitted s) ∧
      (c.enabled = true → c.primary ≠ portSource p → c.fallback ≠ some (portSource p) →
        Refuses (.setValue p ch v) p 0x10 .notSource s) ∧
      (c.enabled = true → (c.primary = portSource p ∨ c.fallback = some (portSource p)) → ∃ t,
        let b := beginFrame p s
        let a := t.ge.channels.get i
        let closes := s.window = true ∧ vehicleSpeed t ≠ vehicleSpeed s ∧ 100 ≤ (vehicleSpeed t).getD 0
        Answers (.setValue p ch v) p 0x10 .ok
          [ch, if a.active = some (portSource p) then 1 else 0, 1, byteOf c.state.code] s t ∧
        a.value (portSource p) = some v.toNat ∧ (∀ q, q ≠ portSource p → a.value q = c.value q) ∧
        a.active = (if sourceLive b c.primary = true ∧ a.value c.primary ≠ none then some c.primary else c.fallback) ∧
        { a with valueD := c.valueD, valueS := c.valueS, valueR := c.valueR, active := c.active,
                 pendingCurve := c.pendingCurve } = c ∧
        (∀ j, j ≠ i → { t.ge.channels.get j with pendingCurve := (s.ge.channels.get j).pendingCurve } =
          s.ge.channels.get j) ∧
        (∀ j, (t.ge.channels.get j).pendingCurve = if closes then none else (s.ge.channels.get j).pendingCurve) ∧
        (t.window = true ↔ s.window = true ∧ ¬closes) ∧
        (c.active = none → Posted .gaugeSignalRestored i.val b t ∧
          (t.lamps.get c.faultLamp).gauge = gaugeContribution t.ge s.pwc.state c.faultLamp) ∧
        (c.active ≠ none → NotPosted .gaugeSignalRestored b t ∧
          (t.lamps.get c.faultLamp).gauge = (b.lamps.get c.faultLamp).gauge) ∧
        (∀ n, n ≠ c.faultLamp → (t.lamps.get n).stored = (b.lamps.get n).stored) ∧
        { (t.lamps.get c.faultLamp).stored with gauge := none } = { (b.lamps.get c.faultLamp).stored with gauge := none } ∧
        (∀ k : EventKind, k ≠ .gaugeSignalRestored → k ≠ .chimeDropped → NotPosted k b t) ∧
        OnlyChanges [.gauges, .lamps, .chimes, .events, .window] b t)

/-- R20, 12.3: READ_CHANNEL answers the record of the channel, or five or four points of its curve in force, and changes
nothing. That the data bytes of a refused response are 0 is the model's choice (log 7). -/
def Obligations.ChannelReadAnswered : Prop :=
  ∀ (p : Port) (ch part : Byte) (s : State), isOut s = true →
    (7 < ch.toNat ∨ 2 < part.toNat → Refuses (.readChannel p ch part) p 0x11 .range s) ∧
    ∀ i : Fin 8, ch.toNat = i.val →
      let c := s.ge.channels.get i
      let point := fun k : Nat =>
        word16 ((c.curve[k]?.map Point.x).getD 0) ++ word16 ((c.curve[k]?.map Point.a).getD 0)
      (part = 0 → Answers (.readChannel p ch part) p 0x11 .ok
        ([flagByte [c.enabled, c.sweepTest, c.active.isSome, c.pendingCurve.isSome, c.direction = .down],
            byteOf c.state.code] ++ word16 c.sweepLimit ++
          [byteOf c.vmax, byteOf c.filterShift,
            byteOf (16 * c.primary.code + match c.fallback with | some f => f.code | none => 15), byteOf c.faultLamp.val,
            byteOf (match c.active with | some a => a.code | none => 255)] ++
          word16 ((c.active.bind c.value).getD 0) ++ word16 ((c.filter + 128) / 256) ++ word16 c.target ++
          word16 c.position ++ [byteOf c.speed, byteOf c.curve.length, ch]) s (beginFrame p s)) ∧
      (part = 1 → Answers (.readChannel p ch part) p 0x11 .ok (((List.range 5).map point).flatten) s (beginFrame p s)) ∧
      (part = 2 → (c.curve.length ≤ 9 → Answers (.readChannel p ch part) p 0x11 .ok
        (((List.range 4).map fun k => point (5 + k)).flatten) s (beginFrame p s)))

/-- R23, R24, R5: LOAD_CURVE in its two parts: the checks in order, the pending curve, and a complete curve that becomes the
curve in force exactly when it passes its check; every other channel stands. -/
def Obligations.CurvesLoadInParts : Prop :=
  (∀ (p : Port) (ch part : BitVec 4) (n : Byte) (pts : Tab PointArg 5) (s : State), isOut s = true →
    let cmd : Instr := .loadCurvePart0 p ch part n pts
    let b := beginFrame p s
    let given := (pts.val.take n.toNat).map fun q => Point.mk q.x.toNat q.a.toNat
    let load := fun (i : Fin 8) (c : Channel) => b.setGe { s.ge with channels := s.ge.channels.set i c }
    (p = .d → Refuses cmd p 0x13 .notPermitted s) ∧
    (p = .s → s.window = false → Refuses cmd p 0x13 .locked s) ∧
    (p = .s → s.window = true → 7 < ch.toNat ∨ 1 < part.toNat → Refuses cmd p 0x13 .range s) ∧
    (p = .s → s.window = true → part = 0 → ∀ i : Fin 8, ch.toNat = i.val →
      let c := s.ge.channels.get i
      (n.toNat < 2 ∨ 9 < n.toNat → Refuses cmd p 0x13 .badCurve s) ∧
      (2 ≤ n.toNat → n.toNat ≤ 5 → CurveLegal c.sweepLimit given →
        Answers cmd p 0x13 .ok [] s (load i { c with curve := given, pendingCurve := none })) ∧
      (2 ≤ n.toNat → n.toNat ≤ 5 → ¬CurveLegal c.sweepLimit given →
        Answers cmd p 0x13 .badCurve [] s (load i { c with pendingCurve := none })) ∧
      (6 ≤ n.toNat → n.toNat ≤ 9 →
        Answers cmd p 0x13 .ok [] s (load i { c with pendingCurve := some ⟨n.toNat, given⟩ })))) ∧
  ∀ (p : Port) (ch : BitVec 4) (pts : Tab PointArg 4) (s : State), isOut s = true →
    let cmd : Instr := .loadCurvePart1 p ch pts
    let b := beginFrame p s
    let load := fun (i : Fin 8) (c : Channel) => b.setGe { s.ge with channels := s.ge.channels.set i c }
    (p = .d → Refuses cmd p 0x13 .notPermitted s) ∧
    (p = .s → s.window = false → Refuses cmd p 0x13 .locked s) ∧
    (p = .s → s.window = true → 7 < ch.toNat → Refuses cmd p 0x13 .range s) ∧
    (p = .s → s.window = true → ∀ i : Fin 8, ch.toNat = i.val →
      let c := s.ge.channels.get i
      match c.pendingCurve with
      | none => Refuses cmd p 0x13 .notNow s
      | some q =>
        let whole := q.points ++ (pts.val.take (q.n - 5)).map fun q => Point.mk q.x.toNat q.a.toNat
        (CurveLegal c.sweepLimit whole →
          Answers cmd p 0x13 .ok [] s (load i { c with curve := whole, pendingCurve := none })) ∧
        (¬CurveLegal c.sweepLimit whole →
          Answers cmd p 0x13 .badCurve [] s (load i { c with pendingCurve := none })))

/-- R21: the checks of SET_CHANNEL in their order, and the clamped configuration of a request that passes them. -/
def Obligations.ChannelRequestChecked : Prop :=
  ∀ (p : Port) (args : ChannelArgs) (s : State), isOut s = true →
    let cmd : Instr := .setChannel p args
    let limit := max 60 (min args.sweepLimit.toNat 3780)
    let listed := (args.sourceCount = 1 ∧ args.first.toNat ≤ 2) ∨
      (args.sourceCount = 2 ∧ args.first.toNat ≤ 2 ∧ args.second.toNat ≤ 2 ∧ args.first ≠ args.second)
    (p = .d → Refuses cmd p 0x12 .notPermitted s) ∧
    (p = .s → s.window = false → Refuses cmd p 0x12 .locked s) ∧
    (p = .s → s.window = true → 7 < args.channel.toNat ∨ 47 < args.faultLamp.toNat ∨ ¬listed →
      Refuses cmd p 0x12 .range s) ∧
    (p = .s → s.window = true → args.faultLamp.toNat ≤ 47 → listed → ∀ i : Fin 8, args.channel.toNat = i.val →
      let c := s.ge.channels.get i
      let early := args.enabled = true ∧ c.state ≠ .unhomed ∧ c.state ≠ .parked
      let low := ∃ q ∈ c.curve, limit < q.a
      (early → Refuses cmd p 0x12 .notNow s) ∧ (¬early → low → Refuses cmd p 0x12 .badCurve s) ∧
      (¬early → ¬low → ∃ t, let a := t.ge.channels.get i
        Answers cmd p 0x12 .ok [] s t ∧ a.enabled = args.enabled ∧ a.sweepLimit = limit ∧
        a.vmax = max 1 (min args.vmax.toNat 12) ∧ a.filterShift = min args.filterShift.toNat 7 ∧
        a.primary.code = args.first.toNat ∧
        a.fallback.map Source.code = (if args.sourceCount = 2 then some args.second.toNat else none) ∧
        a.faultLamp.val = args.faultLamp.toNat ∧ a.sweepTest = args.sweepTest ∧ a.curve = c.curve))

/-- R22, R44, R34, R40: what an accepted SET_CHANNEL does to the running state, by how it changes enabled; the gauge
contributions of both fault lamps; and a check or parking that a disabled channel completes. -/
def Obligations.ChannelRequestActs : Prop :=
  ∀ (args : ChannelArgs) (i : Fin 8) (s : State), isOut s = true → s.window = true → s.gaugesSound = true →
    args.channel.toNat = i.val → args.faultLamp.toNat ≤ 47 →
    (args.sourceCount = 1 ∧ args.first.toNat ≤ 2) ∨
      (args.sourceCount = 2 ∧ args.first.toNat ≤ 2 ∧ args.second.toNat ≤ 2 ∧ args.first ≠ args.second) →
    let c := s.ge.channels.get i
    (args.enabled = true → c.state = .unhomed ∨ c.state = .parked) →
    (∀ q ∈ c.curve, q.a ≤ max 60 (min args.sweepLimit.toNat 3780)) → ∃ t,
      let b := beginFrame .s s
      let a := t.ge.channels.get i
      Answers (.setChannel .s args) .s 0x12 .ok [] s t ∧
      (args.enabled = false → a.valueD = none ∧ a.valueS = none ∧ a.valueR = none ∧ a.active = none ∧ a.filter = 0 ∧
        a.target = 0 ∧ a.position = 0 ∧ a.speed = 0 ∧ a.overdrive = 0 ∧ a.direction = .up ∧ a.state = .unhomed ∧
        NotPosted .gaugeNoSignal b t ∧ NotPosted .gaugeSignalRestored b t ∧ NotPosted .homingDone b t) ∧
      (args.enabled = true → c.enabled = false → a.valueD = none ∧ a.valueS = none ∧ a.valueR = none ∧ a.active = none ∧
        NotPosted .gaugeNoSignal b t ∧ NotPosted .gaugeSignalRestored b t ∧
        (if inCycle s then
          a.state = .homing ∧ a.position = 0 ∧ a.speed = 0 ∧ a.target = 0 ∧ a.direction = .down ∧
            a.overdrive = a.sweepLimit + 120
        else a.state = .unhomed)) ∧
      (args.enabled = false ∨ c.enabled = false ∧ inCycle s = true → ∀ micros, coilDuring t i micros = coilLead t i) ∧
      (args.enabled = true → c.enabled = true → a.active = a.select (sourceLive b) ∧
        (∀ q, a.value q = if a.primary = q ∨ a.fallback = some q then c.value q else none) ∧
        a.state = c.state ∧ a.position = c.position ∧ a.speed = c.speed ∧ a.target = c.target ∧
        a.overdrive = c.overdrive ∧ a.direction = c.direction ∧
        a.filter = (if c.active ≠ none ∧ a.active = none then 0 else c.filter) ∧
        (if c.active ≠ none ∧ a.active = none then Posted .gaugeNoSignal i.val b t else NotPosted .gaugeNoSignal b t) ∧
        (if c.active = none ∧ a.active ≠ none then Posted .gaugeSignalRestored i.val b t
          else NotPosted .gaugeSignalRestored b t)) ∧
      (c.enabled ≠ args.enabled ∨ c.faultLamp ≠ a.faultLamp → ∀ n, (n = c.faultLamp ∨ n = a.faultLamp) →
        (t.lamps.get n).gauge = gaugeContribution t.ge t.pwc.state n) ∧
      (∀ j, j ≠ i → { t.ge.channels.get j with pendingCurve := (s.ge.channels.get j).pendingCurve } =
        s.ge.channels.get j) ∧
      t.pwc.state =
        (if s.pwc.state = .runCheck ∧ s.pwc.selfCheck = .runOut ∧ checkComplete t.ge = true then .run
        else if s.pwc.state = .parking ∧ parkingComplete t.ge = true then .standby else s.pwc.state) ∧
      t.lmd = s.lmd ∧ t.cc = s.cc ∧ t.aau = s.aau ∧ t.inputs = s.inputs ∧ t.rst = s.rst

/-- R16 to R18: a filter update moves F of every TRACKING channel with an active source by the truncated quotient, forms T
from the filtered value by the curve, and leaves every other channel as it is. Its command stands for an update that is due,
or that the sender gives (log 3). -/
def Obligations.FilterMovesTowardValue : Prop :=
  ∀ s : State, isOut s = true → Lapses .filterUpdate True (20 ≤ s.ge.filterTime) s ∧
    (Comes .filterUpdate True (20 ≤ s.ge.filterTime) s → ∃ t, exec .filterUpdate s = .next t ∧
    OnlyChanges [.gauges, .due] s t ∧ t.ge.filterTime = 0 ∧ t.ge.motionTime = s.ge.motionTime ∧
    ∀ i : Fin 8,
      let c := s.ge.channels.get i
      let a := t.ge.channels.get i
      let x := (c.active.bind c.value).getD 0
      (c.state ≠ .tracking ∨ c.active.bind c.value = none → a = c) ∧
      (c.state = .tracking → c.active.bind c.value ≠ none →
        { a with filter := c.filter, target := c.target } = c ∧
        (c.filter ≤ 256 * x → a.filter = c.filter + (256 * x - c.filter) / 2 ^ c.filterShift) ∧
        (256 * x < c.filter → a.filter = c.filter - (c.filter - 256 * x) / 2 ^ c.filterShift) ∧
        (CurveLegal c.sweepLimit c.curve →
          let v := (a.filter + 128) / 256
          a.target ≤ c.sweepLimit ∧ (∀ q ∈ c.curve.head?, v ≤ q.x → a.target = q.a) ∧
          (∀ q ∈ c.curve.getLast?, q.x ≤ v → a.target = q.a) ∧
          ∀ z ∈ c.curve.zip c.curve.tail, z.1.x ≤ v → v < z.2.x →
            NearestQuotient (((v : Int) - z.1.x) * ((z.2.a : Int) - z.1.a)) (z.2.x - z.1.x)
              ((a.target : Int) - z.1.a))))

/-! ### Pointer motion (chapter 2) -/

/-- R26 to R31: a motion interval (log 3) moves every pointer that sweeps, tracks or parks, and stands within its sweep limit,
by the first case of the motion law that applies: arrival, moving away, the first candidate speed that can stop within the
distance, or late braking; and its coils walk through the phase indices between, each held for an equal share of the 2 ms,
while those of a channel that has entered PARKED are released (that the interval runs from its command on is the model's
choice, log 21). -/
def Obligations.MotionLawMovesPointers : Prop :=
  ∀ s : State, isOut s = true → s.pwc.supplyLow = false → Lapses .motionInterval True (2 ≤ s.ge.motionTime) s ∧
    (Comes .motionInterval True (2 ≤ s.ge.motionTime) s → ∃ t, exec .motionInterval s = .next t ∧ t.ge.motionTime = 0 ∧
    ∀ i : Fin 8,
      let c := s.ge.channels.get i
      let a := t.ge.channels.get i
      let d : Int := (c.target : Int) - c.position
      let r := d.natAbs
      let arrived := d = 0 ∧ c.speed ≤ 1
      let away := 0 < c.speed ∧ ((c.direction = .up ∧ d < 0) ∨ (c.direction = .down ∧ 0 < d))
      let dir : Direction := if 0 < d then .up else if d < 0 then .down else c.direction
      let found := [min (c.speed + 1) c.vmax, c.speed, c.speed - 1].find? fun v => 1 ≤ v ∧ v * (v + 1) / 2 ≤ r
      let goes := fun m : Channel => a.position = m.position ∧ a.speed = m.speed ∧ a.direction = m.direction
      let walks := fun (n : Nat) (count : Nat → Nat) => ∀ micros, micros < 2000 →
        (n = 0 → coilDuring t i micros = .energized (count 0 % 48)) ∧
        ∀ j, j < n → 2000 * j ≤ micros * n → micros * n < 2000 * (j + 1) →
          coilDuring t i micros = .energized (count (j + 1) % 48)
      (c.state = .unhomed ∨ c.state = .parked → a = c ∧ ∀ micros, coilDuring t i micros = .released) ∧
      (c.state = .homing → 0 < c.overdrive → walks (min 4 c.overdrive) (c.overdrive - ·)) ∧
      (a.state = .parked → ∀ micros, coilDuring t i micros = .released) ∧
      (c.state = .tracking ∨ c.state = .sweepUp ∨ c.state = .sweepDown ∨ (c.state = .parking ∧ ¬arrived) →
        (c.position ≤ a.position → walks (a.position - c.position) (c.position + ·)) ∧
        (a.position < c.position → walks (c.position - a.position) (c.position - ·))) ∧
      (c.state = .tracking ∨ c.state = .sweepUp ∨ c.state = .sweepDown ∨ c.state = .parking → c.position ≤ c.sweepLimit →
        (arrived → goes { c with speed := 0 }) ∧
        (away → ¬arrived → goes (c.moved c.direction (c.speed - 1) (c.speed - 1))) ∧
        (¬arrived → ¬away → match found with
          | some v => goes (c.moved dir (min v r) v)
          | none => goes (c.moved dir (c.speed - 1) (c.speed - 1)))))

/-- R35 to R37, R39, R13: in a motion interval (log 3) homing runs its overdrive down by 4 an interval and ends in SWEEP_UP or
TRACKING with HOMING_DONE; an arrival ends SWEEP_UP, SWEEP_DOWN and PARKING, and no other channel changes state. -/
def Obligations.MotionIntervalChangesStates : Prop :=
  ∀ s : State, isOut s = true → s.pwc.supplyLow = false →
    Comes .motionInterval True (2 ≤ s.ge.motionTime) s → ∃ t, exec .motionInterval s = .next t ∧
    (∀ i : Fin 8,
      let c := s.ge.channels.get i
      let a := t.ge.channels.get i
      let tracks := a.state = .tracking ∧ a.target = if c.active = none then 0 else c.target
      let arrives := c.target = c.position ∧ c.speed ≤ 1
      { a with state := c.state, target := c.target, position := c.position, speed := c.speed, direction := c.direction,
               overdrive := c.overdrive, walk := c.walk } = c ∧
      (c.state = .homing → 4 < c.overdrive → a = { c with overdrive := c.overdrive - 4, walk := a.walk }) ∧
      (c.state = .homing → c.overdrive ≤ 4 → a.overdrive = 0 ∧ a.direction = .up ∧ a.position = c.position ∧
        a.speed = c.speed ∧
        if c.sweepTest then a.state = .sweepUp ∧ a.target = c.sweepLimit else tracks) ∧
      (c.state = .sweepUp → arrives → a.state = .sweepDown ∧ a.target = 0) ∧
      (c.state = .sweepDown → arrives → tracks) ∧ (c.state = .parking → arrives → a.state = .parked ∧ a.target = c.target) ∧
      (c.state ≠ .homing → c.state = .tracking ∨ ¬arrives → a.state = c.state ∧ a.target = c.target)) ∧
    ((∀ i : Fin 8, ¬((s.ge.channels.get i).state = .homing ∧ (s.ge.channels.get i).overdrive ≤ 4)) →
      NotPosted .homingDone s t) ∧
    (∀ i : Fin 8, (s.ge.channels.get i).state = .homing → (s.ge.channels.get i).overdrive ≤ 4 →
      (∀ j : Fin 8, j ≠ i → ¬((s.ge.channels.get j).state = .homing ∧ (s.ge.channels.get j).overdrive ≤ 4)) →
      Posted .homingDone i.val s t) ∧
    t.lmd = s.lmd ∧ t.cc = s.cc ∧ t.aau = s.aau ∧ t.inputs = s.inputs ∧ t.window = s.window ∧ t.rst = s.rst

/-! ### Telltale table (chapter 3) -/

/-- R57, R58, R51, R52: WRITE_LAMPS: its three checks; each counted pair stored in the sending port's contribution, a later
pair of one lamp over an earlier one, as one update of the table. That the data bytes of a refused response are 0 is the
model's choice (log 7). -/
def Obligations.LampWritesStored : Prop :=
  ∀ (p : Port) (count : Byte) (pairs : Tab LampPair 8) (s : State), isOut s = true →
    let cmd : Instr := .writeLamps p count pairs
    let given := pairs.val.take count.toNat
    let bad := 8 < count.toNat ∨ ∃ q ∈ given, 47 < q.lamp.toNat ∨ 4 < q.code.toNat
    let barred := p = .d ∧ ∃ q ∈ given, ∃ n : Fin 48, q.lamp.toNat = n.val ∧
      ((s.lamps.get n).cls = .safety ∨ ∃ i, (s.inputs.get i).function = .lamp ∧ (s.inputs.get i).target = n)
    (bad → Refuses cmd p 0x20 .range s) ∧ (¬bad → barred → Refuses cmd p 0x20 .notPermitted s) ∧
    (¬bad → ¬barred → ∃ t,
      let b := beginFrame p s
      Answers cmd p 0x20 .ok
        (count :: given.map fun q => if h : q.lamp.toNat < 48 then byteOf (t.lamps.get ⟨q.lamp.toNat, h⟩).resolved.rank else 0)
        s t ∧
      (∀ n : Fin 48,
        let old := b.lamps.get n
        (t.lamps.get n).stored =
          match (given.filter fun q => q.lamp.toNat = n.val).getLast? with
          | none => old.stored
          | some q =>
            let v := ([some .off, some .on, some .slow, some .fast, none] : List (Option LampState)).getD q.code.toNat none
            match p with
            | .d => { old.stored with writtenD := v }
            | .s => { old.stored with writtenS := v }) ∧
      LampsUpdated b t ∧ (∀ k : EventKind, k ≠ .chimeDropped → NotPosted k b t) ∧
      OnlyChanges [.lamps, .chimes, .events] b t)

/-- R63, R64, R90: in RUN every SAFETY lamp that an update of the lamp table brings from OFF to another state, whatever the
update changes, requests a TRIPLE chime of priority 3 for itself, several lamps of one update in some order (left open, log
4), and in the other power states none does; the standing tone follows L0. Each update of the table in the model is lampUpdate
with the change its rule makes: writes, inputs, losses, recorder, account, gauge and open faults with their substitution;
WRITE_LAMPS from Port S and an open fault at a row's end are stated as commands besides. -/
def Obligations.SafetyLampComingOnChimes : Prop :=
  let judged := fun s t : State =>
    let comesOn := fun n : Fin 48 => (t.lamps.get n).cls = .safety ∧ (s.lamps.get n).resolved = .off ∧
      (t.lamps.get n).resolved ≠ .off
    (s.pwc.state ≠ .run ∨ (∀ n, ¬comesOn n) → { t.cu with tone := s.cu.tone } = s.cu) ∧
    (s.pwc.state = .run → ∃ order : List (Fin 48), order.Nodup ∧ (∀ n, n ∈ order ↔ comesOn n) ∧
      { t.cu with tone := s.cu.tone } = order.foldl (fun u n => (u.request .triple 3 (.lamp n)).1) s.cu) ∧
    t.cu.tone = (if toneDue t then some (s.cu.tone.getD 0) else none) ∧
    (toneDue t = true ↔ (t.lamps.get 0).resolved ≠ .off ∧ 500 ≤ (vehicleSpeed t).getD 0 ∧ t.pwc.state = .run)
  (∀ (change : Fin 48 → Lamp → Lamp) (s : State), judged s (lampUpdate change s)) ∧
  (∀ (count : Byte) (pairs : Tab LampPair 8) (s : State), isOut s = true → count.toNat ≤ 8 →
    (∀ q ∈ pairs.val, q.lamp.toNat ≤ 47 ∧ q.code.toNat ≤ 4) → ∃ t, exec (.writeLamps .s count pairs) s = .next t ∧
      judged (beginFrame .s s) t) ∧
  ∀ (draws : Tab Bool 8) (n : Fin 48) (s : State), isOut s = true → s.lmd.slot = n.val / 8 → readLamps s.lmd = [n] →
    faultsChanged draws s.lmd = [n] → ∃ t, exec (.rowSlotEnd draws) s = .next t ∧ judged s t

/-- R59, R47, R54, R60, R61: SET_LAMP_CONFIG: its checks with the fixed classes of L0 to L5; the new class and loss states,
the written_D that a lamp made SAFETY loses, the loss contribution formed again, and both substitutions. That the data bytes
of a refused response are 0 is the model's choice (log 7). -/
def Obligations.LampConfigured : Prop :=
  ∀ (p : Port) (lamp cls d e r : Byte) (s : State), isOut s = true →
    let cmd : Instr := .setLampConfig p lamp cls d e r
    let bad := 47 < lamp.toNat ∨ 1 < cls.toNat ∨ 3 < d.toNat ∨ 3 < e.toNat ∨ 3 < r.toNat
    let fixed := (lamp = 0 ∧ cls ≠ 1) ∨ (1 ≤ lamp.toNat ∧ lamp.toNat ≤ 5 ∧ cls ≠ 0)
    (p = .d → Refuses cmd p 0x23 .notPermitted s) ∧
    (p = .s → s.window = false → Refuses cmd p 0x23 .locked s) ∧
    (p = .s → s.window = true → bad → Refuses cmd p 0x23 .range s) ∧
    (p = .s → s.window = true → ¬bad → fixed → Refuses cmd p 0x23 .notPermitted s) ∧
    (p = .s → s.window = true → ¬bad → ¬fixed → ∀ n : Fin 48, lamp.toNat = n.val → ∃ t,
      let b := beginFrame p s
      let old := b.lamps.get n
      let new := t.lamps.get n
      Answers cmd p 0x23 .ok [lamp, cls, d, e, r, byteOf new.resolved.rank] s t ∧
      new.cls = (if cls = 1 then .safety else .info) ∧ (new.lossD.map Lit.code).getD 0 = d.toNat ∧
      (new.lossS.map Lit.code).getD 0 = e.toNat ∧ (new.lossR.map Lit.code).getD 0 = r.toNat ∧
      new.writtenD = (if old.cls = .info ∧ cls = 1 then none else old.writtenD) ∧ new.loss = lossNow b new ∧
      { new.stored with cls := old.cls, lossD := old.lossD, lossS := old.lossS, lossR := old.lossR,
                        writtenD := old.writtenD, loss := old.loss } = old.stored ∧
      (∀ m, m ≠ n → (t.lamps.get m).stored = (b.lamps.get m).stored) ∧ LampsUpdated b t ∧
      ((s.lamps.get 0).cls = .safety → (s.lamps.get 1).cls = .info → Substituted t) ∧
      (∀ k : EventKind, k ≠ .chimeDropped → NotPosted k b t) ∧ OnlyChanges [.lamps, .chimes, .events] b t)

/-! ### Lamp matrix (chapter 4) -/

/-- R82, 12.3: READ_LAMPS answers sixteen lamp places and the settings and hold record of the matrix, and changes nothing.
That the data bytes of a refused response are 0 is the model's choice (log 7). -/
def Obligations.LampsReadAnswered : Prop :=
  ∀ (p : Port) (start : Byte) (s : State), isOut s = true →
    let b := beginFrame p s
    let place := fun k : Nat =>
      if h : start.toNat + k < 48 then
        let l := b.lamps.get ⟨start.toNat + k, h⟩
        flagByte [l.resolved = .on || l.resolved = .fast, l.resolved = .slow || l.resolved = .fast,
          (s.lmd.plan.get ⟨start.toNat + k, h⟩).isSome, l.cls = .safety,
          (s.lmd.readings.get ⟨start.toNat + k, h⟩).openFault]
      else 0
    let h := s.lmd.hold
    (47 < start.toNat → Refuses (.readLamps p start) p 0x21 .range s) ∧
    (start.toNat ≤ 47 → Answers (.readLamps p start) p 0x21 .ok
      ((List.range 16).map place ++ [byteOf (min 16 (48 - start.toNat)), byteOf s.lmd.dimming, byteOf s.lmd.floor,
        flagByte [h.internal, h.portS, h.request, h.active]]) s b)

/-- R78 to R80: LAMP_TEST from Port S: its checks; a request joins INTERNAL's hold at once, waits when nobody holds, and
changes nothing when it already holds or waits; a release cancels a waiting request or gives up PORT_S's share; the end of a
hold timer (log 3) takes its holder out of the holder set and nothing else, the hold itself ending at a frame boundary. That
the data bytes of a refused response are 0 is the model's choice (log 7). -/
def Obligations.LampTestRequestsAndReleases : Prop :=
  ∀ (action : Byte) (s : State), isOut s = true →
    let b := beginFrame .s s
    let h := s.lmd.hold
    let answer := fun (c : Instr) (k : Hold) (t : State) =>
      Answers c .s 0x25 .ok [flagByte [k.internal, k.portS, k.request, k.active]] s t
    Refuses (.lampTestRequest .d action) .d 0x25 .notPermitted s ∧ Refuses (.lampTestRelease .d) .d 0x25 .notPermitted s ∧
    (1 < action.toNat → Refuses (.lampTestRequest .s action) .s 0x25 .range s) ∧
    (s.pwc.state = .standby ∨ s.pwc.state = .parking →
      (action.toNat ≤ 1 → Refuses (.lampTestRequest .s action) .s 0x25 .notNow s) ∧
        Refuses (.lampTestRelease .s) .s 0x25 .notNow s) ∧
    (s.pwc.state = .runCheck ∨ s.pwc.state = .run →
      (action = 1 → h.portS = true ∨ h.request = true → answer (.lampTestRequest .s action) h b) ∧
      (action = 1 → h.portS = false → h.request = false → h.internal = false →
        answer (.lampTestRequest .s action) { h with request := true }
          (b.setLmd { s.lmd with hold := { h with request := true } })) ∧
      (action = 1 → h.portS = false → h.request = false → h.internal = true → ∃ t,
        Answers (.lampTestRequest .s action) .s 0x25 .ok [flagByte [true, true, false, true]] s t ∧
        t.lmd = { s.lmd with
          hold := { h with portS := true, request := false, active := true, portSTimer := some 5000 } } ∧
        Posted .holdGranted 1 b t ∧ (∀ k : EventKind, k ≠ .holdGranted → NotPosted k b t) ∧
        OnlyChanges [.matrix, .events] b t) ∧
      (h.request = true → answer (.lampTestRelease .s) { h with request := false }
        (b.setLmd { s.lmd with hold := { h with request := false } })) ∧
      (h.request = false → h.portS = true → answer (.lampTestRelease .s) { h with portS := false }
        (b.setLmd { s.lmd with hold := { h with portS := false, portSTimer := none } })) ∧
      (h.request = false → h.portS = false → answer (.lampTestRelease .s) h b)) ∧
    (Comes .internalTimerExpiry (h.internalTimer ≠ none) (h.internalTimer = some 0) s → exec .internalTimerExpiry s =
      .next ((ranBy .internalTimerExpiry s).setLmd
        { s.lmd with hold := { h with internal := false, internalTimer := none } })) ∧
    Lapses .internalTimerExpiry (h.internalTimer ≠ none) (h.internalTimer = some 0) s ∧
    (Comes .portSTimerExpiry (h.portSTimer ≠ none) (h.portSTimer = some 0) s → exec .portSTimerExpiry s =
      .next ((ranBy .portSTimerExpiry s).setLmd
        { s.lmd with hold := { h with portS := false, portSTimer := none } })) ∧
    Lapses .portSTimerExpiry (h.portSTimer ≠ none) (h.portSTimer = some 0) s

/-- R66 to R71, R73, R77, R79, R80: the start of a scan frame (log 3) grants a waiting request, ends a hold that no one keeps,
takes the requested floor and fixes the frame plan: which lamps are lit and at which duty, a SAFETY lamp never below the
floor, and whether its rows are switched on. The flash timers stand as six slots left them; the slots of a frame that a bare
command cuts short are taken as passed (the model's choice, log 3). -/
def Obligations.ScanFrameFixesPlan : Prop :=
  ∀ s : State, isOut s = true → Lapses .scanFrameStart True (6 ≤ s.lmd.slot) s ∧
    (Comes .scanFrameStart True (6 ≤ s.lmd.slot) s → ∃ t, exec .scanFrameStart s = .next t ∧
    let h := s.lmd.hold
    let k := t.lmd.hold
    let ends := h.active = true ∧ h.internal = false ∧ h.portS = false ∧ h.request = false
    let scans := s.pwc.state = .runCheck ∨ s.pwc.state = .run
    k.internal = h.internal ∧ k.portS = (h.portS || h.request) ∧ k.request = false ∧
    k.portSTimer = (if h.request then some 5000 else h.portSTimer) ∧ k.internalTimer = h.internalTimer ∧
    (k.active = true ↔ (h.active = true ∨ h.request = true) ∧ ¬ends) ∧
    (if h.request then Posted .holdGranted 1 s t else NotPosted .holdGranted s t) ∧
    (if ends then Posted .holdEnded 0 s t else NotPosted .holdEnded s t) ∧
    (∀ e : EventKind, e ≠ .holdGranted → e ≠ .holdEnded → NotPosted e s t) ∧
    t.lmd.floor = s.lmd.floorRequested ∧ t.lmd.floorRequested = s.lmd.floorRequested ∧
    t.lmd.dimming = s.lmd.dimming ∧ t.lmd.readings = s.lmd.readings ∧ t.lmd.slot = 0 ∧
    (s.lmd.slot = 6 → s.lmd.slowTime < 1000 → s.lmd.fastTime < 250 →
      t.lmd.slowTime = s.lmd.slowTime ∧ t.lmd.fastTime = s.lmd.fastTime) ∧
    t.lmd.slowTime = (s.lmd.slowTime + (6 - s.lmd.slot)) % 1000 ∧ t.lmd.fastTime = (s.lmd.fastTime + (6 - s.lmd.slot)) % 250 ∧
    (t.lmd.scanning = true ↔ scans) ∧
    (∀ n,
      let l := s.lamps.get n
      let asked := l.resolved = .on ∨ (l.resolved = .slow ∧ t.lmd.slowTime < 500) ∨
        (l.resolved = .fast ∧ t.lmd.fastTime < 125)
      let level := s.lmd.dimming + 1
      let duty := if s.pwc.supplyLow then t.lmd.floor else if k.active then 16
        else if l.cls = .safety ∧ level < t.lmd.floor then t.lmd.floor else level
      (scans → k.active = true ∨ asked → t.lmd.plan.get n = some duty) ∧
      (¬scans ∨ (k.active = false ∧ ¬asked) → t.lmd.plan.get n = none) ∧
      (t.lmd.floor ≤ 16 → l.cls = .safety → ∀ v ∈ t.lmd.plan.get n, t.lmd.floor ≤ v)) ∧
    OnlyChanges [.matrix, .events, .due] s t)

/-- R74, R75, R60 to R62, R69: the end of a row slot reads every lamp of its row that is lit at a duty of 4 or more, moves its
two counters, sets an open fault at the third LOW and clears it at the third OK, posts LAMP_OPEN and LAMP_RESTORED once for
each, and forms the substitutions again. -/
def Obligations.RowSlotReadsLamps : Prop :=
  ∀ (draws : Tab Bool 8) (s : State), isOut s = true → s.lmd.slot < 6 → (s.lamps.get 0).cls = .safety →
    (s.lamps.get 1).cls = .info → ∃ t, exec (.rowSlotEnd draws) s = .next t ∧
    let read := fun n : Fin 48 => n.val / 8 = s.lmd.slot ∧ 4 ≤ (s.lmd.plan.get n).getD 0
    let ok := fun n : Fin 48 => draws.get ⟨n.val % 8, Nat.mod_lt _ (by decide)⟩ = true
    let sets := fun n : Fin 48 => read n ∧ ¬ok n ∧ (s.lmd.readings.get n).low = 2 ∧
      (s.lmd.readings.get n).openFault = false
    let clears := fun n : Fin 48 => read n ∧ ok n ∧ (s.lmd.readings.get n).good = 2 ∧
      (s.lmd.readings.get n).openFault = true
    (∀ n,
      let old := s.lmd.readings.get n
      let new := t.lmd.readings.get n
      (¬read n → new = old) ∧
      (read n → ok n → new.low = 0 ∧ new.good = min 3 (old.good + 1)) ∧
      (read n → ¬ok n → new.low = min 3 (old.low + 1) ∧ new.good = 0) ∧
      (new.openFault = true ↔ sets n ∨ (old.openFault = true ∧ ¬clears n))) ∧
    (∀ p,
      let count := fun (k : EventKind) (hits : List (Fin 48)) =>
        let r := (s.port p).events.get k.number
        ((t.port p).events.get k.number).count =
          if r.level = 0 ∨ hits = [] then r.count else min 255 (r.count + hits.length)
      count .lampOpen ((List.finRange 48).filter sets) ∧ count .lampRestored ((List.finRange 48).filter clears)) ∧
    (∀ n, sets n → (∀ m, sets m → m = n) → Posted .lampOpen n.val s t) ∧
    (∀ n, clears n → (∀ m, clears m → m = n) → Posted .lampRestored n.val s t) ∧
    ((∃ n, sets n ∨ clears n) → Substituted t) ∧ ((∀ n, ¬sets n ∧ ¬clears n) → t.lamps = s.lamps ∧ t.cu = s.cu) ∧
    (∀ n, (t.lamps.get n).stored = (s.lamps.get n).stored) ∧
    (∀ k : EventKind, k ≠ .lampOpen → k ≠ .lampRestored → k ≠ .chimeDropped → NotPosted k s t) ∧
    t.lmd.slot = s.lmd.slot + 1 ∧ t.lmd.slowTime = (s.lmd.slowTime + 1) % 1000 ∧
    t.lmd.fastTime = (s.lmd.fastTime + 1) % 250 ∧ t.lmd.plan = s.lmd.plan ∧ t.lmd.hold = s.lmd.hold ∧
    t.lmd.scanning = s.lmd.scanning ∧
    OnlyChanges [.matrix, .lamps, .chimes, .events, .leads] s t

/-! ### Chimes (chapter 5) -/

/-- R93, R85 to R89: REQUEST_CHIME: its checks and its five outcomes, with the queue, the entry in play and CHIME_DROPPED that
each leaves. That the data bytes of a refused response are 0 is the model's choice (log 7). -/
def Obligations.ChimeRequestSettled : Prop :=
  ∀ (p : Port) (code priority : Byte) (s : State), isOut s = true →
    let cmd : Instr := .requestChime p code priority
    let b := beginFrame p s
    let u := b.cu
    let level := min 2 priority.toNat
    let cycle := s.pwc.state = .runCheck ∨ s.pwc.state = .run
    let playing := fun u : ChimeUnit => match u.playing with
      | some q => [byteOf q.chime.sound.code, byteOf q.chime.origin.classCode]
      | none => [0xFF, 0xFF]
    let mine : Origin := match p with | .d => .portD | .s => .portS
    let own := match p with | .d => 0 | .s => 1
    (3 < code.toNat → Refuses cmd p 0x30 .range s) ∧ (code.toNat ≤ 3 → ¬cycle → Refuses cmd p 0x30 .notNow s) ∧
    (code.toNat ≤ 3 → cycle →
      let sound := ([.tick, .tock, .single, .triple] : List Sound).getD code.toNat .tick
      let entry : Chime := { sound, priority := level, origin := mine, arrival := u.arrivals + 1 }
      let queued := fun q : List Chime =>
        { u with queue := q.filter (level ≤ ·.priority) ++ entry :: q.filter (·.priority < level)
                 arrivals := u.arrivals + 1 }
      let twin := ∃ c ∈ u.queue, c.sound = sound ∧ c.origin = mine
      let busy := u.playing ≠ none ∨ u.gap ≠ none
      let last := u.queue.getLastD entry
      (twin → Answers cmd p 0x30 .ok ([2, byteOf u.queue.length] ++ playing u) s b) ∧
      (u.queue = [] → ¬busy → Answers cmd p 0x30 .ok [1, 0, code, own] s
        (b.setCu { u with playing := some { chime := entry, elapsed := 0 }, arrivals := u.arrivals + 1 })) ∧
      (chimesOrdered u.queue = true → ¬twin → busy → u.queue.length < 8 →
        Answers cmd p 0x30 .ok ([0, byteOf (u.queue.length + 1)] ++ playing u) s (b.setCu (queued u.queue))) ∧
      (chimesOrdered u.queue = true → ¬twin → busy → u.queue.length = 8 →
        (level ≤ last.priority → ∃ t, Answers cmd p 0x30 .ok ([3, 8] ++ playing u) s t ∧
          Posted .chimeDropped own.toNat b t ∧ (∀ k : EventKind, k ≠ .chimeDropped → NotPosted k b t) ∧
          OnlyChanges [.events] b t) ∧
        (last.priority < level → ∃ t, Answers cmd p 0x30 .ok ([4, 8] ++ playing u) s t ∧
          t.cu = queued u.queue.dropLast ∧ Posted .chimeDropped last.origin.classCode b t ∧
          (∀ k : EventKind, k ≠ .chimeDropped → NotPosted k b t) ∧ OnlyChanges [.chimes, .events] b t)))

/-- R94, R89: CANCEL_CHIMES removes the queued entries of the sending port and leaves the entry in play; an entry that ends
starts the gap of 100 ms, and when the gap has run out the head of the queue, if any, starts. The two ends come when they are
due or as the sender gives them (log 3). -/
def Obligations.ChimesCancelledAndSpaced : Prop :=
  ∀ (p : Port) (s : State), isOut s = true →
    let b := beginFrame p s
    let u := b.cu
    let own : Origin := match p with | .d => .portD | .s => .portS
    let kept := u.queue.filter fun c => c.origin ≠ own
    Answers (.cancelChimes p) p 0x31 .ok
      ([byteOf (u.queue.filter fun c => c.origin = own).length, byteOf kept.length] ++
        match u.playing with
        | some q => [byteOf q.chime.sound.code, byteOf q.chime.origin.classCode]
        | none => [0xFF, 0xFF]) s (b.setCu { u with queue := kept }) ∧
    let played := ∃ q ∈ s.cu.playing, q.chime.sound.length ≤ q.elapsed
    let gapEnds := Comes .gapEnd (s.cu.gap ≠ none) (s.cu.gap = some 0) s
    Lapses .chimeEnd (s.cu.playing ≠ none) played s ∧ Lapses .gapEnd (s.cu.gap ≠ none) (s.cu.gap = some 0) s ∧
    (Comes .chimeEnd (s.cu.playing ≠ none) played s →
      exec .chimeEnd s = .next ((ranBy .chimeEnd s).setCu { s.cu with playing := none, gap := some 100 })) ∧
    (gapEnds → s.cu.queue = [] → exec .gapEnd s = .next ((ranBy .gapEnd s).setCu { s.cu with gap := none })) ∧
    ∀ head ∈ s.cu.queue.head?, gapEnds → s.cu.playing = none → exec .gapEnd s = .next ((ranBy .gapEnd s).setCu
      { s.cu with queue := s.cu.queue.tail, playing := some { chime := head, elapsed := 0 }, gap := none })

/-! ### Clock (chapter 6) -/

/-- R112, R110, R100: READ_TIME answers the UTC fields, their stamp, and the local fields: the legal date whose stamp is the
UTC stamp plus 15 minutes for each quarter hour of the offset, held within the range of the clock. -/
def Obligations.TimeReadAnswered : Prop :=
  ∀ (p : Port) (s : State), isOut s = true → s.cc.now.legal = true → -48 ≤ s.cc.localOffset → s.cc.localOffset ≤ 56 →
    let c := s.cc
    let utc : Int := minuteStamp c.now
    let want := utc + 15 * c.localOffset
    let shown := (localTime c.now c.localOffset).1
    let fields := fun (t : DateTime) (weekday : Nat) =>
      [byteOf t.year, byteOf t.month, byteOf t.day, byteOf t.hour, byteOf t.minute, byteOf t.second, byteOf weekday]
    shown.legal = true ∧ shown.second = c.now.second ∧
    (minuteStamp shown : Int) = (if want < 0 then 0 else if 105190559 < want then 105190559 else want) ∧
    Answers (.readTime p) p 0x50 .ok
      (fields c.now c.weekday ++ word32 (minuteStamp c.now) ++ fields shown ((5 + dayCount shown) % 7) ++
        [flagByte [want < 0 || 105190559 < want, c.isSet, c.byRecorder, c.running, c.rangeHold],
          BitVec.ofInt 8 c.localOffset]) s (beginFrame p s)

/-- R106, R104, R105: SET_TIME with its three checks, and a TIME frame, each loads the clock: the fields, the weekday of their
date, the prescaler at 0, the quality, the tallies discarded, and TIME_STEP exactly where the clock was SET. A second found
due before the load of its moment lapses, as the prescaler then stands at 0. That the part of a crystal cycle in progress is
dropped too (log 8), and that the data bytes of a refused response are 0 (log 7), are the model's choices. -/
def Obligations.ClockLoaded : Prop :=
  ∀ (p : Port) (a : TimeArgs) (valid : Bool) (s : State), isOut s = true →
    let date : DateTime := { year := a.year.toNat, month := a.month.toNat, day := a.day.toNat, hour := a.hour.toNat,
                             minute := a.minute.toNat, second := a.second.toNat }
    let loaded := fun recorder : Bool =>
      { s.cc with now := date, weekday := (5 + dayCount date) % 7, prescaler := 0, crystalPhase := 0, rangeHold := false,
                  isSet := true, byRecorder := recorder }
    let cleared := { s.aau with one := { s.aau.one with tallies := ⟨0, 0, 0, 0, 0⟩ }
                                two := { s.aau.two with tallies := ⟨0, 0, 0, 0, 0⟩ } }
    let apart : Int := (secondStamp date : Int) - secondStamp s.cc.now
    let loads := s.cc.running = true ∧ valid = true ∧ date.legal = true ∧
      (s.cc.isSet = false ∨ s.cc.byRecorder = false ∨ 2 < apart ∨ apart < -2)
    (date.legal = false → Refuses (.setTime p a) p 0x51 .range s) ∧
    (date.legal = true → s.cc.running = false ∨ (s.rlu.live = true ∧ s.cc.byRecorder = true) →
      Refuses (.setTime p a) p 0x51 .notNow s) ∧
    (date.legal = true → s.cc.running = true → s.rlu.live = false ∨ s.cc.byRecorder = false → ∃ t,
      Answers (.setTime p a) p 0x51 .ok
        [a.year, a.month, a.day, a.hour, a.minute, a.second, byteOf ((5 + dayCount date) % 7),
          flagByte [false, true, false, true, false]] s t ∧
      t.cc = loaded false ∧ t.aau = cleared ∧
      (if s.cc.isSet then Posted .timeStep 1 (beginFrame p s) t else NotPosted .timeStep (beginFrame p s) t) ∧
      (∀ k : EventKind, k ≠ .timeStep → NotPosted k (beginFrame p s) t) ∧
      OnlyChanges [.clock, .drivers, .events] (beginFrame p s) t) ∧
    ∃ t, exec (.timeFrame a valid) s = .next t ∧ t.cc = (if loads then loaded true else s.cc) ∧
      t.aau = (if loads then cleared else s.aau) ∧
      (if loads ∧ s.cc.isSet = true then Posted .timeStep 0 s t else NotPosted .timeStep s t) ∧
      (loads → .secondAdvance ∈ s.due → ∃ u, exec .secondAdvance t = .next u ∧ u.cc = t.cc) ∧
      t.rlu.live = true ∧ t.rlu.timer = some 2500 ∧ t.rlu.vehicle = s.rlu.vehicle

/-- R98 to R103: a second completed moves a legal date on by one second, with the weekday of the new date, and posts
CLOCK_TICK to each port whose subscription matches; at the end of the range the clock holds and CLOCK_RANGE is posted once;
while the clock does not run, and after a load of the same moment, nothing happens (log 3); in a pin or command reset the
fields move on and no tick is issued (R97). -/
def Obligations.SecondAdvancesClock : Prop :=
  ∀ s : State, s.cc.now.legal = true → s.cc.weekday = (5 + dayCount s.cc.now) % 7 →
    let last : DateTime := { year := 199, month := 12, day := 31, hour := 23, minute := 59, second := 59 }
    let comes := Comes .secondAdvance (s.cc.running = true) (s.cc.running = true ∧ 32768 ≤ s.cc.prescaler) s
    Lapses .secondAdvance (s.cc.running = true) (s.cc.running = true ∧ 32768 ≤ s.cc.prescaler) s ∧
    (isOut s = true → comes → s.cc.now = last → ∃ t, exec .secondAdvance s = .next t ∧
      t.cc = { s.cc with prescaler := 0, rangeHold := true } ∧
      (if s.cc.rangeHold then NotPosted .clockRange s t else Posted .clockRange 0 s t) ∧
      (∀ k : EventKind, k ≠ .clockRange → NotPosted k s t) ∧ OnlyChanges [.clock, .events, .due] s t) ∧
    (isOut s = true → comes → s.cc.now ≠ last → ∃ t, exec .secondAdvance s = .next t ∧
      let n := t.cc.now
      n.legal = true ∧ secondStamp n = secondStamp s.cc.now + 1 ∧
      t.cc = { s.cc with now := n, weekday := (5 + dayCount n) % 7, prescaler := 0 } ∧
      (∀ p,
        let period := match p with | .d => s.cc.tickD | .s => s.cc.tickS
        let old := (s.port p).events.get 19
        let due := period = .second ∨ (period = .minute ∧ n.second = 0) ∨
          (period = .hour ∧ n.second = 0 ∧ n.minute = 0) ∨ (period = .day ∧ n.second = 0 ∧ n.minute = 0 ∧ n.hour = 0)
        (t.port p).events.get 19 = if due then old.posted (period.code - 1) else old) ∧
      (n.second ≠ 0 → ∀ slot,
        let r := s.aau.record slot
        t.aau.record slot = if r.card then { r with tallies := r.tallies.addSecond r.activity } else r) ∧
      (∀ a, s.aau.one.tallies.of a < 60 → s.aau.one.card = true → s.aau.one.activity = a →
        (s.aau.one.tallies.addSecond a).of a = s.aau.one.tallies.of a + 1)) ∧
    (isOut s = false → s.rst.causes.powerOn = false → comes → s.cc.now ≠ last → ∃ t,
      exec .secondAdvance s = .next t ∧ secondStamp t.cc.now = secondStamp s.cc.now + 1 ∧ OnlyChanges [.clock, .due] s t)

/-- R107 to R109: the oscillator monitor: a stop sets the clock to the epoch, UNSET and not running, posts CLOCK_FAULT and
discards the tallies; an edge starts a recovery, a pause abandons it, and 100 ms of edges end it with the clock counting from
the second's start. The row that ends a recovery is found due at 100 ms, or is the sender's word that they have passed,
whatever time the model has counted (the model's choice, log 3); that the part of a crystal cycle in progress is dropped at a
stop and a recovery is the model's choice too (log 8). -/
def Obligations.OscillatorStopsAndRecovers : Prop :=
  ∀ s : State, isOut s = true →
    (s.cc.monitor = .running → ∃ t, exec .oscillatorStop s = .next t ∧ Posted .clockFault 0 s t ∧
      t.cc = { s.cc with now := ⟨0, 1, 1, 0, 0, 0⟩, weekday := 5, isSet := false, byRecorder := false, running := false,
                         prescaler := 0, crystalPhase := 0, rangeHold := false, monitor := .stopped } ∧
      (∀ slot, t.aau.record slot = { s.aau.record slot with tallies := ⟨0, 0, 0, 0, 0⟩ }) ∧
      (∀ k : EventKind, k ≠ .clockFault → NotPosted k s t) ∧ OnlyChanges [.clock, .drivers, .events] s t) ∧
    (s.cc.monitor = .stopped → exec .oscillatorEdgeReturn s = .next (s.setCc { s.cc with monitor := .recovering 0 })) ∧
    (∀ n, s.cc.monitor = .recovering n →
      exec .recoveryAbandoned s = .next (s.setCc { s.cc with monitor := .stopped }) ∧
      (Comes .oscillatorRecovery True (100 ≤ n) s → exec .oscillatorRecovery s = .next ((ranBy .oscillatorRecovery s).setCc
        { s.cc with monitor := .running, running := true, prescaler := 0, crystalPhase := 0 })) ∧
      Lapses .oscillatorRecovery True (100 ≤ n) s) ∧
    ((∀ n, s.cc.monitor ≠ .recovering n) → exec .oscillatorRecovery s = .next (ranBy .oscillatorRecovery s) ∧
      exec .recoveryAbandoned s = .next s)

/-! ### Drivers (chapter 8) -/

/-- R136, R138, R139, R142, R146: the advance that completes a minute credits it in each PRESENT slot to the activity with the
largest tally, a crew conflict giving slot 2 AVAILABLE with RECORDER_INCONSISTENT (2); the history grows, L takes the minute's
stamp, the tallies and credit_skip clear and the generation rises; an ABSENT slot is left as it is. -/
def Obligations.MinuteCreditedToLargestTally : Prop :=
  ∀ s : State, isOut s = true →
    Comes .secondAdvance (s.cc.running = true) (s.cc.running = true ∧ 32768 ≤ s.cc.prescaler) s →
    s.cc.now.legal = true → s.cc.now.second = 59 →
    s.cc.now ≠ { year := 199, month := 12, day := 31, hour := 23, minute := 59, second := 59 } → ∃ t,
    exec .secondAdvance s = .next t ∧ t.aau.lead = s.aau.lead ∧
    (CrewConflict s → Posted .recorderInconsistent 2 s t) ∧ (¬CrewConflict s → NotPosted .recorderInconsistent s t) ∧
    ∀ slot,
      let r := s.aau.record slot
      let n := t.aau.record slot
      (r.card = false → n = r) ∧
      ∀ a, Credited s slot a →
        let stamp := minuteStamp s.cc.now
        let fresh : HistoryEntry := { activity := a, start := stamp, timeUnset := !s.cc.isSet, duration := 1 }
        n.lastCredited = some a ∧ n.lastMinute = stamp ∧ n.tallies = ⟨0, 0, 0, 0, 0⟩ ∧ n.creditSkip = false ∧
        n.generation = r.generation + 1 ∧ n.card = r.card ∧ n.activity = r.activity ∧ n.crew = r.crew ∧
        n.contLimit = r.contLimit ∧ n.dailyLimit = r.dailyLimit ∧ n.confirmed = r.confirmed ∧
        n.lastAdopted = r.lastAdopted ∧ n.basisTimer = r.basisTimer ∧
        (r.history = [] → n.history = [fresh]) ∧
        (∀ e ∈ r.history.getLast?,
          (e.activity = a → n.history = r.history.dropLast ++ [{ e with duration := min 1440 (e.duration + 1) }]) ∧
          (e.activity ≠ a → r.history.length < 24 → n.history = r.history ++ [fresh]) ∧
          (e.activity ≠ a → r.history.length = 24 → n.history = r.history.tail ++ [fresh]))

/-- R140 to R144: step 3 of a credit moves the counters of the slot unless credit_skip is set, BREAK_QUALIFIED is posted where
a break qualifies, and step 6 forms the warning with its event, its chime and L2. -/
def Obligations.CreditMovesCountersAndWarns : Prop :=
  ∀ s : State, isOut s = true →
    Comes .secondAdvance (s.cc.running = true) (s.cc.running = true ∧ 32768 ≤ s.cc.prescaler) s → s.cc.now.second = 59 →
    s.cc.now ≠ { year := 199, month := 12, day := 31, hour := 23, minute := 59, second := 59 } → ∃ t,
    exec .secondAdvance s = .next t ∧
    ∀ (slot : Slot) (a : Activity), Credited s slot a →
      let r := s.aau.record slot
      let n := t.aau.record slot
      (r.creditSkip = true → n.continuous = r.continuous ∧ n.daily = r.daily ∧ n.restRun = r.restRun ∧
        n.firstPart = r.firstPart ∧ n.runQualified = r.runQualified ∧ n.warn = r.warn) ∧
      (r.creditSkip = false → CreditCounts a r n ∧ WarnFits s.aau.lead n ∧ WarnTold slot s t ∧
        ((∀ other, other ≠ slot → (s.aau.record other).card = false) →
          (a = .rest ∧ r.BreakQualifies → Posted .breakQualified (slotNumber slot) s t) ∧
            (¬(a = .rest ∧ r.BreakQualifies) → NotPosted .breakQualified s t)))

/-- R123, R131 to R134: an ACTIVITY frame inserts a card into a cleared record, removes one from a record it freezes, or
changes the activity in force and the crew flag; a byte that changes nothing leaves the record. -/
def Obligations.ActivityFrameActs : Prop :=
  ∀ (one two : ActivityArg) (s : State), isOut s = true → ∃ t, exec (.activityFrame one two) s = .next t ∧
    t.aau.lead = s.aau.lead ∧ t.cc = s.cc ∧ t.rlu.live = true ∧ t.rlu.timer = some 2500 ∧
    ∀ slot,
      let byte := match slot with | .one => one | .two => two
      let r := s.aau.record slot
      let n := t.aau.record slot
      let activity : Activity :=
        ([.unknown, .rest, .available, .work, .drive] : List Activity).getD byte.activity.toNat .unknown
      let alone := fun k : EventKind => ∀ other, other ≠ slot → (s.aau.record other).card = false ∧
        (match other with | .one => one | .two => two).card = false →
        (k = .cardChange → Posted .cardChange (slotNumber slot) s t ∧ NotPosted .activityChange s t) ∧
        (k = .activityChange → Posted .activityChange (slotNumber slot) s t ∧ NotPosted .cardChange s t)
      (byte.card = false → r.card = false → n = r) ∧
      (byte.card = true → r.card = false →
        n = { DriverRecord.reset with card := true, activity, crew := byte.crew,
                                      lastMinute := minuteStamp s.cc.now - 1, generation := r.generation + 1 } ∧
        alone .cardChange) ∧
      (byte.card = false → r.card = true →
        n = { r with card := false, tallies := ⟨0, 0, 0, 0, 0⟩, creditSkip := false, warn := .none,
                     generation := r.generation + 1 } ∧
        (t.lamps.get 2).account = some (if t.aau.one.warn = .limit ∨ t.aau.two.warn = .limit then .slow
          else if t.aau.one.warn = .prewarn ∨ t.aau.two.warn = .prewarn then .on else .off) ∧ alone .cardChange) ∧
      (byte.card = true → r.card = true →
        (activity = r.activity → byte.crew = r.crew → n = r) ∧
        (activity ≠ r.activity ∨ byte.crew ≠ r.crew →
          n = { r with activity, crew := byte.crew, generation := r.generation + 1 }) ∧
        (activity ≠ r.activity → alone .activityChange))

/-- R148 to R150: a slot's summary is ignored without a card on both sides, adopted with the clock UNSET or as_of at L, L - 1
or L + 1, and stale otherwise; an adoption takes the clamped values, keeps the tallies, L and the history, and settles the
minute between. -/
def Obligations.SummarySettled : Prop :=
  ∀ (one two : SummaryArg) (s : State), isOut s = true → ∃ t, exec (.summaryFrame one two) s = .next t ∧
    t.aau.lead = s.aau.lead ∧ t.cc = s.cc ∧ t.rlu.live = true ∧ t.rlu.timer = some 2500 ∧
    ∀ slot,
      let a := match slot with | .one => one | .two => two
      let r := s.aau.record slot
      let n := t.aau.record slot
      let asOf := a.asOf.toNat
      let plain := s.cc.isSet = false ∨ asOf = r.lastMinute
      let again := s.cc.isSet = true ∧ asOf + 1 = r.lastMinute
      let skip := s.cc.isSet = true ∧ asOf = r.lastMinute + 1
      let daily := min 1440 a.daily.toNat
      let taken := { r with
        continuous := min (min 1440 a.continuous.toNat) daily, daily, restRun := min 1440 a.restRun.toNat
        firstPart := a.firstPart, runQualified := a.runQualified }
      let acts := r.card = true ∧ a.card = true
      let alone := ∀ other, other ≠ slot → (s.aau.record other).card = false
      (¬acts → n = r) ∧
      (acts → ¬plain → ¬again → ¬skip → n = r ∧ (alone → Posted .summaryStale (slotNumber slot) s t)) ∧
      (acts → plain ∨ again ∨ skip →
        n.contLimit = max 60 (min a.contLimit.toNat 600) ∧ n.dailyLimit = max 60 (min a.dailyLimit.toNat 1440) ∧
        n.confirmed = true ∧ n.lastAdopted = some (minuteStamp s.cc.now) ∧ n.basisTimer = some 150000 ∧
        (n.creditSkip = true ↔ ¬plain ∧ skip) ∧ n.generation = r.generation + 1 ∧ n.card = r.card ∧
        n.activity = r.activity ∧ n.crew = r.crew ∧ n.tallies = r.tallies ∧ n.lastMinute = r.lastMinute ∧
        n.lastCredited = r.lastCredited ∧ n.history = r.history ∧ WarnFits s.aau.lead n ∧ WarnTold slot s t ∧
        (alone → Posted .summaryAdopted (slotNumber slot) s t ∧
          if daily < min 1440 a.continuous.toNat then Posted .recorderInconsistent (slotNumber slot) s t
          else NotPosted .recorderInconsistent s t) ∧
        (plain ∨ skip ∨ r.lastCredited = none → n.continuous = taken.continuous ∧ n.daily = taken.daily ∧
          n.restRun = taken.restRun ∧ n.firstPart = taken.firstPart ∧ n.runQualified = taken.runQualified) ∧
        (¬plain → again → ∀ c, r.lastCredited = some c → CreditCounts c taken n ∧
          (alone → (c = .rest ∧ taken.BreakQualifies → Posted .breakQualified (slotNumber slot) s t) ∧
            (¬(c = .rest ∧ taken.BreakQualifies) → NotPosted .breakQualified s t))))

/-- R155, R143, R144: SET_DRIVE_WARNING from Port D clamps the lead to 60 and forms the warning of each PRESENT record again,
with the generation of those it changes. That the data bytes of a refused response are 0 is the model's choice (log 7). -/
def Obligations.DriveWarningLeadSet : Prop :=
  ∀ (v : Byte) (s : State), isOut s = true →
    let b := beginFrame .d s
    Refuses (.setDriveWarning .s v) .s 0x43 .notPermitted s ∧
    ∃ t, Answers (.setDriveWarning .d v) .d 0x43 .ok
        [byteOf (min 60 v.toNat), byteOf t.aau.one.warn.code, byteOf t.aau.two.warn.code] s t ∧
      t.aau.lead = min 60 v.toNat ∧
      (∀ slot,
        let r := s.aau.record slot
        let n := t.aau.record slot
        n = { r with warn := n.warn, generation := if n.warn = r.warn then r.generation else r.generation + 1 } ∧
        (r.card = false → n.warn = r.warn) ∧ (r.card = true → WarnFits (min 60 v.toNat) n ∧ WarnTold slot b t)) ∧
      OnlyChanges [.drivers, .lamps, .chimes, .events] b t

/-- R153, R154, R145, 12.3: READ_DRIVER answers the account or the crediting state of a slot, READ_HISTORY up to two entries
of its history from a start index; neither changes anything. That the data bytes of a refused response are 0 is the model's
choice (log 7). -/
def Obligations.DriverAndHistoryRead : Prop :=
  ∀ (p : Port) (slot : Slot) (code part start : Byte) (s : State), isOut s = true →
    let r := s.aau.record slot
    let entry := fun k : Nat =>
      match r.history[k]? with
      | some e => [byteOf (e.activity.code + if e.timeUnset then 128 else 0)] ++ word32 e.start ++ word16 e.duration
      | none => []
    let left := min (r.contLimit - r.continuous) (r.dailyLimit - r.daily)
    (code ≠ 1 → code ≠ 2 → Refuses (.readDriver p code part) p 0x41 .range s) ∧
    (1 < part.toNat → Refuses (.readDriver p code part) p 0x41 .range s) ∧
    (code = (match slot with | .one => 1 | .two => 2) → part = 0 → Answers (.readDriver p code part) p 0x41 .ok
      ([code, flagByte [r.card, r.crew, r.firstPart, r.runQualified, r.confirmed], byteOf r.activity.code,
        byteOf r.warn.code] ++ word16 r.continuous ++ word16 r.daily ++ word16 r.restRun ++ word16 left ++
        word16 r.contLimit ++ word16 r.dailyLimit ++ [byteOf r.history.length, r.generation]) s (beginFrame p s)) ∧
    (code = (match slot with | .one => 1 | .two => 2) → part = 1 → Answers (.readDriver p code part) p 0x41 .ok
      ([code] ++ word32 r.lastMinute ++
        [byteOf (match r.lastCredited with | some a => a.code | none => 255), if r.creditSkip then 1 else 0] ++
        word32 (r.lastAdopted.getD 4294967295) ++
        [byteOf r.tallies.unknown, byteOf r.tallies.rest, byteOf r.tallies.available, byteOf r.tallies.work,
          byteOf r.tallies.drive, r.generation]) s (beginFrame p s)) ∧
    (code ≠ 1 → code ≠ 2 → Refuses (.readHistory p code start) p 0x42 .range s) ∧
    (23 < start.toNat → Refuses (.readHistory p code start) p 0x42 .range s) ∧
    (code = (match slot with | .one => 1 | .two => 2) → start.toNat ≤ 23 →
      Answers (.readHistory p code start) p 0x42 .ok
        ([code, r.generation, byteOf r.history.length, byteOf (min 2 (r.history.length - start.toNat))] ++
          entry start.toNat ++ entry (start.toNat + 1)) s (beginFrame p s))

/-! ### Recorder link (chapter 7) -/

/-- R117, R119, R124: each of the six frames restarts supervision at 2500 ms, returns a LOST link to LIVE with SOURCE_RESTORED
(2) and the loss contributions formed again, and leaves the transmitter; DISTANCE and NOTICE store their fields and clear
their held flags, and NOTICE hands L3 the contribution of its level. That a frame given as a command leaves the assembly in
HUNT is the model's choice (log 19). -/
def Obligations.ValidFrameKeepsLinkLive : Prop :=
  (∀ (c : Instr) (s : State), isOut s = true → (recorderPayload c).isSome = true → ∃ t, exec c s = .next t ∧
    t.rlu = { s.rlu with live := true, timer := some 2500, assembly := .hunt, gapTime := 0, vehicle := t.rlu.vehicle } ∧
    (s.rlu.live = false → Posted .sourceRestored 2 s t ∧ ∀ n, (t.lamps.get n).loss = lossNow t (t.lamps.get n)) ∧
    (s.rlu.live = true → NotPosted .sourceRestored s t ∧ ∀ n, (t.lamps.get n).loss = (s.lamps.get n).loss) ∧
    (∀ n, n ≠ 3 → n ≠ 4 → (t.lamps.get n).recorder = (s.lamps.get n).recorder) ∧
    OnlyChanges [.gauges, .lamps, .chimes, .clock, .recorder, .drivers, .events, .window] s t) ∧
  (∀ (odometer trip : BitVec 32) (s : State), isOut s = true → ∃ t, exec (.distanceFrame odometer trip) s = .next t ∧
    t.rlu.vehicle =
      { s.rlu.vehicle with odometer := odometer.toNat, trip := trip.toNat, heldDistance := false } ∧
    (s.rlu.live = true → OnlyChanges [.recorder] s t) ∧ OnlyChanges [.recorder, .lamps, .chimes, .events] s t) ∧
  ∀ (level code : Byte) (s : State), isOut s = true → ∃ t, exec (.noticeFrame level code) s = .next t ∧
    t.rlu.vehicle =
      { s.rlu.vehicle with
        noticeLevel := if level = 0 then .none else if level = 1 then .warning else .fault
        noticeCode := code, heldNotice := false } ∧
    (t.lamps.get 3).recorder = some (if level = 0 then .off else if level = 1 then .on else .slow) ∧
    (t.lamps.get 4).recorder = (s.lamps.get 4).recorder ∧ OnlyChanges [.recorder, .lamps, .chimes, .events] s t

/-- R120, R121, R6, R9, R12, R14, R176: a SPEED frame stores the speed in every enabled channel that lists RECORDER, with the
selection made again; it fills the vehicle record, hands L4 its overspeed flag, requests one SINGLE chime as the flag rises,
and closes the window when it takes the vehicle speed to 100 or more. -/
def Obligations.SpeedFrameReachesOwners : Prop :=
  ∀ (speed : BitVec 16) (overspeed motion : Bool) (s : State), isOut s = true → ∃ t,
    exec (.speedFrame speed overspeed motion) s = .next t ∧
    let lists := fun c : Channel => c.enabled = true ∧ (c.primary = .recorder ∨ c.fallback = some .recorder)
    let gains := fun i : Fin 8 => lists (s.ge.channels.get i) ∧ (s.ge.channels.get i).active = none
    let closes := s.window = true ∧ vehicleSpeed t ≠ vehicleSpeed s ∧ 100 ≤ (vehicleSpeed t).getD 0
    t.rlu.vehicle =
      { s.rlu.vehicle with speed := speed.toNat, overspeed := overspeed, motion := motion, heldSpeed := false } ∧
    (∀ i,
      let c := s.ge.channels.get i
      let a := t.ge.channels.get i
      { a with valueR := c.valueR, active := c.active, pendingCurve := c.pendingCurve } = c ∧
      a.pendingCurve = (if closes then none else c.pendingCurve) ∧
      (lists c → a.valueR = some speed.toNat ∧
        a.active = if sourceLive t c.primary = true ∧ a.value c.primary ≠ none then some c.primary else c.fallback) ∧
      (¬lists c → a.valueR = c.valueR ∧ a.active = c.active) ∧
      (gains i → (t.lamps.get c.faultLamp).gauge = gaugeContribution t.ge s.pwc.state c.faultLamp) ∧
      (gains i → (∀ j, j ≠ i → ¬gains j) → Posted .gaugeSignalRestored i.val s t)) ∧
    ((∀ i, ¬gains i) → NotPosted .gaugeSignalRestored s t ∧ ∀ n, (t.lamps.get n).gauge = (s.lamps.get n).gauge) ∧
    (t.window = true ↔ s.window = true ∧ ¬closes) ∧
    (t.lamps.get 4).recorder = some (if overspeed then .on else .off) ∧
    (t.lamps.get 3).recorder = (s.lamps.get 3).recorder ∧
    (inCycle s = true → overspeed = true → s.rlu.vehicle.overspeed = false → Chimes .single .recorder t) ∧
    (inCycle s = false ∨ overspeed = false ∨ s.rlu.vehicle.overspeed = true →
      ∀ c ∈ t.cu.queue, c.origin = .recorder → c ∈ s.cu.queue) ∧
    (∀ k : EventKind, k ≠ .sourceRestored → k ≠ .gaugeSignalRestored → k ≠ .chimeDropped → NotPosted k s t) ∧
    OnlyChanges [.gauges, .lamps, .chimes, .recorder, .events, .window] s t

/-- R115, R116: what each character makes of the frame in assembly, in each of its five states; a good CRC byte acts as the
frame's command at once (the model's choice, log 9); what a discard and a pause of 5 ms leave, in HUNT, once the start bit of
the next character has come and after a character of the same moment nothing (log 3). -/
def Obligations.CharactersAssembleFrames : Prop :=
  ∀ (char : Byte) (err : Bool) (s : State), isOut s = true →
    let got := exec (.characterReceived char err) s
    let put := fun a : Assembly => s.setRlu { s.rlu with assembly := a, gapTime := 0 }
    let sync : Assembly := if char = 0xC5 ∧ err = false then .type else .hunt
    let lengths : List (Nat × Nat) := [(1, 3), (2, 7), (3, 2), (4, 30), (5, 8), (6, 2)]
    let pauses := s.rlu.assembly ≠ .hunt ∧ s.rlu.receiver.underWay = false
    let pause := pauses ∧ 5 ≤ s.rlu.gapTime
    (Comes .gapTimeout pauses pause s → exec .gapTimeout s =
      .next ((ranBy .gapTimeout s).setRlu { s.rlu with assembly := .hunt, gapTime := 0 })) ∧
    Lapses .gapTimeout pauses pause s ∧
    match s.rlu.assembly with
    | .hunt => got = .next (put sync) ∧ exec (.recorderFrameDiscarded char err) s = .next s
    | .type =>
      got = .next (put (if err = false ∧ 1 ≤ char.toNat ∧ char.toNat ≤ 6 then .length char else sync)) ∧
        exec (.recorderFrameDiscarded char err) s = .next (put sync)
    | .length type =>
      got = .next (put (if err = false ∧ (type.toNat, char.toNat) ∈ lengths then .payload type [] else sync)) ∧
        exec (.recorderFrameDiscarded char err) s = .next (put sync)
    | .payload type received =>
      (err = true → got = .next (put .hunt)) ∧
        (err = false → (type.toNat, received.length + 1) ∈ lengths →
          got = .next (put (.check type (received ++ [char])))) ∧
        (err = false → (∃ l ∈ lengths, l.1 = type.toNat ∧ received.length + 1 < l.2) →
          got = .next (put (.payload type (received ++ [char])))) ∧
        exec (.recorderFrameDiscarded char err) s = .next (put .hunt)
    | .check type received =>
      let good := err = false ∧ char = crc8 ([0xC5, type, BitVec.ofNat 8 received.length] ++ received)
      (¬good → got = .next (put .hunt)) ∧ (good → ∀ c ∈ decodeRecorder type received, got = exec c s) ∧
        exec (.recorderFrameDiscarded char err) s = .next (put .hunt)

/-- R114, R115, R117, R195: the characters of a whole frame, taken one after another from HUNT without framing error, act
exactly as the command the frame stands for, with every one of its fields. -/
def Obligations.WholeFrameActsAsCommand : Prop :=
  ∀ (c : Instr) (s : State), isOut s = true → s.rlu.assembly = .hunt →
    ∀ frame ∈ encodeRecorder c, characters frame s = exec c s

/-- R118, R119, R135, R152, R7, R11, R56: a link supervision timer that runs out (log 3; not after a valid frame of the same
moment) makes the link LOST: SOURCE_SILENT (2), every field held, the RECORDER values and contributions gone, the NO_SIGNAL
entry of each channel that this leaves without a source, and both bases ESTIMATED, each with its generation where it changes;
a basis timer that runs out does the same to its own record alone. -/
def Obligations.LinkLossAndBasisExpiry : Prop :=
  (∀ s : State, isOut s = true → Lapses .linkSupervisionExpiry (s.rlu.timer ≠ none) (s.rlu.timer = some 0) s ∧
    (Comes .linkSupervisionExpiry (s.rlu.timer ≠ none) (s.rlu.timer = some 0) s → ∃ t, exec .linkSupervisionExpiry s = .next t ∧
    t.rlu = { s.rlu with
      live := false, timer := none
      vehicle := { s.rlu.vehicle with heldSpeed := true, heldDistance := true, heldNotice := true } } ∧
    Posted .sourceSilent 2 s t ∧
    (∀ i, (t.ge.channels.get i).valueR = none ∧ (t.ge.channels.get i).valueD = (s.ge.channels.get i).valueD ∧
      (t.ge.channels.get i).valueS = (s.ge.channels.get i).valueS ∧
      (t.ge.channels.get i).active = (t.ge.channels.get i).select (sourceLive t) ∧
      (t.ge.channels.get i).position = (s.ge.channels.get i).position ∧
      (t.ge.channels.get i).state = (s.ge.channels.get i).state) ∧ SignalsLost s t ∧
    (∀ n, (t.lamps.get n).recorder = none ∧ (t.lamps.get n).loss = lossNow t (t.lamps.get n) ∧
      (t.lamps.get n).writtenD = (s.lamps.get n).writtenD ∧ (t.lamps.get n).writtenS = (s.lamps.get n).writtenS) ∧
    (∀ slot,
      let r := s.aau.record slot
      t.aau.record slot = { r with
        confirmed := false, basisTimer := none, generation := if r.confirmed then r.generation + 1 else r.generation }) ∧
    t.aau.lead = s.aau.lead ∧ OnlyChanges [.gauges, .lamps, .chimes, .recorder, .drivers, .events, .window, .due] s t)) ∧
  ∀ (slot : Slot) (s : State), isOut s = true →
    let timer := (s.aau.record slot).basisTimer
    Lapses (.basisTimerExpiry slot) (timer ≠ none) (timer = some 0) s ∧
    (Comes (.basisTimerExpiry slot) (timer ≠ none) (timer = some 0) s → ∃ t,
    exec (.basisTimerExpiry slot) s = .next t ∧
    t.aau.record slot = { s.aau.record slot with
      confirmed := false, basisTimer := none, generation := (s.aau.record slot).generation + 1 } ∧
    (∀ other, other ≠ slot → t.aau.record other = s.aau.record other) ∧ t.aau.lead = s.aau.lead ∧
    OnlyChanges [.drivers, .due] s t)

/-- R127, R128: the cadence brings a STATUS frame and the next one 1000 ms later; a frame sent to its end lets the next that
waits start, with its contents taken then. A frame lasts ten bit times a character, counted in tenths of a bit (log 15). RLTX
carries the bits of the frame under way, each character from a low start bit through its eight bits, least significant first,
to a high stop bit; it is high once the last stop bit has passed, between frames and in a reset. The cadence's row and the end
of a frame come when they are due or as the sender gives them (log 3). -/
def Obligations.FramesSentInOrder : Prop :=
  ∀ s : State, isOut s = true →
    let sentOut := ∃ f ∈ s.rlu.sending, f.left = 0
    let complete := Comes .transmitComplete (s.rlu.sending ≠ none) sentOut s
    Lapses .statusCadence (s.rlu.cadence ≠ none) (s.rlu.cadence = some 0) s ∧
    Lapses .transmitComplete (s.rlu.sending ≠ none) sentOut s ∧
    (Comes .statusCadence (s.rlu.cadence ≠ none) (s.rlu.cadence = some 0) s → ∃ t,
      exec .statusCadence s = .next t ∧ t.rlu.cadence = some 1000 ∧ FrameDue .status s t ∧
      { t.rlu with cadence := s.rlu.cadence, sending := s.rlu.sending, waiting := s.rlu.waiting } = s.rlu ∧
      OnlyChanges [.recorder, .due] s t) ∧
    (complete → s.rlu.waiting = [] →
      exec .transmitComplete s = .next ((ranBy .transmitComplete s).setRlu { s.rlu with sending := none })) ∧
    (∀ k ∈ s.rlu.waiting.head?, complete → exec .transmitComplete s =
      .next ((ranBy .transmitComplete s).setRlu { s.rlu with
        sending := some { bytes := k.frame s, left := 100 * (k.frame s).length }, waiting := s.rlu.waiting.tail })) ∧
    (s.rlu.sending = none ∨ sentOut → recorderLead s = true) ∧
    (∀ f ∈ s.rlu.sending, f.left ≤ 100 * f.bytes.length → ∀ (n k : Nat) (b : Byte), f.bytes[n]? = some b →
      (100 * f.bytes.length - f.left) / 10 = 10 * n + k →
      (k = 0 → recorderLead s = false) ∧ (∀ i, i < 8 → k = i + 1 → recorderLead s = b.getLsbD i) ∧
      (k = 9 → recorderLead s = true)) ∧
    ∀ u : State, isOut u = false → recorderLead u = true

/-! ### Discrete inputs (chapter 9) -/

/-- R163, R164, R49, R161: SET_INPUT: its checks in order; the six fields replaced, the active state formed from the kept
level, and the input contributions of the old and the new target formed again in one update, where a lamp that becomes mapped
loses its written_D; no edge is posted. That the data bytes of a refused response are 0 is the model's choice (log 7). -/
def Obligations.InputConfigured : Prop :=
  ∀ (p : Port) (a : InputArgs) (s : State), isOut s = true →
    let cmd : Instr := .setInput p a
    let bad := 11 < a.input.toNat ∨ 2 < a.function.toNat ∨ 47 < a.target.toNat ∨ a.lampState = 0 ∨
      3 < a.lampState.toNat ∨ 1 < a.polarity.toNat ∨ 3 < a.edge.toNat
    (p = .d → Refuses cmd p 0x60 .notPermitted s) ∧
    (p = .s → s.window = false → Refuses cmd p 0x60 .locked s) ∧
    (p = .s → s.window = true → bad → Refuses cmd p 0x60 .range s) ∧
    (p = .s → s.window = true → ¬bad → a.input = 0 → Refuses cmd p 0x60 .notPermitted s) ∧
    (p = .s → s.window = true → ¬bad → ∀ i : Fin 12, i ≠ 0 → a.input.toNat = i.val → ∃ t,
      let b := beginFrame p s
      let old := s.inputs.get i
      let new := t.inputs.get i
      let wait := max 1 (min a.debounce.toNat 25)
      let mapped := fun (u : State) (n : Fin 48) => ∃ j, (u.inputs.get j).function = .lamp ∧ (u.inputs.get j).target = n
      let touched := fun n : Fin 48 => (old.function = .lamp ∨ new.function = .lamp) ∧ (n = old.target ∨ n = new.target)
      Answers cmd p 0x60 .ok [a.input, a.function, a.target, a.lampState, a.polarity, byteOf wait, a.edge,
        flagByte [old.raw, old.debounced, new.active]] s t ∧
      new.function = ([.none, .lamp, .event] : List InputFunction).getD a.function.toNat .none ∧
      new.target.val = a.target.toNat ∧
      new.lampState = ([.on, .slow, .fast] : List Lit).getD (a.lampState.toNat - 1) .on ∧
      new.edge = ([.none, .rise, .fall, .both] : List EdgeSelection).getD a.edge.toNat .none ∧
      new = { old with function := new.function, target := new.target, lampState := new.lampState, edge := new.edge,
                       activeHigh := a.polarity = 0, debounce := 10 * wait, active := old.debounced = (a.polarity = 0) } ∧
      (∀ j, j ≠ i → t.inputs.get j = s.inputs.get j) ∧
      (∀ n, touched n → InputFormed t n ∧ (t.lamps.get n).writtenD =
        if mapped t n ∧ ¬mapped s n then none else (b.lamps.get n).writtenD) ∧
      (∀ n, ¬touched n → (t.lamps.get n).stored = (b.lamps.get n).stored) ∧
      (∀ n, { (t.lamps.get n).stored with input := (b.lamps.get n).input, writtenD := (b.lamps.get n).writtenD } =
        (b.lamps.get n).stored) ∧
      LampsUpdated b t ∧ (∀ k : EventKind, k ≠ .chimeDropped → NotPosted k b t) ∧
      OnlyChanges [.inputs, .lamps, .chimes, .events] b t)

/-- R157 to R162: a sample of the twelve inputs is stored and counted against each debounced level; an input whose wait it
completes takes the level as an edge, forms its active state, posts DISCRETE_EDGE where its selection covers the edge, and
hands a changed LAMP input's contribution. DEBOUNCE_COMPLETE is that edge for one input, and none where the levels agree. That
INPUT_SAMPLE makes the edges itself (log 9), the millivolts (log 14), the reading of a sample at exactly 8.0 V or 4.0 V (log 34)
and the command without an edge (log 3) are the model's choices. -/
def Obligations.SamplesDebounced : Prop :=
  (∀ (millivolts : Tab Int 12) (s : State), isOut s = true → ∃ t, exec (.inputSample millivolts) s = .next t ∧
    t.pins.inputs = millivolts ∧
    (∀ i,
      let r := s.inputs.get i
      let n := t.inputs.get i
      let level := r.reads (millivolts.get i)
      (¬r.Completes (millivolts.get i) → n = { r with raw := level, wait := if level = r.debounced then 0 else r.wait + 1 }) ∧
      (r.Completes (millivolts.get i) →
        n = { r with raw := level, debounced := level, wait := 0, active := level = r.activeHigh } ∧
        (r.function = .lamp → n.active ≠ r.active → InputFormed t r.target) ∧
        (r.Tells level → (∀ j, j ≠ i → ¬((s.inputs.get j).Completes (millivolts.get j) ∧
          (s.inputs.get j).Tells ((s.inputs.get j).reads (millivolts.get j)))) → Posted .discreteEdge i.val s t))) ∧
    ((∀ j, ¬((s.inputs.get j).Completes (millivolts.get j) ∧
      (s.inputs.get j).Tells ((s.inputs.get j).reads (millivolts.get j)))) → NotPosted .discreteEdge s t) ∧
    ((∀ j, ¬(s.inputs.get j).Completes (millivolts.get j)) → OnlyChanges [.inputs, .leads] s t)) ∧
  ∀ (i : Fin 12) (s : State), isOut s = true →
    let r := s.inputs.get i
    (r.raw = r.debounced → exec (.debounceComplete i) s = .next s) ∧
    (r.raw ≠ r.debounced → r.function ≠ .ignition → ∃ t, exec (.debounceComplete i) s = .next t ∧
      t.inputs.get i = { r with debounced := r.raw, wait := 0, active := r.raw = r.activeHigh } ∧
      (∀ j, j ≠ i → t.inputs.get j = s.inputs.get j) ∧
      (r.Tells r.raw → Posted .discreteEdge i.val s t) ∧ (¬r.Tells r.raw → NotPosted .discreteEdge s t) ∧
      (r.function = .lamp → (r.active = true ↔ r.raw ≠ r.activeHigh) → InputFormed t r.target) ∧
      (r.function ≠ .lamp → OnlyChanges [.inputs, .events] s t) ∧
      (∀ n, { (t.lamps.get n).stored with input := (s.lamps.get n).input } = (s.lamps.get n).stored ∧
        (n ≠ r.target → (t.lamps.get n).stored = (s.lamps.get n).stored)) ∧
      LampsUpdated s t ∧ (∀ k : EventKind, k ≠ .discreteEdge → k ≠ .chimeDropped → NotPosted k s t) ∧
      OnlyChanges [.inputs, .lamps, .chimes, .events] s t)

/-! ### The ignition cycle (chapters 2 and 11) -/

/-- R185, R33, R34, R78, R127, R173: the ignition that becomes active in STANDBY or PARKING enters RUN_CHECK: its timer, its
event, the channels that home, sweep or track, INTERNAL's hold, and from STANDBY the supervision timers of LIVE sources and
the STATUS frame with its cadence. -/
def Obligations.IgnitionOnEntersRunCheck : Prop :=
  ∀ (i : Fin 12) (s : State), isOut s = true → s.pwc.state = .standby ∨ s.pwc.state = .parking →
    (s.inputs.get i).function = .ignition → (s.inputs.get i).active = false →
    (s.inputs.get i).raw ≠ (s.inputs.get i).debounced → (s.inputs.get i).raw = (s.inputs.get i).activeHigh → ∃ t,
    exec (.debounceComplete i) s = .next t ∧ (t.inputs.get i).active = true ∧
    t.pwc = { s.pwc with state := .runCheck, ignition := true, selfCheck := .running 3000 } ∧
    Posted .powerState 1 s t ∧ Posted .holdGranted 0 s t ∧
    t.lmd = { s.lmd with hold := { s.lmd.hold with internal := true, active := true, internalTimer := some 3000 } } ∧
    (∀ j,
      let c := s.ge.channels.get j
      let a := t.ge.channels.get j
      let turned := if c.sweepTest then { c with state := .sweepUp, target := c.sweepLimit }
        else { c with state := .tracking, target := if c.active = none then 0 else c.target }
      (c.enabled = false → a = c) ∧
      (c.enabled = true → c.state = .unhomed → a = { c with
        state := .homing, position := 0, speed := 0, target := 0, direction := .down, overdrive := c.sweepLimit + 120,
        walk := [] }) ∧
      (c.enabled = true → c.state = .parked ∨ c.state = .parking → a = turned)) ∧
    (s.pwc.state = .standby → t.rlu.cadence = some 1000 ∧ FrameDue .status s t ∧
      { t.rlu with cadence := s.rlu.cadence, sending := s.rlu.sending, waiting := s.rlu.waiting } = s.rlu ∧
      ∀ p, (t.port p).timer = if (s.port p).live then some (10 * (s.port p).period) else (s.port p).timer) ∧
    (s.pwc.state = .parking → t.rlu = s.rlu ∧ ∀ p, (t.port p).timer = (s.port p).timer) ∧
    (∀ p, (t.port p).live = (s.port p).live ∧ (t.port p).response = (s.port p).response) ∧
    (∀ k : EventKind, k ≠ .powerState → k ≠ .holdGranted → NotPosted k s t) ∧
    OnlyChanges [.gauges, .matrix, .recorder, .inputs, .events, .ports, .power] s t

/-- R187, R38, R68, R81, R90, R92, R128, R173: the ignition that becomes inactive in RUN_CHECK or RUN leaves for PARKING where
a channel has a way to run, and for STANDBY otherwise: channels park or abort, the matrix goes dark, the hold ends, the chimes
and the tone stop, and into STANDBY the timers stop and the STANDBY frame falls due. -/
def Obligations.IgnitionOffLeavesCycle : Prop :=
  ∀ (i : Fin 12) (s : State), isOut s = true → s.pwc.state = .runCheck ∨ s.pwc.state = .run →
    (s.inputs.get i).function = .ignition → (s.inputs.get i).active = true →
    (s.inputs.get i).raw ≠ (s.inputs.get i).debounced → (s.inputs.get i).raw ≠ (s.inputs.get i).activeHigh → ∃ t,
    exec (.debounceComplete i) s = .next t ∧
    let runs := fun c : Channel => c.state = .tracking ∨ c.state = .sweepUp ∨ c.state = .sweepDown
    let parks := ∃ j, runs (s.ge.channels.get j) ∨ (s.ge.channels.get j).state = .parking
    (t.inputs.get i).active = false ∧
    t.pwc = { s.pwc with
      state := if parks then .parking else .standby, ignition := false, selfCheck := .stopped } ∧
    Posted .powerState (if parks then 3 else 0) s t ∧
    (∀ j,
      let c := s.ge.channels.get j
      let a := t.ge.channels.get j
      (runs c → a = { c with state := .parking, target := 0 }) ∧
      (c.state = .homing → a = { c with
        state := .unhomed, overdrive := 0, position := 0, speed := 0, target := 0, direction := .up, walk := [] }) ∧
      (¬runs c → c.state ≠ .homing → a = c)) ∧
    t.lmd = { s.lmd with plan := t.lmd.plan, hold := t.lmd.hold, scanning := false } ∧ (∀ n, t.lmd.plan.get n = none) ∧
    t.lmd.hold = ⟨false, false, false, false, none, none⟩ ∧
    (if s.lmd.hold.active then Posted .holdEnded 0 s t else NotPosted .holdEnded s t) ∧
    t.cu = { s.cu with queue := [], playing := none, gap := none, tone := none } ∧
    (s.pwc.state = .run → GaugeFormed t) ∧ (s.pwc.state = .runCheck → t.lamps = s.lamps) ∧
    (∀ n, { (t.lamps.get n).stored with gauge := (s.lamps.get n).gauge } = (s.lamps.get n).stored) ∧
    (¬parks → Quiesced s t) ∧ (parks → t.rlu = s.rlu ∧ ∀ p, (t.port p).timer = (s.port p).timer) ∧
    (∀ p, (t.port p).live = (s.port p).live ∧ (t.port p).response = (s.port p).response) ∧
    (∀ k : EventKind, k ≠ .powerState → k ≠ .holdEnded → NotPosted k s t) ∧
    OnlyChanges [.gauges, .lamps, .matrix, .chimes, .recorder, .inputs, .events, .ports, .power] s t

/-- R186, R188, R14, R40: RUN is entered at the later of the self-check timer's end and check complete, STANDBY when parking
completes: the expiry acts on the first, and a motion interval on both (log 3 says when their commands stand for them). -/
def Obligations.CheckAndParkingComplete : Prop :=
  (∀ s : State, isOut s = true →
    Lapses .selfCheckTimerExpiry (∃ n, s.pwc.selfCheck = .running n) (s.pwc.selfCheck = .running 0) s ∧
    (s.pwc.state = .runCheck →
    Comes .selfCheckTimerExpiry (∃ n, s.pwc.selfCheck = .running n) (s.pwc.selfCheck = .running 0) s → ∃ t,
    exec .selfCheckTimerExpiry s = .next t ∧
    (¬CheckComplete s → t = (ranBy .selfCheckTimerExpiry s).setPwc { s.pwc with selfCheck := .runOut }) ∧
    (CheckComplete s → t.pwc = { s.pwc with state := .run, selfCheck := .stopped } ∧ Posted .powerState 2 s t ∧
      GaugeFormed t ∧ (∀ k : EventKind, k ≠ .powerState → k ≠ .chimeDropped → NotPosted k s t) ∧
      t.cu.tone = (if toneDue t then some (s.cu.tone.getD 0) else none) ∧
      OnlyChanges [.lamps, .chimes, .events, .power, .due] s t))) ∧
  ∀ s : State, isOut s = true → s.pwc.supplyLow = false → Comes .motionInterval True (2 ≤ s.ge.motionTime) s → ∃ t,
    exec .motionInterval s = .next t ∧
    let runs := s.pwc.state = .runCheck ∧ s.pwc.selfCheck = .runOut ∧ CheckComplete t
    let rests := s.pwc.state = .parking ∧ ParkingComplete t
    (runs → t.pwc = { s.pwc with state := .run, selfCheck := .stopped } ∧ Posted .powerState 2 s t ∧ GaugeFormed t) ∧
    (rests → t.pwc = { s.pwc with state := .standby } ∧ Posted .powerState 0 s t ∧ Quiesced s t) ∧
    (¬runs → ¬rests → t.pwc = s.pwc ∧ NotPosted .powerState s t ∧ OnlyChanges [.gauges, .events, .due] s t)

/-- R189, R32, R42, R43, R91: the supply state follows the battery: LOW after 20 measurements in a row below 16.0 V, NORMAL
after 20 above 17.0 V. LOW stops every moving pointer where it is, its coils at once at the index of P or H (also within the
2 ms of an interval, whose walk is the model's, log 21), and mutes the sounder, with SUPPLY_LOW (1); while it lasts a motion
interval (log 3) changes no channel and the coils hold their indices; NORMAL unmutes, with SUPPLY_LOW (0). That
VBS_MEASUREMENT changes the state itself (log 9) and the millivolts (log 14) are the model's choices. -/
def Obligations.SupplyStateFollowsBattery : Prop :=
  ∀ (millivolts : Nat) (s : State), isOut s = true →
    let low := s.pwc.supplyLow
    let beyond := (low = false ∧ millivolts < 16000) ∨ (low = true ∧ 17000 < millivolts)
    let wait := if beyond then s.pwc.supplyWait + 1 else 0
    let measured := s.setPins { s.pins with battery := millivolts }
    (wait < 20 → exec (.vbsMeasurement millivolts) s = .next (measured.setPwc { s.pwc with supplyWait := wait })) ∧
    (20 ≤ wait → low = false → exec (.vbsMeasurement millivolts) s = exec .supplyLowEntered measured) ∧
    (20 ≤ wait → low = true → exec (.vbsMeasurement millivolts) s = exec .supplyLowLeft measured) ∧
    (low = false → ∃ t, exec .supplyLowEntered s = .next t ∧ t.pwc = { s.pwc with supplyLow := true, supplyWait := 0 } ∧
      t.cu = { s.cu with muted := true } ∧ Posted .supplyLow 1 s t ∧
      (∀ i,
        let c := s.ge.channels.get i
        t.ge.channels.get i =
          if c.state = .unhomed ∨ c.state = .homing ∨ c.state = .parked then { c with walk := [] }
          else { c with speed := 0, walk := [] }) ∧
      (∀ i micros, coilDuring t i micros = coilLead s i) ∧
      t.ge.filterTime = s.ge.filterTime ∧ t.ge.motionTime = s.ge.motionTime ∧
      (∀ k : EventKind, k ≠ .supplyLow → NotPosted k s t) ∧ OnlyChanges [.gauges, .chimes, .events, .power] s t) ∧
    (low = true → ∃ t, exec .supplyLowLeft s = .next t ∧ t.pwc = { s.pwc with supplyLow := false, supplyWait := 0 } ∧
      t.cu = { s.cu with muted := false } ∧ Posted .supplyLow 0 s t ∧
      (∀ k : EventKind, k ≠ .supplyLow → NotPosted k s t) ∧ OnlyChanges [.chimes, .events, .power] s t) ∧
    (low = true → Comes .motionInterval True (2 ≤ s.ge.motionTime) s → ∃ t, exec .motionInterval s = .next t ∧
      t.ge.channels = s.ge.channels ∧ t.ge.filterTime = s.ge.filterTime ∧ t.ge.motionTime = 0 ∧
      (∀ i micros, coilDuring t i micros = coilLead s i) ∧ OnlyChanges [.gauges, .due] s t)

/-! ### The wire (chapter 12) -/

/-- R3, R166, R167, R193 to R195: the frame of every well-formed port command, clocked in bit by bit, makes that command with
every operand; with any one byte changed or any other count of bits it is not taken. The payload of every recorder command has
the length of its TYPE and is read back as that command. -/
def Obligations.FramesSpellTheirCommands : Prop :=
  (∀ (i : Instr) (f : List Byte), i.wellFormed = true → encodeRequest i = some f → ∃ p body,
    requestBytes i = some (p, body) ∧ f.length = 24 ∧ decodePeriod p (frameBits f) = i ∧
    (∀ (k : Fin 24) (v : Byte), f[k]? ≠ some v → decodeRequest p 192 (f.set k v) = .badFrame p) ∧
    ∀ bits : Nat, bits ≠ 192 → decodeRequest p bits f = .badFrame p) ∧
  ∀ (i : Instr) (type : Byte) (payload : List Byte), recorderPayload i = some (type, payload) →
    recorderLength type = some payload.length ∧ decodeRecorder type payload = some i

/-! ### The leads -/

/-- R31, R32, R66, R68, R84, R91, R166, R168, R183, R190: every output lead as the state gives it: the coils with their phase
index and currents, in mA, at R31's table and over a whole turn; the rows in their slots, the columns for their on-times; the
sounder; the event lines; the data outputs with the pending response bit by bit and 00h after it; and all of them released in
a reset. That the leads are functions of the state (log 17), the sounder a frequency in Hz (log 25), and the bits of a low
period that is no frame free (log 30) are the model's choices. -/
def Obligations.OutputLeadsFollowState : Prop :=
  (let root : ℝ := Real.sqrt 2 / 2
    ∀ k : Nat, let a := fun n : Nat => (CoilDrive.energized (k + n)).currentA
      let b := fun n : Nat => (CoilDrive.energized (k + n)).currentB
      a 0 ^ 2 + b 0 ^ 2 = 25 ^ 2 ∧ a 48 = a 0 ∧ b 48 = b 0 ∧ a 12 = b 0 ∧ b 12 = -a 0 ∧
      (k = 0 → (a 0 = 0 ∧ b 0 = 25) ∧ (a 6 = 25 * root ∧ b 6 = 25 * root) ∧ (a 12 = 25 ∧ b 12 = 0) ∧
        (a 18 = 25 * root ∧ b 18 = -(25 * root)) ∧ (a 24 = 0 ∧ b 24 = -25) ∧
        (a 30 = -(25 * root) ∧ b 30 = -(25 * root)) ∧ (a 36 = -25 ∧ b 36 = 0) ∧
        (a 42 = -(25 * root) ∧ b 42 = 25 * root))) ∧
  CoilDrive.released.currentA = 0 ∧ CoilDrive.released.currentB = 0 ∧
  (∀ s : State, isOut s = true →
    (∀ i, let c := s.ge.channels.get i
      (c.state = .unhomed ∨ c.state = .parked → coilLead s i = .released) ∧
      (c.state = .homing → coilLead s i = .energized (c.overdrive % 48)) ∧
      (c.state = .sweepUp ∨ c.state = .sweepDown ∨ c.state = .tracking ∨ c.state = .parking →
        coilLead s i = .energized (c.position % 48)) ∧
      ∀ micros, (coilLead s i = .released → coilDuring s i micros = .released) ∧
        (s.pwc.supplyLow = true ∨ 2000 ≤ micros → coilDuring s i micros = coilLead s i)) ∧
    (∀ r : Fin 6, rowLead s r = true ↔ s.lmd.scanning = true ∧ s.lmd.slot = r.val) ∧
    (∀ (col : Fin 8) (micros : Nat), columnSinks s col micros = true ↔
      ∃ n : Fin 48, n.val = 8 * s.lmd.slot + col.val ∧ ∃ d ∈ s.lmd.plan.get n, 16 * micros < 1000 * d) ∧
    (s.cu.muted = true → sounderLead s = none) ∧
    (s.cu.muted = false → ∀ q ∈ s.cu.playing, sounderLead s = match q.chime.sound with
      | .tick => if q.elapsed < 20 then some 2400 else none
      | .tock => if q.elapsed < 20 then some 800 else none
      | .single => if q.elapsed < 400 then some 1600 else none
      | .triple => if q.elapsed < 200 ∨ (350 ≤ q.elapsed ∧ q.elapsed < 550) ∨ (700 ≤ q.elapsed ∧ q.elapsed < 900)
          then some 1600 else none) ∧
    (s.cu.muted = false → s.cu.playing = none → sounderLead s = match s.cu.tone with
      | some n => if n % 1000 < 500 then some 1200 else none
      | none => none) ∧
    ∀ p, (eventLead s p = true ↔ ∃ k, ((s.port p).events.get k).count ≠ 0) ∧
      ((s.spi p).selected = false → dataLead s p = none) ∧
      ((s.spi p).selected = true → ∀ b, (s.spi p).status = some b →
        let frame := sealFrame ([b, (s.port p).response.command, (s.port p).response.result.code] ++
          (s.port p).response.data.val)
        (∀ (n : Nat) (k : Fin 8), n < 24 → (s.spi p).bits.length = 8 * n + k.val →
          dataLead s p = some ((byteAt frame n).getMsbD k.val)) ∧
        (192 ≤ (s.spi p).bits.length → dataLead s p = some false))) ∧
  ∀ s : State, isOut s = false → (∀ i micros, coilLead s i = .released ∧ coilDuring s i micros = .released) ∧
    (∀ r, rowLead s r = false) ∧
    (∀ col micros, columnSinks s col micros = false) ∧ sounderLead s = none ∧
    ∀ p, eventLead s p = false ∧ dataLead s p = none

/-- R166, R169, R114, R190: what the input leads make. A chip select low period that falls out of reset is a frame: it puts
the command of its bits in the queue, with the status byte of its falling edge and its count of bits kept for it; one that
falls in a reset is no frame, whenever it rises, and a reset cuts the frame under way. The line from the recorder: ten samples
from a start edge are one character, least significant bit first, with a framing error where the stop bit is low; after a
framing error each ten low samples more are another, and one high sample ends the break; after a reset nothing is received
before one high sample. VDD5 below 4.3 V and RST_N low for 1 µs make their causes, and the end of the last of the two the row
that starts the hold. That bits enter as samples at the leads, each character, frame and cause at the back of the queue, is
the model's choice (log 16, log 22). -/
def Obligations.InputLinesMakeCommands : Prop :=
  (∀ (p : Port) (bits : List Bool) (s : State), (s.spi p).selected = false →
    let ends := fun ended : List FrameEnd =>
      s.setSpi p { s.spi p with selected := false, status := none, bits := [], ended }
    (isOut s = true → lowPeriod p bits s = (ends ((s.spi p).ended ++ [⟨statusByte s p, bits.length⟩])).setPending
      (s.pending ++ [decodePeriod p bits])) ∧
    (isOut s = false → lowPeriod p bits s = ends (s.spi p).ended)) ∧
  (∀ (p : Port) (bits : List Bool) (s t : State), (s.spi p).selected = true → (s.spi p).status = none →
    bits.foldl (fun s b => clockBit p b s) s = t → selectRises p t =
      s.setSpi p { s.spi p with selected := false, status := none, bits := [] }) ∧
  (∀ (p : Port) (s t : State), exec .powerOnReset s = .next t ∨ exec .pinReset s = .next t →
    (t.spi p).status = none ∧ (t.spi p).ended = [] ∧ (t.spi p).selected = (s.spi p).selected) ∧
  (∀ (char : Byte) (err : Bool) (s : State), isOut s = true → s.rlu.receiver = .idle →
    lineBits ([false] ++ (List.range 8).map char.getLsbD ++ [!err]) s =
      (s.setRlu { s.rlu with receiver := if err then .broken 0 else .idle }).setPending
        (s.pending ++ [.characterReceived char err])) ∧
  (∀ s : State, isOut s = true →
    (s.rlu.receiver = .waiting ∨ s.rlu.receiver = .idle ∨ (∃ n, s.rlu.receiver = .broken n) →
      lineBit true s = s.setRlu { s.rlu with receiver := .idle }) ∧
    (s.rlu.receiver = .waiting → ∀ n, lineBits (List.replicate n false) s = s) ∧
    (s.rlu.receiver = .broken 0 → lineBits (List.replicate 10 false) s =
      s.setPending (s.pending ++ [.characterReceived 0 true]))) ∧
  ∀ (millivolts nanos : Nat) (s : State),
    let put := fun (vdd rst : Bool) (l : List Instr) =>
      (s.setPins { s.pins with vdd5Low := vdd, rstLow := rst }).setPending (s.pending ++ l)
    (s.pins.vdd5Low = false → vdd5Lead millivolts s =
      if millivolts < 4300 then put true s.pins.rstLow [.powerOnReset] else s) ∧
    (s.pins.vdd5Low = true → vdd5Lead millivolts s =
      if 4400 < millivolts then put false s.pins.rstLow (if s.pins.rstLow then [] else [.resetCauseEnd]) else s) ∧
    (s.pins.rstLow = false → rstRises s = s ∧
      rstFalls nanos s = if nanos < 1000 then s else put s.pins.vdd5Low true [.pinReset]) ∧
    (s.pins.rstLow = true → rstFalls nanos s = s ∧
      rstRises s = put s.pins.vdd5Low false (if s.pins.vdd5Low then [] else [.resetCauseEnd]))

/-! ### What every step keeps -/

/-- Right after reset every record of the part is sound. -/
def Obligations.ResetIsSound : Prop :=
  State.reset.gaugesSound = true ∧ State.reset.sourcesFollowed = true ∧ State.reset.windowSound = true ∧
    State.reset.lampsSound = true ∧ State.reset.handedAll = true ∧ State.reset.matrixSound = true ∧
    State.reset.chimesSound = true ∧ State.reset.clockSound = true ∧ State.reset.driversSound = true ∧
    State.reset.inputsSound = true ∧ State.reset.eventsSound = true ∧ State.reset.cycleSound = true ∧
    State.reset.timersSound = true ∧ State.reset.heldSound = true

/-- R4 to R44, R175, R176: every step, from any state, keeps each channel record within its ranges with its running state as
its rules leave it, keeps each channel on the first LIVE entry of its list that holds a value, and never leaves the config
window open at a vehicle speed of 1 km/h or more. -/
def Obligations.EveryStepKeepsGaugesSound : Prop :=
  ∀ s t : State, step s = .next t → (s.gaugesSound = true → t.gaugesSound = true) ∧
    (s.sourcesFollowed = true → t.sourcesFollowed = true) ∧ (s.windowSound = true → t.windowSound = true)

/-- R156 to R160, R184 to R188: every step keeps each input record sound, and the ignition cycle: DI0's active state is the
ignition, which is active exactly in RUN_CHECK and RUN, and each channel stands in a state that the power state allows. -/
def Obligations.EveryStepKeepsCycleSound : Prop :=
  ∀ s t : State, step s = .next t → (s.inputsSound = true → t.inputsSound = true) ∧
    (s.cycleSound = true → t.cycleSound = true)

/-- R47 to R62, R14, R144, R161: every step keeps each lamp resolved to its most prominent contribution, and every
contribution that a block forms as the block would now form it. -/
def Obligations.EveryStepKeepsLampsSound : Prop :=
  ∀ s t : State, step s = .next t → (s.lampsSound = true → t.lampsSound = true) ∧
    (s.handedAll = true → t.handedAll = true)

/-- R66 to R81, R83 to R92: every step keeps the matrix within its ranges and dark outside RUN_CHECK and RUN, with a hold that
its holders keep; and keeps the chime queue ordered, bounded and silent outside RUN_CHECK and RUN, with the tone and the mute
exactly as their conditions stand. -/
def Obligations.EveryStepKeepsMatrixAndChimesSound : Prop :=
  ∀ s t : State, step s = .next t → (s.matrixSound = true → t.matrixSound = true) ∧
    (s.chimesSound = true → t.chimesSound = true)

/-- R96, R107, R130, R143, R146, R152, R190: every step keeps the clock on a legal date with the weekday of that date, each
driver record within its ranges with the warning that its counts give, and a part held in reset at its reset values. -/
def Obligations.EveryStepKeepsAccountsSound : Prop :=
  ∀ s t : State, step s = .next t → (s.clockSound = true → t.clockSound = true) ∧
    (s.driversSound = true → t.driversSound = true) ∧ (s.heldSound = true → t.heldSound = true)

/-- R171, R173, R179, R181, R118, R127: every step keeps the event tables sound, with the levels that R179 fixes at Port S,
and each supervision timer running exactly while its source is LIVE and, for a port, the part is outside STANDBY. -/
def Obligations.EveryStepKeepsPortsSound : Prop :=
  ∀ s t : State, step s = .next t → (s.eventsSound = true → t.eventsSound = true) ∧
    (s.timersSound = true → t.timersSound = true)
end

