-- ==== Sys2Proof/Laws/State.lean ====
section
/-! SUPPORT. What each replacement of one block of State gives in every field: one lemma per field per replacement. -/
namespace Sys2Proof.Machine.State

section setGe
variable (s : State) (v : GaugeEngine)
@[simp] theorem setGe_ge : (s.setGe v).ge = v := rfl
@[simp] theorem setGe_lamps : (s.setGe v).lamps = s.lamps := rfl
@[simp] theorem setGe_lmd : (s.setGe v).lmd = s.lmd := rfl
@[simp] theorem setGe_cu : (s.setGe v).cu = s.cu := rfl
@[simp] theorem setGe_cc : (s.setGe v).cc = s.cc := rfl
@[simp] theorem setGe_rlu : (s.setGe v).rlu = s.rlu := rfl
@[simp] theorem setGe_aau : (s.setGe v).aau = s.aau := rfl
@[simp] theorem setGe_inputs : (s.setGe v).inputs = s.inputs := rfl
@[simp] theorem setGe_portD : (s.setGe v).portD = s.portD := rfl
@[simp] theorem setGe_portS : (s.setGe v).portS = s.portS := rfl
@[simp] theorem setGe_window : (s.setGe v).window = s.window := rfl
@[simp] theorem setGe_pwc : (s.setGe v).pwc = s.pwc := rfl
@[simp] theorem setGe_rst : (s.setGe v).rst = s.rst := rfl
@[simp] theorem setGe_pins : (s.setGe v).pins = s.pins := rfl
@[simp] theorem setGe_choices : (s.setGe v).choices = s.choices := rfl
@[simp] theorem setGe_due : (s.setGe v).due = s.due := rfl
@[simp] theorem setGe_pending : (s.setGe v).pending = s.pending := rfl
@[simp] theorem setGe_port (p : Port) : (s.setGe v).port p = s.port p := by cases p <;> rfl
@[simp] theorem setGe_spi (p : Port) : (s.setGe v).spi p = s.spi p := by cases p <;> rfl
@[simp] theorem setGe_self : s.setGe s.ge = s := rfl
@[simp] theorem setGe_setGe (w : GaugeEngine) : (s.setGe v).setGe w = s.setGe w := rfl
end setGe

section setLamps
variable (s : State) (v : Tab Lamp 48)
@[simp] theorem setLamps_ge : (s.setLamps v).ge = s.ge := rfl
@[simp] theorem setLamps_lamps : (s.setLamps v).lamps = v := rfl
@[simp] theorem setLamps_lmd : (s.setLamps v).lmd = s.lmd := rfl
@[simp] theorem setLamps_cu : (s.setLamps v).cu = s.cu := rfl
@[simp] theorem setLamps_cc : (s.setLamps v).cc = s.cc := rfl
@[simp] theorem setLamps_rlu : (s.setLamps v).rlu = s.rlu := rfl
@[simp] theorem setLamps_aau : (s.setLamps v).aau = s.aau := rfl
@[simp] theorem setLamps_inputs : (s.setLamps v).inputs = s.inputs := rfl
@[simp] theorem setLamps_portD : (s.setLamps v).portD = s.portD := rfl
@[simp] theorem setLamps_portS : (s.setLamps v).portS = s.portS := rfl
@[simp] theorem setLamps_window : (s.setLamps v).window = s.window := rfl
@[simp] theorem setLamps_pwc : (s.setLamps v).pwc = s.pwc := rfl
@[simp] theorem setLamps_rst : (s.setLamps v).rst = s.rst := rfl
@[simp] theorem setLamps_pins : (s.setLamps v).pins = s.pins := rfl
@[simp] theorem setLamps_choices : (s.setLamps v).choices = s.choices := rfl
@[simp] theorem setLamps_due : (s.setLamps v).due = s.due := rfl
@[simp] theorem setLamps_pending : (s.setLamps v).pending = s.pending := rfl
@[simp] theorem setLamps_port (p : Port) : (s.setLamps v).port p = s.port p := by cases p <;> rfl
@[simp] theorem setLamps_spi (p : Port) : (s.setLamps v).spi p = s.spi p := by cases p <;> rfl
@[simp] theorem setLamps_self : s.setLamps s.lamps = s := rfl
@[simp] theorem setLamps_setLamps (w : Tab Lamp 48) : (s.setLamps v).setLamps w = s.setLamps w := rfl
end setLamps

section setLmd
variable (s : State) (v : LampMatrix)
@[simp] theorem setLmd_ge : (s.setLmd v).ge = s.ge := rfl
@[simp] theorem setLmd_lamps : (s.setLmd v).lamps = s.lamps := rfl
@[simp] theorem setLmd_lmd : (s.setLmd v).lmd = v := rfl
@[simp] theorem setLmd_cu : (s.setLmd v).cu = s.cu := rfl
@[simp] theorem setLmd_cc : (s.setLmd v).cc = s.cc := rfl
@[simp] theorem setLmd_rlu : (s.setLmd v).rlu = s.rlu := rfl
@[simp] theorem setLmd_aau : (s.setLmd v).aau = s.aau := rfl
@[simp] theorem setLmd_inputs : (s.setLmd v).inputs = s.inputs := rfl
@[simp] theorem setLmd_portD : (s.setLmd v).portD = s.portD := rfl
@[simp] theorem setLmd_portS : (s.setLmd v).portS = s.portS := rfl
@[simp] theorem setLmd_window : (s.setLmd v).window = s.window := rfl
@[simp] theorem setLmd_pwc : (s.setLmd v).pwc = s.pwc := rfl
@[simp] theorem setLmd_rst : (s.setLmd v).rst = s.rst := rfl
@[simp] theorem setLmd_pins : (s.setLmd v).pins = s.pins := rfl
@[simp] theorem setLmd_choices : (s.setLmd v).choices = s.choices := rfl
@[simp] theorem setLmd_due : (s.setLmd v).due = s.due := rfl
@[simp] theorem setLmd_pending : (s.setLmd v).pending = s.pending := rfl
@[simp] theorem setLmd_port (p : Port) : (s.setLmd v).port p = s.port p := by cases p <;> rfl
@[simp] theorem setLmd_spi (p : Port) : (s.setLmd v).spi p = s.spi p := by cases p <;> rfl
@[simp] theorem setLmd_self : s.setLmd s.lmd = s := rfl
@[simp] theorem setLmd_setLmd (w : LampMatrix) : (s.setLmd v).setLmd w = s.setLmd w := rfl
end setLmd

section setCu
variable (s : State) (v : ChimeUnit)
@[simp] theorem setCu_ge : (s.setCu v).ge = s.ge := rfl
@[simp] theorem setCu_lamps : (s.setCu v).lamps = s.lamps := rfl
@[simp] theorem setCu_lmd : (s.setCu v).lmd = s.lmd := rfl
@[simp] theorem setCu_cu : (s.setCu v).cu = v := rfl
@[simp] theorem setCu_cc : (s.setCu v).cc = s.cc := rfl
@[simp] theorem setCu_rlu : (s.setCu v).rlu = s.rlu := rfl
@[simp] theorem setCu_aau : (s.setCu v).aau = s.aau := rfl
@[simp] theorem setCu_inputs : (s.setCu v).inputs = s.inputs := rfl
@[simp] theorem setCu_portD : (s.setCu v).portD = s.portD := rfl
@[simp] theorem setCu_portS : (s.setCu v).portS = s.portS := rfl
@[simp] theorem setCu_window : (s.setCu v).window = s.window := rfl
@[simp] theorem setCu_pwc : (s.setCu v).pwc = s.pwc := rfl
@[simp] theorem setCu_rst : (s.setCu v).rst = s.rst := rfl
@[simp] theorem setCu_pins : (s.setCu v).pins = s.pins := rfl
@[simp] theorem setCu_choices : (s.setCu v).choices = s.choices := rfl
@[simp] theorem setCu_due : (s.setCu v).due = s.due := rfl
@[simp] theorem setCu_pending : (s.setCu v).pending = s.pending := rfl
@[simp] theorem setCu_port (p : Port) : (s.setCu v).port p = s.port p := by cases p <;> rfl
@[simp] theorem setCu_spi (p : Port) : (s.setCu v).spi p = s.spi p := by cases p <;> rfl
@[simp] theorem setCu_self : s.setCu s.cu = s := rfl
@[simp] theorem setCu_setCu (w : ChimeUnit) : (s.setCu v).setCu w = s.setCu w := rfl
end setCu

section setCc
variable (s : State) (v : Clock)
@[simp] theorem setCc_ge : (s.setCc v).ge = s.ge := rfl
@[simp] theorem setCc_lamps : (s.setCc v).lamps = s.lamps := rfl
@[simp] theorem setCc_lmd : (s.setCc v).lmd = s.lmd := rfl
@[simp] theorem setCc_cu : (s.setCc v).cu = s.cu := rfl
@[simp] theorem setCc_cc : (s.setCc v).cc = v := rfl
@[simp] theorem setCc_rlu : (s.setCc v).rlu = s.rlu := rfl
@[simp] theorem setCc_aau : (s.setCc v).aau = s.aau := rfl
@[simp] theorem setCc_inputs : (s.setCc v).inputs = s.inputs := rfl
@[simp] theorem setCc_portD : (s.setCc v).portD = s.portD := rfl
@[simp] theorem setCc_portS : (s.setCc v).portS = s.portS := rfl
@[simp] theorem setCc_window : (s.setCc v).window = s.window := rfl
@[simp] theorem setCc_pwc : (s.setCc v).pwc = s.pwc := rfl
@[simp] theorem setCc_rst : (s.setCc v).rst = s.rst := rfl
@[simp] theorem setCc_pins : (s.setCc v).pins = s.pins := rfl
@[simp] theorem setCc_choices : (s.setCc v).choices = s.choices := rfl
@[simp] theorem setCc_due : (s.setCc v).due = s.due := rfl
@[simp] theorem setCc_pending : (s.setCc v).pending = s.pending := rfl
@[simp] theorem setCc_port (p : Port) : (s.setCc v).port p = s.port p := by cases p <;> rfl
@[simp] theorem setCc_spi (p : Port) : (s.setCc v).spi p = s.spi p := by cases p <;> rfl
@[simp] theorem setCc_self : s.setCc s.cc = s := rfl
@[simp] theorem setCc_setCc (w : Clock) : (s.setCc v).setCc w = s.setCc w := rfl
end setCc

section setRlu
variable (s : State) (v : RecorderLink)
@[simp] theorem setRlu_ge : (s.setRlu v).ge = s.ge := rfl
@[simp] theorem setRlu_lamps : (s.setRlu v).lamps = s.lamps := rfl
@[simp] theorem setRlu_lmd : (s.setRlu v).lmd = s.lmd := rfl
@[simp] theorem setRlu_cu : (s.setRlu v).cu = s.cu := rfl
@[simp] theorem setRlu_cc : (s.setRlu v).cc = s.cc := rfl
@[simp] theorem setRlu_rlu : (s.setRlu v).rlu = v := rfl
@[simp] theorem setRlu_aau : (s.setRlu v).aau = s.aau := rfl
@[simp] theorem setRlu_inputs : (s.setRlu v).inputs = s.inputs := rfl
@[simp] theorem setRlu_portD : (s.setRlu v).portD = s.portD := rfl
@[simp] theorem setRlu_portS : (s.setRlu v).portS = s.portS := rfl
@[simp] theorem setRlu_window : (s.setRlu v).window = s.window := rfl
@[simp] theorem setRlu_pwc : (s.setRlu v).pwc = s.pwc := rfl
@[simp] theorem setRlu_rst : (s.setRlu v).rst = s.rst := rfl
@[simp] theorem setRlu_pins : (s.setRlu v).pins = s.pins := rfl
@[simp] theorem setRlu_choices : (s.setRlu v).choices = s.choices := rfl
@[simp] theorem setRlu_due : (s.setRlu v).due = s.due := rfl
@[simp] theorem setRlu_pending : (s.setRlu v).pending = s.pending := rfl
@[simp] theorem setRlu_port (p : Port) : (s.setRlu v).port p = s.port p := by cases p <;> rfl
@[simp] theorem setRlu_spi (p : Port) : (s.setRlu v).spi p = s.spi p := by cases p <;> rfl
@[simp] theorem setRlu_self : s.setRlu s.rlu = s := rfl
@[simp] theorem setRlu_setRlu (w : RecorderLink) : (s.setRlu v).setRlu w = s.setRlu w := rfl
end setRlu

section setAau
variable (s : State) (v : Accounting)
@[simp] theorem setAau_ge : (s.setAau v).ge = s.ge := rfl
@[simp] theorem setAau_lamps : (s.setAau v).lamps = s.lamps := rfl
@[simp] theorem setAau_lmd : (s.setAau v).lmd = s.lmd := rfl
@[simp] theorem setAau_cu : (s.setAau v).cu = s.cu := rfl
@[simp] theorem setAau_cc : (s.setAau v).cc = s.cc := rfl
@[simp] theorem setAau_rlu : (s.setAau v).rlu = s.rlu := rfl
@[simp] theorem setAau_aau : (s.setAau v).aau = v := rfl
@[simp] theorem setAau_inputs : (s.setAau v).inputs = s.inputs := rfl
@[simp] theorem setAau_portD : (s.setAau v).portD = s.portD := rfl
@[simp] theorem setAau_portS : (s.setAau v).portS = s.portS := rfl
@[simp] theorem setAau_window : (s.setAau v).window = s.window := rfl
@[simp] theorem setAau_pwc : (s.setAau v).pwc = s.pwc := rfl
@[simp] theorem setAau_rst : (s.setAau v).rst = s.rst := rfl
@[simp] theorem setAau_pins : (s.setAau v).pins = s.pins := rfl
@[simp] theorem setAau_choices : (s.setAau v).choices = s.choices := rfl
@[simp] theorem setAau_due : (s.setAau v).due = s.due := rfl
@[simp] theorem setAau_pending : (s.setAau v).pending = s.pending := rfl
@[simp] theorem setAau_port (p : Port) : (s.setAau v).port p = s.port p := by cases p <;> rfl
@[simp] theorem setAau_spi (p : Port) : (s.setAau v).spi p = s.spi p := by cases p <;> rfl
@[simp] theorem setAau_self : s.setAau s.aau = s := rfl
@[simp] theorem setAau_setAau (w : Accounting) : (s.setAau v).setAau w = s.setAau w := rfl
end setAau

section setInputs
variable (s : State) (v : Tab InputRecord 12)
@[simp] theorem setInputs_ge : (s.setInputs v).ge = s.ge := rfl
@[simp] theorem setInputs_lamps : (s.setInputs v).lamps = s.lamps := rfl
@[simp] theorem setInputs_lmd : (s.setInputs v).lmd = s.lmd := rfl
@[simp] theorem setInputs_cu : (s.setInputs v).cu = s.cu := rfl
@[simp] theorem setInputs_cc : (s.setInputs v).cc = s.cc := rfl
@[simp] theorem setInputs_rlu : (s.setInputs v).rlu = s.rlu := rfl
@[simp] theorem setInputs_aau : (s.setInputs v).aau = s.aau := rfl
@[simp] theorem setInputs_inputs : (s.setInputs v).inputs = v := rfl
@[simp] theorem setInputs_portD : (s.setInputs v).portD = s.portD := rfl
@[simp] theorem setInputs_portS : (s.setInputs v).portS = s.portS := rfl
@[simp] theorem setInputs_window : (s.setInputs v).window = s.window := rfl
@[simp] theorem setInputs_pwc : (s.setInputs v).pwc = s.pwc := rfl
@[simp] theorem setInputs_rst : (s.setInputs v).rst = s.rst := rfl
@[simp] theorem setInputs_pins : (s.setInputs v).pins = s.pins := rfl
@[simp] theorem setInputs_choices : (s.setInputs v).choices = s.choices := rfl
@[simp] theorem setInputs_due : (s.setInputs v).due = s.due := rfl
@[simp] theorem setInputs_pending : (s.setInputs v).pending = s.pending := rfl
@[simp] theorem setInputs_port (p : Port) : (s.setInputs v).port p = s.port p := by cases p <;> rfl
@[simp] theorem setInputs_spi (p : Port) : (s.setInputs v).spi p = s.spi p := by cases p <;> rfl
@[simp] theorem setInputs_self : s.setInputs s.inputs = s := rfl
@[simp] theorem setInputs_setInputs (w : Tab InputRecord 12) : (s.setInputs v).setInputs w = s.setInputs w := rfl
end setInputs

section setWindow
variable (s : State) (v : Bool)
@[simp] theorem setWindow_ge : (s.setWindow v).ge = s.ge := rfl
@[simp] theorem setWindow_lamps : (s.setWindow v).lamps = s.lamps := rfl
@[simp] theorem setWindow_lmd : (s.setWindow v).lmd = s.lmd := rfl
@[simp] theorem setWindow_cu : (s.setWindow v).cu = s.cu := rfl
@[simp] theorem setWindow_cc : (s.setWindow v).cc = s.cc := rfl
@[simp] theorem setWindow_rlu : (s.setWindow v).rlu = s.rlu := rfl
@[simp] theorem setWindow_aau : (s.setWindow v).aau = s.aau := rfl
@[simp] theorem setWindow_inputs : (s.setWindow v).inputs = s.inputs := rfl
@[simp] theorem setWindow_portD : (s.setWindow v).portD = s.portD := rfl
@[simp] theorem setWindow_portS : (s.setWindow v).portS = s.portS := rfl
@[simp] theorem setWindow_window : (s.setWindow v).window = v := rfl
@[simp] theorem setWindow_pwc : (s.setWindow v).pwc = s.pwc := rfl
@[simp] theorem setWindow_rst : (s.setWindow v).rst = s.rst := rfl
@[simp] theorem setWindow_pins : (s.setWindow v).pins = s.pins := rfl
@[simp] theorem setWindow_choices : (s.setWindow v).choices = s.choices := rfl
@[simp] theorem setWindow_due : (s.setWindow v).due = s.due := rfl
@[simp] theorem setWindow_pending : (s.setWindow v).pending = s.pending := rfl
@[simp] theorem setWindow_port (p : Port) : (s.setWindow v).port p = s.port p := by cases p <;> rfl
@[simp] theorem setWindow_spi (p : Port) : (s.setWindow v).spi p = s.spi p := by cases p <;> rfl
@[simp] theorem setWindow_self : s.setWindow s.window = s := rfl
@[simp] theorem setWindow_setWindow (w : Bool) : (s.setWindow v).setWindow w = s.setWindow w := rfl
end setWindow

section setPwc
variable (s : State) (v : Power)
@[simp] theorem setPwc_ge : (s.setPwc v).ge = s.ge := rfl
@[simp] theorem setPwc_lamps : (s.setPwc v).lamps = s.lamps := rfl
@[simp] theorem setPwc_lmd : (s.setPwc v).lmd = s.lmd := rfl
@[simp] theorem setPwc_cu : (s.setPwc v).cu = s.cu := rfl
@[simp] theorem setPwc_cc : (s.setPwc v).cc = s.cc := rfl
@[simp] theorem setPwc_rlu : (s.setPwc v).rlu = s.rlu := rfl
@[simp] theorem setPwc_aau : (s.setPwc v).aau = s.aau := rfl
@[simp] theorem setPwc_inputs : (s.setPwc v).inputs = s.inputs := rfl
@[simp] theorem setPwc_portD : (s.setPwc v).portD = s.portD := rfl
@[simp] theorem setPwc_portS : (s.setPwc v).portS = s.portS := rfl
@[simp] theorem setPwc_window : (s.setPwc v).window = s.window := rfl
@[simp] theorem setPwc_pwc : (s.setPwc v).pwc = v := rfl
@[simp] theorem setPwc_rst : (s.setPwc v).rst = s.rst := rfl
@[simp] theorem setPwc_pins : (s.setPwc v).pins = s.pins := rfl
@[simp] theorem setPwc_choices : (s.setPwc v).choices = s.choices := rfl
@[simp] theorem setPwc_due : (s.setPwc v).due = s.due := rfl
@[simp] theorem setPwc_pending : (s.setPwc v).pending = s.pending := rfl
@[simp] theorem setPwc_port (p : Port) : (s.setPwc v).port p = s.port p := by cases p <;> rfl
@[simp] theorem setPwc_spi (p : Port) : (s.setPwc v).spi p = s.spi p := by cases p <;> rfl
@[simp] theorem setPwc_self : s.setPwc s.pwc = s := rfl
@[simp] theorem setPwc_setPwc (w : Power) : (s.setPwc v).setPwc w = s.setPwc w := rfl
end setPwc

section setRst
variable (s : State) (v : Reset)
@[simp] theorem setRst_ge : (s.setRst v).ge = s.ge := rfl
@[simp] theorem setRst_lamps : (s.setRst v).lamps = s.lamps := rfl
@[simp] theorem setRst_lmd : (s.setRst v).lmd = s.lmd := rfl
@[simp] theorem setRst_cu : (s.setRst v).cu = s.cu := rfl
@[simp] theorem setRst_cc : (s.setRst v).cc = s.cc := rfl
@[simp] theorem setRst_rlu : (s.setRst v).rlu = s.rlu := rfl
@[simp] theorem setRst_aau : (s.setRst v).aau = s.aau := rfl
@[simp] theorem setRst_inputs : (s.setRst v).inputs = s.inputs := rfl
@[simp] theorem setRst_portD : (s.setRst v).portD = s.portD := rfl
@[simp] theorem setRst_portS : (s.setRst v).portS = s.portS := rfl
@[simp] theorem setRst_window : (s.setRst v).window = s.window := rfl
@[simp] theorem setRst_pwc : (s.setRst v).pwc = s.pwc := rfl
@[simp] theorem setRst_rst : (s.setRst v).rst = v := rfl
@[simp] theorem setRst_pins : (s.setRst v).pins = s.pins := rfl
@[simp] theorem setRst_choices : (s.setRst v).choices = s.choices := rfl
@[simp] theorem setRst_due : (s.setRst v).due = s.due := rfl
@[simp] theorem setRst_pending : (s.setRst v).pending = s.pending := rfl
@[simp] theorem setRst_port (p : Port) : (s.setRst v).port p = s.port p := by cases p <;> rfl
@[simp] theorem setRst_spi (p : Port) : (s.setRst v).spi p = s.spi p := by cases p <;> rfl
@[simp] theorem setRst_self : s.setRst s.rst = s := rfl
@[simp] theorem setRst_setRst (w : Reset) : (s.setRst v).setRst w = s.setRst w := rfl
end setRst

section setPins
variable (s : State) (v : Pins)
@[simp] theorem setPins_ge : (s.setPins v).ge = s.ge := rfl
@[simp] theorem setPins_lamps : (s.setPins v).lamps = s.lamps := rfl
@[simp] theorem setPins_lmd : (s.setPins v).lmd = s.lmd := rfl
@[simp] theorem setPins_cu : (s.setPins v).cu = s.cu := rfl
@[simp] theorem setPins_cc : (s.setPins v).cc = s.cc := rfl
@[simp] theorem setPins_rlu : (s.setPins v).rlu = s.rlu := rfl
@[simp] theorem setPins_aau : (s.setPins v).aau = s.aau := rfl
@[simp] theorem setPins_inputs : (s.setPins v).inputs = s.inputs := rfl
@[simp] theorem setPins_portD : (s.setPins v).portD = s.portD := rfl
@[simp] theorem setPins_portS : (s.setPins v).portS = s.portS := rfl
@[simp] theorem setPins_window : (s.setPins v).window = s.window := rfl
@[simp] theorem setPins_pwc : (s.setPins v).pwc = s.pwc := rfl
@[simp] theorem setPins_rst : (s.setPins v).rst = s.rst := rfl
@[simp] theorem setPins_pins : (s.setPins v).pins = v := rfl
@[simp] theorem setPins_choices : (s.setPins v).choices = s.choices := rfl
@[simp] theorem setPins_due : (s.setPins v).due = s.due := rfl
@[simp] theorem setPins_pending : (s.setPins v).pending = s.pending := rfl
@[simp] theorem setPins_port (p : Port) : (s.setPins v).port p = s.port p := by cases p <;> rfl
@[simp] theorem setPins_self : s.setPins s.pins = s := rfl
@[simp] theorem setPins_setPins (w : Pins) : (s.setPins v).setPins w = s.setPins w := rfl
end setPins

section setChoices
variable (s : State) (v : Nat)
@[simp] theorem setChoices_ge : (s.setChoices v).ge = s.ge := rfl
@[simp] theorem setChoices_lamps : (s.setChoices v).lamps = s.lamps := rfl
@[simp] theorem setChoices_lmd : (s.setChoices v).lmd = s.lmd := rfl
@[simp] theorem setChoices_cu : (s.setChoices v).cu = s.cu := rfl
@[simp] theorem setChoices_cc : (s.setChoices v).cc = s.cc := rfl
@[simp] theorem setChoices_rlu : (s.setChoices v).rlu = s.rlu := rfl
@[simp] theorem setChoices_aau : (s.setChoices v).aau = s.aau := rfl
@[simp] theorem setChoices_inputs : (s.setChoices v).inputs = s.inputs := rfl
@[simp] theorem setChoices_portD : (s.setChoices v).portD = s.portD := rfl
@[simp] theorem setChoices_portS : (s.setChoices v).portS = s.portS := rfl
@[simp] theorem setChoices_window : (s.setChoices v).window = s.window := rfl
@[simp] theorem setChoices_pwc : (s.setChoices v).pwc = s.pwc := rfl
@[simp] theorem setChoices_rst : (s.setChoices v).rst = s.rst := rfl
@[simp] theorem setChoices_pins : (s.setChoices v).pins = s.pins := rfl
@[simp] theorem setChoices_choices : (s.setChoices v).choices = v := rfl
@[simp] theorem setChoices_due : (s.setChoices v).due = s.due := rfl
@[simp] theorem setChoices_pending : (s.setChoices v).pending = s.pending := rfl
@[simp] theorem setChoices_port (p : Port) : (s.setChoices v).port p = s.port p := by cases p <;> rfl
@[simp] theorem setChoices_spi (p : Port) : (s.setChoices v).spi p = s.spi p := by cases p <;> rfl
@[simp] theorem setChoices_self : s.setChoices s.choices = s := rfl
@[simp] theorem setChoices_setChoices (w : Nat) : (s.setChoices v).setChoices w = s.setChoices w := rfl
end setChoices

section setDue
variable (s : State) (v : List Instr)
@[simp] theorem setDue_ge : (s.setDue v).ge = s.ge := rfl
@[simp] theorem setDue_lamps : (s.setDue v).lamps = s.lamps := rfl
@[simp] theorem setDue_lmd : (s.setDue v).lmd = s.lmd := rfl
@[simp] theorem setDue_cu : (s.setDue v).cu = s.cu := rfl
@[simp] theorem setDue_cc : (s.setDue v).cc = s.cc := rfl
@[simp] theorem setDue_rlu : (s.setDue v).rlu = s.rlu := rfl
@[simp] theorem setDue_aau : (s.setDue v).aau = s.aau := rfl
@[simp] theorem setDue_inputs : (s.setDue v).inputs = s.inputs := rfl
@[simp] theorem setDue_portD : (s.setDue v).portD = s.portD := rfl
@[simp] theorem setDue_portS : (s.setDue v).portS = s.portS := rfl
@[simp] theorem setDue_window : (s.setDue v).window = s.window := rfl
@[simp] theorem setDue_pwc : (s.setDue v).pwc = s.pwc := rfl
@[simp] theorem setDue_rst : (s.setDue v).rst = s.rst := rfl
@[simp] theorem setDue_pins : (s.setDue v).pins = s.pins := rfl
@[simp] theorem setDue_choices : (s.setDue v).choices = s.choices := rfl
@[simp] theorem setDue_due : (s.setDue v).due = v := rfl
@[simp] theorem setDue_pending : (s.setDue v).pending = s.pending := rfl
@[simp] theorem setDue_port (p : Port) : (s.setDue v).port p = s.port p := by cases p <;> rfl
@[simp] theorem setDue_spi (p : Port) : (s.setDue v).spi p = s.spi p := by cases p <;> rfl
@[simp] theorem setDue_self : s.setDue s.due = s := rfl
@[simp] theorem setDue_setDue (w : List Instr) : (s.setDue v).setDue w = s.setDue w := rfl
end setDue

section setPending
variable (s : State) (v : List Instr)
@[simp] theorem setPending_ge : (s.setPending v).ge = s.ge := rfl
@[simp] theorem setPending_lamps : (s.setPending v).lamps = s.lamps := rfl
@[simp] theorem setPending_lmd : (s.setPending v).lmd = s.lmd := rfl
@[simp] theorem setPending_cu : (s.setPending v).cu = s.cu := rfl
@[simp] theorem setPending_cc : (s.setPending v).cc = s.cc := rfl
@[simp] theorem setPending_rlu : (s.setPending v).rlu = s.rlu := rfl
@[simp] theorem setPending_aau : (s.setPending v).aau = s.aau := rfl
@[simp] theorem setPending_inputs : (s.setPending v).inputs = s.inputs := rfl
@[simp] theorem setPending_portD : (s.setPending v).portD = s.portD := rfl
@[simp] theorem setPending_portS : (s.setPending v).portS = s.portS := rfl
@[simp] theorem setPending_window : (s.setPending v).window = s.window := rfl
@[simp] theorem setPending_pwc : (s.setPending v).pwc = s.pwc := rfl
@[simp] theorem setPending_rst : (s.setPending v).rst = s.rst := rfl
@[simp] theorem setPending_pins : (s.setPending v).pins = s.pins := rfl
@[simp] theorem setPending_choices : (s.setPending v).choices = s.choices := rfl
@[simp] theorem setPending_due : (s.setPending v).due = s.due := rfl
@[simp] theorem setPending_pending : (s.setPending v).pending = v := rfl
@[simp] theorem setPending_port (p : Port) : (s.setPending v).port p = s.port p := by cases p <;> rfl
@[simp] theorem setPending_spi (p : Port) : (s.setPending v).spi p = s.spi p := by cases p <;> rfl
@[simp] theorem setPending_self : s.setPending s.pending = s := rfl
@[simp] theorem setPending_setPending (w : List Instr) : (s.setPending v).setPending w = s.setPending w := rfl
end setPending

section setPort
variable (s : State) (p : Port) (v : PortUnit)
@[simp] theorem setPort_ge : (s.setPort p v).ge = s.ge := by cases p <;> rfl
@[simp] theorem setPort_lamps : (s.setPort p v).lamps = s.lamps := by cases p <;> rfl
@[simp] theorem setPort_lmd : (s.setPort p v).lmd = s.lmd := by cases p <;> rfl
@[simp] theorem setPort_cu : (s.setPort p v).cu = s.cu := by cases p <;> rfl
@[simp] theorem setPort_cc : (s.setPort p v).cc = s.cc := by cases p <;> rfl
@[simp] theorem setPort_rlu : (s.setPort p v).rlu = s.rlu := by cases p <;> rfl
@[simp] theorem setPort_aau : (s.setPort p v).aau = s.aau := by cases p <;> rfl
@[simp] theorem setPort_inputs : (s.setPort p v).inputs = s.inputs := by cases p <;> rfl
@[simp] theorem setPort_window : (s.setPort p v).window = s.window := by cases p <;> rfl
@[simp] theorem setPort_pwc : (s.setPort p v).pwc = s.pwc := by cases p <;> rfl
@[simp] theorem setPort_rst : (s.setPort p v).rst = s.rst := by cases p <;> rfl
@[simp] theorem setPort_pins : (s.setPort p v).pins = s.pins := by cases p <;> rfl
@[simp] theorem setPort_choices : (s.setPort p v).choices = s.choices := by cases p <;> rfl
@[simp] theorem setPort_due : (s.setPort p v).due = s.due := by cases p <;> rfl
@[simp] theorem setPort_pending : (s.setPort p v).pending = s.pending := by cases p <;> rfl
@[simp] theorem setPort_port_same : (s.setPort p v).port p = v := by cases p <;> rfl
@[simp] theorem setPort_port_other {q : Port} (h : q ≠ p) : (s.setPort p v).port q = s.port q := by
  cases p <;> cases q <;> first | rfl | exact absurd rfl h
theorem setPort_port (q : Port) : (s.setPort p v).port q = if q = p then v else s.port q := by
  cases p <;> cases q <;> rfl
theorem port_d : s.port .d = s.portD := rfl
theorem port_s : s.port .s = s.portS := rfl
@[simp] theorem setPort_spi (q : Port) : (s.setPort p v).spi q = s.spi q := by cases p <;> cases q <;> rfl
end setPort

section setSpi
variable (s : State) (p : Port) (v : SpiLead)
@[simp] theorem setSpi_ge : (s.setSpi p v).ge = s.ge := by cases p <;> rfl
@[simp] theorem setSpi_lamps : (s.setSpi p v).lamps = s.lamps := by cases p <;> rfl
@[simp] theorem setSpi_lmd : (s.setSpi p v).lmd = s.lmd := by cases p <;> rfl
@[simp] theorem setSpi_cu : (s.setSpi p v).cu = s.cu := by cases p <;> rfl
@[simp] theorem setSpi_cc : (s.setSpi p v).cc = s.cc := by cases p <;> rfl
@[simp] theorem setSpi_rlu : (s.setSpi p v).rlu = s.rlu := by cases p <;> rfl
@[simp] theorem setSpi_aau : (s.setSpi p v).aau = s.aau := by cases p <;> rfl
@[simp] theorem setSpi_inputs : (s.setSpi p v).inputs = s.inputs := by cases p <;> rfl
@[simp] theorem setSpi_portD : (s.setSpi p v).portD = s.portD := by cases p <;> rfl
@[simp] theorem setSpi_portS : (s.setSpi p v).portS = s.portS := by cases p <;> rfl
@[simp] theorem setSpi_window : (s.setSpi p v).window = s.window := by cases p <;> rfl
@[simp] theorem setSpi_pwc : (s.setSpi p v).pwc = s.pwc := by cases p <;> rfl
@[simp] theorem setSpi_rst : (s.setSpi p v).rst = s.rst := by cases p <;> rfl
@[simp] theorem setSpi_choices : (s.setSpi p v).choices = s.choices := by cases p <;> rfl
@[simp] theorem setSpi_due : (s.setSpi p v).due = s.due := by cases p <;> rfl
@[simp] theorem setSpi_pending : (s.setSpi p v).pending = s.pending := by cases p <;> rfl
@[simp] theorem setSpi_pins_inputs : (s.setSpi p v).pins.inputs = s.pins.inputs := by cases p <;> rfl
@[simp] theorem setSpi_pins_battery : (s.setSpi p v).pins.battery = s.pins.battery := by cases p <;> rfl
@[simp] theorem setSpi_pins_draws : (s.setSpi p v).pins.draws = s.pins.draws := by cases p <;> rfl
@[simp] theorem setSpi_pins_vdd5Low : (s.setSpi p v).pins.vdd5Low = s.pins.vdd5Low := by cases p <;> rfl
@[simp] theorem setSpi_pins_rstLow : (s.setSpi p v).pins.rstLow = s.pins.rstLow := by cases p <;> rfl
@[simp] theorem setSpi_port (q : Port) : (s.setSpi p v).port q = s.port q := by cases p <;> cases q <;> rfl
@[simp] theorem setSpi_spi_same : (s.setSpi p v).spi p = v := by cases p <;> rfl
@[simp] theorem setSpi_spi_other {q : Port} (h : q ≠ p) : (s.setSpi p v).spi q = s.spi q := by
  cases p <;> cases q <;> first | rfl | exact absurd rfl h
theorem setSpi_spi (q : Port) : (s.setSpi p v).spi q = if q = p then v else s.spi q := by
  cases p <;> cases q <;> rfl
end setSpi

end Sys2Proof.Machine.State
end

