-- ==== Sys2Proof/Laws/Ops.lean ====
section
/-! SUPPORT. What each shared operation of Machine/Ops.lean and Machine/Cycle.lean leaves as it is: one lemma per field, so
that a proof about a command need not unfold the operation. -/
namespace Sys2Proof.Machine

/-! ### Folds and free orders -/

/-- A quantity that each action keeps is kept by the actions over a whole list. -/
theorem forEach_keeps {α β : Type} (f : State → β) (act : α → State → State) (h : ∀ a s, f (act a s) = f s)
    (l : List α) (s : State) : f (forEach act l s) = f s := by
  induction l generalizing s with
  | nil => rfl
  | cons a l ih => exact (ih (act a s)).trans (h a s)

/-- A property that each action keeps is kept by the actions over a whole list. -/
theorem forEach_preserves {α : Type} (P : State → Prop) (act : α → State → State) (h : ∀ a s, P s → P (act a s))
    (l : List α) (s : State) (hs : P s) : P (forEach act l s) := by
  induction l generalizing s with
  | nil => exact hs
  | cons a l ih => exact ih (act a s) (h a s hs)

/-- A quantity that the action over a list keeps, and the count of choices does not touch, is kept in every order. -/
theorem inSomeOrder_keeps {α β : Type} (f : State → β) (act : List α → State → State)
    (hc : ∀ s n, f (s.setChoices n) = f s) (h : ∀ l s, f (act l s) = f s) (l : List α) (s : State) :
    f (inSomeOrder l act s) = f s := (h _ _).trans (hc _ _)

/-- A property that the action over a list keeps is kept in every order. -/
theorem inSomeOrder_preserves {α : Type} (P : State → Prop) (act : List α → State → State)
    (hc : ∀ s n, P s → P (s.setChoices n)) (h : ∀ l s, P s → P (act l s)) (l : List α) (s : State) (hs : P s) :
    P (inSomeOrder l act s) := h _ _ (hc _ _ hs)

/-- An order of a list has its length. -/
theorem arrange_length {α : Type} (k : Nat) (l : List α) : (arrange k l).length = l.length := by
  induction l generalizing k with
  | nil => rfl
  | cons a l ih =>
    cases l with
    | nil => rfl
    | cons b rest =>
      have h := ih (k + 1)
      simp only [arrange, List.length_append, List.length_cons, List.length_take, List.length_drop, h]
      omega

/-- An order of a list is a permutation of it. -/
theorem arrange_perm {α : Type} (k : Nat) (l : List α) : (arrange k l).Perm l := by
  induction l generalizing k with
  | nil => exact List.Perm.refl _
  | cons a l ih =>
    cases l with
    | nil => exact List.Perm.refl _
    | cons b rest =>
      have h := ih (k + 1)
      simp only [arrange]
      refine List.perm_middle.trans (List.Perm.cons a ?_)
      rw [List.take_append_drop]
      exact h

@[simp] theorem arrange_nil {α : Type} (k : Nat) : arrange k ([] : List α) = [] := rfl
@[simp] theorem arrange_singleton {α : Type} (k : Nat) (a : α) : arrange k [a] = [a] := rfl
@[simp] theorem forEach_nil {α : Type} (act : α → State → State) (s : State) : forEach act [] s = s := rfl
@[simp] theorem forEach_cons {α : Type} (act : α → State → State) (a : α) (l : List α) (s : State) :
    forEach act (a :: l) s = forEach act l (act a s) := rfl
@[simp] theorem inSomeOrder_nil {α : Type} (act : List α → State → State) (s : State) :
    inSomeOrder [] act s = act [] s := by simp [inSomeOrder, State.setChoices]
@[simp] theorem inSomeOrder_singleton {α : Type} (a : α) (act : List α → State → State) (s : State) :
    inSomeOrder [a] act s = act [a] s := by simp [inSomeOrder, State.setChoices]

/-! ### Posting -/

theorem postAt_port (p q : Port) (k : EventKind) (n : Nat) (s : State) :
    (postAt p k n s).port q = if q = p then (s.port p).post k n else s.port q := by
  unfold postAt
  cases p <;> cases q <;> rfl

@[simp] theorem post_port (q : Port) (k : EventKind) (n : Nat) (s : State) :
    (post k n s).port q = (s.port q).post k n := by
  cases q <;> rfl

@[simp] theorem PortUnit.post_live (k : EventKind) (n : Nat) (u : PortUnit) : (u.post k n).live = u.live := rfl
@[simp] theorem PortUnit.post_timer (k : EventKind) (n : Nat) (u : PortUnit) : (u.post k n).timer = u.timer := rfl
@[simp] theorem PortUnit.post_period (k : EventKind) (n : Nat) (u : PortUnit) : (u.post k n).period = u.period := rfl
@[simp] theorem PortUnit.post_response (k : EventKind) (n : Nat) (u : PortUnit) : (u.post k n).response = u.response := rfl
@[simp] theorem PortUnit.post_fresh (k : EventKind) (n : Nat) (u : PortUnit) : (u.post k n).fresh = u.fresh := rfl

section postAt
variable (p : Port) (k : EventKind) (n : Nat) (s : State)
@[simp] theorem postAt_ge : (postAt p k n s).ge = s.ge := by
  simp [postAt]
@[simp] theorem postAt_lamps : (postAt p k n s).lamps = s.lamps := by
  simp [postAt]
@[simp] theorem postAt_lmd : (postAt p k n s).lmd = s.lmd := by
  simp [postAt]
@[simp] theorem postAt_cu : (postAt p k n s).cu = s.cu := by
  simp [postAt]
@[simp] theorem postAt_cc : (postAt p k n s).cc = s.cc := by
  simp [postAt]
@[simp] theorem postAt_rlu : (postAt p k n s).rlu = s.rlu := by
  simp [postAt]
@[simp] theorem postAt_aau : (postAt p k n s).aau = s.aau := by
  simp [postAt]
@[simp] theorem postAt_inputs : (postAt p k n s).inputs = s.inputs := by
  simp [postAt]
@[simp] theorem postAt_window : (postAt p k n s).window = s.window := by
  simp [postAt]
@[simp] theorem postAt_pwc : (postAt p k n s).pwc = s.pwc := by
  simp [postAt]
@[simp] theorem postAt_rst : (postAt p k n s).rst = s.rst := by
  simp [postAt]
@[simp] theorem postAt_pins : (postAt p k n s).pins = s.pins := by
  simp [postAt]
@[simp] theorem postAt_choices : (postAt p k n s).choices = s.choices := by
  simp [postAt]
@[simp] theorem postAt_due : (postAt p k n s).due = s.due := by
  simp [postAt]
@[simp] theorem postAt_pending : (postAt p k n s).pending = s.pending := by
  simp [postAt]
@[simp] theorem postAt_live (q : Port) : ((postAt p k n s).port q).live = (s.port q).live := by
  rw [postAt_port]; split <;> simp_all
@[simp] theorem postAt_timer (q : Port) : ((postAt p k n s).port q).timer = (s.port q).timer := by
  rw [postAt_port]; split <;> simp_all
@[simp] theorem postAt_period (q : Port) : ((postAt p k n s).port q).period = (s.port q).period := by
  rw [postAt_port]; split <;> simp_all
@[simp] theorem postAt_response (q : Port) : ((postAt p k n s).port q).response = (s.port q).response := by
  rw [postAt_port]; split <;> simp_all
@[simp] theorem postAt_fresh (q : Port) : ((postAt p k n s).port q).fresh = (s.port q).fresh := by
  rw [postAt_port]; split <;> simp_all
end postAt

section post
variable (k : EventKind) (n : Nat) (s : State)
@[simp] theorem post_ge : (post k n s).ge = s.ge := by
  simp [post]
@[simp] theorem post_lamps : (post k n s).lamps = s.lamps := by
  simp [post]
@[simp] theorem post_lmd : (post k n s).lmd = s.lmd := by
  simp [post]
@[simp] theorem post_cu : (post k n s).cu = s.cu := by
  simp [post]
@[simp] theorem post_cc : (post k n s).cc = s.cc := by
  simp [post]
@[simp] theorem post_rlu : (post k n s).rlu = s.rlu := by
  simp [post]
@[simp] theorem post_aau : (post k n s).aau = s.aau := by
  simp [post]
@[simp] theorem post_inputs : (post k n s).inputs = s.inputs := by
  simp [post]
@[simp] theorem post_window : (post k n s).window = s.window := by
  simp [post]
@[simp] theorem post_pwc : (post k n s).pwc = s.pwc := by
  simp [post]
@[simp] theorem post_rst : (post k n s).rst = s.rst := by
  simp [post]
@[simp] theorem post_pins : (post k n s).pins = s.pins := by
  simp [post]
@[simp] theorem post_choices : (post k n s).choices = s.choices := by
  simp [post]
@[simp] theorem post_due : (post k n s).due = s.due := by
  simp [post]
@[simp] theorem post_pending : (post k n s).pending = s.pending := by
  simp [post]
@[simp] theorem post_live (q : Port) : ((post k n s).port q).live = (s.port q).live := by
  simp [post]
@[simp] theorem post_timer (q : Port) : ((post k n s).port q).timer = (s.port q).timer := by
  simp [post]
@[simp] theorem post_period (q : Port) : ((post k n s).port q).period = (s.port q).period := by
  simp [post]
@[simp] theorem post_response (q : Port) : ((post k n s).port q).response = (s.port q).response := by
  simp [post]
@[simp] theorem post_fresh (q : Port) : ((post k n s).port q).fresh = (s.port q).fresh := by
  simp [post]
end post

section postAll
variable (k : EventKind) (l : List Nat) (s : State)
@[simp] theorem postAll_ge : (postAll k l s).ge = s.ge := by
  exact inSomeOrder_keeps (fun s => s.ge) _ (by simp) (forEach_keeps _ _ (by simp)) _ _
@[simp] theorem postAll_lamps : (postAll k l s).lamps = s.lamps := by
  exact inSomeOrder_keeps (fun s => s.lamps) _ (by simp) (forEach_keeps _ _ (by simp)) _ _
@[simp] theorem postAll_lmd : (postAll k l s).lmd = s.lmd := by
  exact inSomeOrder_keeps (fun s => s.lmd) _ (by simp) (forEach_keeps _ _ (by simp)) _ _
@[simp] theorem postAll_cu : (postAll k l s).cu = s.cu := by
  exact inSomeOrder_keeps (fun s => s.cu) _ (by simp) (forEach_keeps _ _ (by simp)) _ _
@[simp] theorem postAll_cc : (postAll k l s).cc = s.cc := by
  exact inSomeOrder_keeps (fun s => s.cc) _ (by simp) (forEach_keeps _ _ (by simp)) _ _
@[simp] theorem postAll_rlu : (postAll k l s).rlu = s.rlu := by
  exact inSomeOrder_keeps (fun s => s.rlu) _ (by simp) (forEach_keeps _ _ (by simp)) _ _
@[simp] theorem postAll_aau : (postAll k l s).aau = s.aau := by
  exact inSomeOrder_keeps (fun s => s.aau) _ (by simp) (forEach_keeps _ _ (by simp)) _ _
@[simp] theorem postAll_inputs : (postAll k l s).inputs = s.inputs := by
  exact inSomeOrder_keeps (fun s => s.inputs) _ (by simp) (forEach_keeps _ _ (by simp)) _ _
@[simp] theorem postAll_window : (postAll k l s).window = s.window := by
  exact inSomeOrder_keeps (fun s => s.window) _ (by simp) (forEach_keeps _ _ (by simp)) _ _
@[simp] theorem postAll_pwc : (postAll k l s).pwc = s.pwc := by
  exact inSomeOrder_keeps (fun s => s.pwc) _ (by simp) (forEach_keeps _ _ (by simp)) _ _
@[simp] theorem postAll_rst : (postAll k l s).rst = s.rst := by
  exact inSomeOrder_keeps (fun s => s.rst) _ (by simp) (forEach_keeps _ _ (by simp)) _ _
@[simp] theorem postAll_pins : (postAll k l s).pins = s.pins := by
  exact inSomeOrder_keeps (fun s => s.pins) _ (by simp) (forEach_keeps _ _ (by simp)) _ _
@[simp] theorem postAll_due : (postAll k l s).due = s.due := by
  exact inSomeOrder_keeps (fun s => s.due) _ (by simp) (forEach_keeps _ _ (by simp)) _ _
@[simp] theorem postAll_pending : (postAll k l s).pending = s.pending := by
  exact inSomeOrder_keeps (fun s => s.pending) _ (by simp) (forEach_keeps _ _ (by simp)) _ _
@[simp] theorem postAll_live (q : Port) : ((postAll k l s).port q).live = (s.port q).live := by
  exact inSomeOrder_keeps (fun s => (s.port q).live) _ (by simp) (forEach_keeps (fun s => (s.port q).live) (post k) (by simp)) _ _
@[simp] theorem postAll_timer (q : Port) : ((postAll k l s).port q).timer = (s.port q).timer := by
  exact inSomeOrder_keeps (fun s => (s.port q).timer) _ (by simp) (forEach_keeps (fun s => (s.port q).timer) (post k) (by simp)) _ _
@[simp] theorem postAll_period (q : Port) : ((postAll k l s).port q).period = (s.port q).period := by
  exact inSomeOrder_keeps (fun s => (s.port q).period) _ (by simp) (forEach_keeps (fun s => (s.port q).period) (post k) (by simp)) _ _
@[simp] theorem postAll_response (q : Port) : ((postAll k l s).port q).response = (s.port q).response := by
  exact inSomeOrder_keeps (fun s => (s.port q).response) _ (by simp) (forEach_keeps (fun s => (s.port q).response) (post k) (by simp)) _ _
@[simp] theorem postAll_fresh (q : Port) : ((postAll k l s).port q).fresh = (s.port q).fresh := by
  exact inSomeOrder_keeps (fun s => (s.port q).fresh) _ (by simp) (forEach_keeps (fun s => (s.port q).fresh) (post k) (by simp)) _ _
end postAll

section chimeRequest_state
variable (d : Sound) (n : Nat) (r : Origin) (s : State)
@[simp] theorem chimeRequest_state_ge : ((chimeRequest d n r s).1).ge = s.ge := by
  unfold chimeRequest; split
  · split <;> simp
  · rfl
@[simp] theorem chimeRequest_state_lamps : ((chimeRequest d n r s).1).lamps = s.lamps := by
  unfold chimeRequest; split
  · split <;> simp
  · rfl
@[simp] theorem chimeRequest_state_lmd : ((chimeRequest d n r s).1).lmd = s.lmd := by
  unfold chimeRequest; split
  · split <;> simp
  · rfl
@[simp] theorem chimeRequest_state_cc : ((chimeRequest d n r s).1).cc = s.cc := by
  unfold chimeRequest; split
  · split <;> simp
  · rfl
@[simp] theorem chimeRequest_state_rlu : ((chimeRequest d n r s).1).rlu = s.rlu := by
  unfold chimeRequest; split
  · split <;> simp
  · rfl
@[simp] theorem chimeRequest_state_aau : ((chimeRequest d n r s).1).aau = s.aau := by
  unfold chimeRequest; split
  · split <;> simp
  · rfl
@[simp] theorem chimeRequest_state_inputs : ((chimeRequest d n r s).1).inputs = s.inputs := by
  unfold chimeRequest; split
  · split <;> simp
  · rfl
@[simp] theorem chimeRequest_state_window : ((chimeRequest d n r s).1).window = s.window := by
  unfold chimeRequest; split
  · split <;> simp
  · rfl
@[simp] theorem chimeRequest_state_pwc : ((chimeRequest d n r s).1).pwc = s.pwc := by
  unfold chimeRequest; split
  · split <;> simp
  · rfl
@[simp] theorem chimeRequest_state_rst : ((chimeRequest d n r s).1).rst = s.rst := by
  unfold chimeRequest; split
  · split <;> simp
  · rfl
@[simp] theorem chimeRequest_state_pins : ((chimeRequest d n r s).1).pins = s.pins := by
  unfold chimeRequest; split
  · split <;> simp
  · rfl
@[simp] theorem chimeRequest_state_choices : ((chimeRequest d n r s).1).choices = s.choices := by
  unfold chimeRequest; split
  · split <;> simp
  · rfl
@[simp] theorem chimeRequest_state_due : ((chimeRequest d n r s).1).due = s.due := by
  unfold chimeRequest; split
  · split <;> simp
  · rfl
@[simp] theorem chimeRequest_state_pending : ((chimeRequest d n r s).1).pending = s.pending := by
  unfold chimeRequest; split
  · split <;> simp
  · rfl
@[simp] theorem chimeRequest_state_live (q : Port) : (((chimeRequest d n r s).1).port q).live = (s.port q).live := by
  unfold chimeRequest; split
  · split <;> simp
  · rfl
@[simp] theorem chimeRequest_state_timer (q : Port) : (((chimeRequest d n r s).1).port q).timer = (s.port q).timer := by
  unfold chimeRequest; split
  · split <;> simp
  · rfl
@[simp] theorem chimeRequest_state_period (q : Port) : (((chimeRequest d n r s).1).port q).period = (s.port q).period := by
  unfold chimeRequest; split
  · split <;> simp
  · rfl
@[simp] theorem chimeRequest_state_response (q : Port) : (((chimeRequest d n r s).1).port q).response = (s.port q).response := by
  unfold chimeRequest; split
  · split <;> simp
  · rfl
@[simp] theorem chimeRequest_state_fresh (q : Port) : (((chimeRequest d n r s).1).port q).fresh = (s.port q).fresh := by
  unfold chimeRequest; split
  · split <;> simp
  · rfl
end chimeRequest_state

section requestFor
variable (d : Sound) (n : Nat) (r : Origin) (s : State)
@[simp] theorem requestFor_ge : (requestFor d n r s).ge = s.ge := by
  simp [requestFor]
@[simp] theorem requestFor_lamps : (requestFor d n r s).lamps = s.lamps := by
  simp [requestFor]
@[simp] theorem requestFor_lmd : (requestFor d n r s).lmd = s.lmd := by
  simp [requestFor]
@[simp] theorem requestFor_cc : (requestFor d n r s).cc = s.cc := by
  simp [requestFor]
@[simp] theorem requestFor_rlu : (requestFor d n r s).rlu = s.rlu := by
  simp [requestFor]
@[simp] theorem requestFor_aau : (requestFor d n r s).aau = s.aau := by
  simp [requestFor]
@[simp] theorem requestFor_inputs : (requestFor d n r s).inputs = s.inputs := by
  simp [requestFor]
@[simp] theorem requestFor_window : (requestFor d n r s).window = s.window := by
  simp [requestFor]
@[simp] theorem requestFor_pwc : (requestFor d n r s).pwc = s.pwc := by
  simp [requestFor]
@[simp] theorem requestFor_rst : (requestFor d n r s).rst = s.rst := by
  simp [requestFor]
@[simp] theorem requestFor_pins : (requestFor d n r s).pins = s.pins := by
  simp [requestFor]
@[simp] theorem requestFor_choices : (requestFor d n r s).choices = s.choices := by
  simp [requestFor]
@[simp] theorem requestFor_due : (requestFor d n r s).due = s.due := by
  simp [requestFor]
@[simp] theorem requestFor_pending : (requestFor d n r s).pending = s.pending := by
  simp [requestFor]
@[simp] theorem requestFor_live (q : Port) : ((requestFor d n r s).port q).live = (s.port q).live := by
  simp [requestFor]
@[simp] theorem requestFor_timer (q : Port) : ((requestFor d n r s).port q).timer = (s.port q).timer := by
  simp [requestFor]
@[simp] theorem requestFor_period (q : Port) : ((requestFor d n r s).port q).period = (s.port q).period := by
  simp [requestFor]
@[simp] theorem requestFor_response (q : Port) : ((requestFor d n r s).port q).response = (s.port q).response := by
  simp [requestFor]
@[simp] theorem requestFor_fresh (q : Port) : ((requestFor d n r s).port q).fresh = (s.port q).fresh := by
  simp [requestFor]
end requestFor

section lampChime
variable (n : Fin 48) (s : State)
@[simp] theorem lampChime_ge : (lampChime n s).ge = s.ge := by
  simp [lampChime]
@[simp] theorem lampChime_lamps : (lampChime n s).lamps = s.lamps := by
  simp [lampChime]
@[simp] theorem lampChime_lmd : (lampChime n s).lmd = s.lmd := by
  simp [lampChime]
@[simp] theorem lampChime_cc : (lampChime n s).cc = s.cc := by
  simp [lampChime]
@[simp] theorem lampChime_rlu : (lampChime n s).rlu = s.rlu := by
  simp [lampChime]
@[simp] theorem lampChime_aau : (lampChime n s).aau = s.aau := by
  simp [lampChime]
@[simp] theorem lampChime_inputs : (lampChime n s).inputs = s.inputs := by
  simp [lampChime]
@[simp] theorem lampChime_window : (lampChime n s).window = s.window := by
  simp [lampChime]
@[simp] theorem lampChime_pwc : (lampChime n s).pwc = s.pwc := by
  simp [lampChime]
@[simp] theorem lampChime_rst : (lampChime n s).rst = s.rst := by
  simp [lampChime]
@[simp] theorem lampChime_pins : (lampChime n s).pins = s.pins := by
  simp [lampChime]
@[simp] theorem lampChime_choices : (lampChime n s).choices = s.choices := by
  simp [lampChime]
@[simp] theorem lampChime_due : (lampChime n s).due = s.due := by
  simp [lampChime]
@[simp] theorem lampChime_pending : (lampChime n s).pending = s.pending := by
  simp [lampChime]
@[simp] theorem lampChime_live (q : Port) : ((lampChime n s).port q).live = (s.port q).live := by
  simp [lampChime]
@[simp] theorem lampChime_timer (q : Port) : ((lampChime n s).port q).timer = (s.port q).timer := by
  simp [lampChime]
@[simp] theorem lampChime_period (q : Port) : ((lampChime n s).port q).period = (s.port q).period := by
  simp [lampChime]
@[simp] theorem lampChime_response (q : Port) : ((lampChime n s).port q).response = (s.port q).response := by
  simp [lampChime]
@[simp] theorem lampChime_fresh (q : Port) : ((lampChime n s).port q).fresh = (s.port q).fresh := by
  simp [lampChime]
end lampChime

section judgeTone
variable (s : State)
@[simp] theorem judgeTone_ge : (judgeTone s).ge = s.ge := by
  simp [judgeTone]
@[simp] theorem judgeTone_lamps : (judgeTone s).lamps = s.lamps := by
  simp [judgeTone]
@[simp] theorem judgeTone_lmd : (judgeTone s).lmd = s.lmd := by
  simp [judgeTone]
@[simp] theorem judgeTone_cc : (judgeTone s).cc = s.cc := by
  simp [judgeTone]
@[simp] theorem judgeTone_rlu : (judgeTone s).rlu = s.rlu := by
  simp [judgeTone]
@[simp] theorem judgeTone_aau : (judgeTone s).aau = s.aau := by
  simp [judgeTone]
@[simp] theorem judgeTone_inputs : (judgeTone s).inputs = s.inputs := by
  simp [judgeTone]
@[simp] theorem judgeTone_window : (judgeTone s).window = s.window := by
  simp [judgeTone]
@[simp] theorem judgeTone_pwc : (judgeTone s).pwc = s.pwc := by
  simp [judgeTone]
@[simp] theorem judgeTone_rst : (judgeTone s).rst = s.rst := by
  simp [judgeTone]
@[simp] theorem judgeTone_pins : (judgeTone s).pins = s.pins := by
  simp [judgeTone]
@[simp] theorem judgeTone_choices : (judgeTone s).choices = s.choices := by
  simp [judgeTone]
@[simp] theorem judgeTone_due : (judgeTone s).due = s.due := by
  simp [judgeTone]
@[simp] theorem judgeTone_pending : (judgeTone s).pending = s.pending := by
  simp [judgeTone]
@[simp] theorem judgeTone_port (q : Port) : (judgeTone s).port q = s.port q := by
  simp [judgeTone]
end judgeTone

section lampUpdate
variable (c : Fin 48 → Lamp → Lamp) (s : State)
@[simp] theorem lampUpdate_ge : (lampUpdate c s).ge = s.ge := by
  simp only [lampUpdate, judgeTone_ge]
  exact (inSomeOrder_keeps (fun s => s.ge) _ (by simp) (forEach_keeps _ _ (by simp)) _ _).trans (by simp)
@[simp] theorem lampUpdate_lmd : (lampUpdate c s).lmd = s.lmd := by
  simp only [lampUpdate, judgeTone_lmd]
  exact (inSomeOrder_keeps (fun s => s.lmd) _ (by simp) (forEach_keeps _ _ (by simp)) _ _).trans (by simp)
@[simp] theorem lampUpdate_cc : (lampUpdate c s).cc = s.cc := by
  simp only [lampUpdate, judgeTone_cc]
  exact (inSomeOrder_keeps (fun s => s.cc) _ (by simp) (forEach_keeps _ _ (by simp)) _ _).trans (by simp)
@[simp] theorem lampUpdate_rlu : (lampUpdate c s).rlu = s.rlu := by
  simp only [lampUpdate, judgeTone_rlu]
  exact (inSomeOrder_keeps (fun s => s.rlu) _ (by simp) (forEach_keeps _ _ (by simp)) _ _).trans (by simp)
@[simp] theorem lampUpdate_aau : (lampUpdate c s).aau = s.aau := by
  simp only [lampUpdate, judgeTone_aau]
  exact (inSomeOrder_keeps (fun s => s.aau) _ (by simp) (forEach_keeps _ _ (by simp)) _ _).trans (by simp)
@[simp] theorem lampUpdate_inputs : (lampUpdate c s).inputs = s.inputs := by
  simp only [lampUpdate, judgeTone_inputs]
  exact (inSomeOrder_keeps (fun s => s.inputs) _ (by simp) (forEach_keeps _ _ (by simp)) _ _).trans (by simp)
@[simp] theorem lampUpdate_window : (lampUpdate c s).window = s.window := by
  simp only [lampUpdate, judgeTone_window]
  exact (inSomeOrder_keeps (fun s => s.window) _ (by simp) (forEach_keeps _ _ (by simp)) _ _).trans (by simp)
@[simp] theorem lampUpdate_pwc : (lampUpdate c s).pwc = s.pwc := by
  simp only [lampUpdate, judgeTone_pwc]
  exact (inSomeOrder_keeps (fun s => s.pwc) _ (by simp) (forEach_keeps _ _ (by simp)) _ _).trans (by simp)
@[simp] theorem lampUpdate_rst : (lampUpdate c s).rst = s.rst := by
  simp only [lampUpdate, judgeTone_rst]
  exact (inSomeOrder_keeps (fun s => s.rst) _ (by simp) (forEach_keeps _ _ (by simp)) _ _).trans (by simp)
@[simp] theorem lampUpdate_pins : (lampUpdate c s).pins = s.pins := by
  simp only [lampUpdate, judgeTone_pins]
  exact (inSomeOrder_keeps (fun s => s.pins) _ (by simp) (forEach_keeps _ _ (by simp)) _ _).trans (by simp)
@[simp] theorem lampUpdate_due : (lampUpdate c s).due = s.due := by
  simp only [lampUpdate, judgeTone_due]
  exact (inSomeOrder_keeps (fun s => s.due) _ (by simp) (forEach_keeps _ _ (by simp)) _ _).trans (by simp)
@[simp] theorem lampUpdate_pending : (lampUpdate c s).pending = s.pending := by
  simp only [lampUpdate, judgeTone_pending]
  exact (inSomeOrder_keeps (fun s => s.pending) _ (by simp) (forEach_keeps _ _ (by simp)) _ _).trans (by simp)
@[simp] theorem lampUpdate_live (q : Port) : ((lampUpdate c s).port q).live = (s.port q).live := by
  simp only [lampUpdate, judgeTone_port]
  exact (inSomeOrder_keeps (fun s => (s.port q).live) _ (by simp) (forEach_keeps (fun s => (s.port q).live) lampChime (by simp)) _ _).trans (by simp)
@[simp] theorem lampUpdate_timer (q : Port) : ((lampUpdate c s).port q).timer = (s.port q).timer := by
  simp only [lampUpdate, judgeTone_port]
  exact (inSomeOrder_keeps (fun s => (s.port q).timer) _ (by simp) (forEach_keeps (fun s => (s.port q).timer) lampChime (by simp)) _ _).trans (by simp)
@[simp] theorem lampUpdate_period (q : Port) : ((lampUpdate c s).port q).period = (s.port q).period := by
  simp only [lampUpdate, judgeTone_port]
  exact (inSomeOrder_keeps (fun s => (s.port q).period) _ (by simp) (forEach_keeps (fun s => (s.port q).period) lampChime (by simp)) _ _).trans (by simp)
@[simp] theorem lampUpdate_response (q : Port) : ((lampUpdate c s).port q).response = (s.port q).response := by
  simp only [lampUpdate, judgeTone_port]
  exact (inSomeOrder_keeps (fun s => (s.port q).response) _ (by simp) (forEach_keeps (fun s => (s.port q).response) lampChime (by simp)) _ _).trans (by simp)
@[simp] theorem lampUpdate_fresh (q : Port) : ((lampUpdate c s).port q).fresh = (s.port q).fresh := by
  simp only [lampUpdate, judgeTone_port]
  exact (inSomeOrder_keeps (fun s => (s.port q).fresh) _ (by simp) (forEach_keeps (fun s => (s.port q).fresh) lampChime (by simp)) _ _).trans (by simp)
end lampUpdate

/-- The lamp table after an update is the one its three steps give; the chimes and the tone do not touch it. -/
@[simp] theorem lampUpdate_lamps (c : Fin 48 → Lamp → Lamp) (s : State) :
    (lampUpdate c s).lamps = updatedLamps s.lmd.readings s.lamps c := by
  simp only [lampUpdate, judgeTone_lamps]
  exact (inSomeOrder_keeps (fun s => s.lamps) _ (by simp) (forEach_keeps _ _ (by simp)) _ _).trans (by simp)


section reformLoss
variable (s : State)
@[simp] theorem reformLoss_ge : (reformLoss s).ge = s.ge := by
  simp [reformLoss]
@[simp] theorem reformLoss_lmd : (reformLoss s).lmd = s.lmd := by
  simp [reformLoss]
@[simp] theorem reformLoss_cc : (reformLoss s).cc = s.cc := by
  simp [reformLoss]
@[simp] theorem reformLoss_rlu : (reformLoss s).rlu = s.rlu := by
  simp [reformLoss]
@[simp] theorem reformLoss_aau : (reformLoss s).aau = s.aau := by
  simp [reformLoss]
@[simp] theorem reformLoss_inputs : (reformLoss s).inputs = s.inputs := by
  simp [reformLoss]
@[simp] theorem reformLoss_window : (reformLoss s).window = s.window := by
  simp [reformLoss]
@[simp] theorem reformLoss_pwc : (reformLoss s).pwc = s.pwc := by
  simp [reformLoss]
@[simp] theorem reformLoss_rst : (reformLoss s).rst = s.rst := by
  simp [reformLoss]
@[simp] theorem reformLoss_pins : (reformLoss s).pins = s.pins := by
  simp [reformLoss]
@[simp] theorem reformLoss_due : (reformLoss s).due = s.due := by
  simp [reformLoss]
@[simp] theorem reformLoss_pending : (reformLoss s).pending = s.pending := by
  simp [reformLoss]
@[simp] theorem reformLoss_live (q : Port) : ((reformLoss s).port q).live = (s.port q).live := by
  simp [reformLoss]
@[simp] theorem reformLoss_timer (q : Port) : ((reformLoss s).port q).timer = (s.port q).timer := by
  simp [reformLoss]
@[simp] theorem reformLoss_period (q : Port) : ((reformLoss s).port q).period = (s.port q).period := by
  simp [reformLoss]
@[simp] theorem reformLoss_response (q : Port) : ((reformLoss s).port q).response = (s.port q).response := by
  simp [reformLoss]
@[simp] theorem reformLoss_fresh (q : Port) : ((reformLoss s).port q).fresh = (s.port q).fresh := by
  simp [reformLoss]
end reformLoss

section discardWritten
variable (p : Port) (s : State)
@[simp] theorem discardWritten_ge : (discardWritten p s).ge = s.ge := by
  simp [discardWritten]
@[simp] theorem discardWritten_lmd : (discardWritten p s).lmd = s.lmd := by
  simp [discardWritten]
@[simp] theorem discardWritten_cc : (discardWritten p s).cc = s.cc := by
  simp [discardWritten]
@[simp] theorem discardWritten_rlu : (discardWritten p s).rlu = s.rlu := by
  simp [discardWritten]
@[simp] theorem discardWritten_aau : (discardWritten p s).aau = s.aau := by
  simp [discardWritten]
@[simp] theorem discardWritten_inputs : (discardWritten p s).inputs = s.inputs := by
  simp [discardWritten]
@[simp] theorem discardWritten_window : (discardWritten p s).window = s.window := by
  simp [discardWritten]
@[simp] theorem discardWritten_pwc : (discardWritten p s).pwc = s.pwc := by
  simp [discardWritten]
@[simp] theorem discardWritten_rst : (discardWritten p s).rst = s.rst := by
  simp [discardWritten]
@[simp] theorem discardWritten_pins : (discardWritten p s).pins = s.pins := by
  simp [discardWritten]
@[simp] theorem discardWritten_due : (discardWritten p s).due = s.due := by
  simp [discardWritten]
@[simp] theorem discardWritten_pending : (discardWritten p s).pending = s.pending := by
  simp [discardWritten]
@[simp] theorem discardWritten_live (q : Port) : ((discardWritten p s).port q).live = (s.port q).live := by
  simp [discardWritten]
@[simp] theorem discardWritten_timer (q : Port) : ((discardWritten p s).port q).timer = (s.port q).timer := by
  simp [discardWritten]
@[simp] theorem discardWritten_period (q : Port) : ((discardWritten p s).port q).period = (s.port q).period := by
  simp [discardWritten]
@[simp] theorem discardWritten_response (q : Port) : ((discardWritten p s).port q).response = (s.port q).response := by
  simp [discardWritten]
@[simp] theorem discardWritten_fresh (q : Port) : ((discardWritten p s).port q).fresh = (s.port q).fresh := by
  simp [discardWritten]
end discardWritten

section discardRecorder
variable (s : State)
@[simp] theorem discardRecorder_ge : (discardRecorder s).ge = s.ge := by
  simp [discardRecorder]
@[simp] theorem discardRecorder_lmd : (discardRecorder s).lmd = s.lmd := by
  simp [discardRecorder]
@[simp] theorem discardRecorder_cc : (discardRecorder s).cc = s.cc := by
  simp [discardRecorder]
@[simp] theorem discardRecorder_rlu : (discardRecorder s).rlu = s.rlu := by
  simp [discardRecorder]
@[simp] theorem discardRecorder_aau : (discardRecorder s).aau = s.aau := by
  simp [discardRecorder]
@[simp] theorem discardRecorder_inputs : (discardRecorder s).inputs = s.inputs := by
  simp [discardRecorder]
@[simp] theorem discardRecorder_window : (discardRecorder s).window = s.window := by
  simp [discardRecorder]
@[simp] theorem discardRecorder_pwc : (discardRecorder s).pwc = s.pwc := by
  simp [discardRecorder]
@[simp] theorem discardRecorder_rst : (discardRecorder s).rst = s.rst := by
  simp [discardRecorder]
@[simp] theorem discardRecorder_pins : (discardRecorder s).pins = s.pins := by
  simp [discardRecorder]
@[simp] theorem discardRecorder_due : (discardRecorder s).due = s.due := by
  simp [discardRecorder]
@[simp] theorem discardRecorder_pending : (discardRecorder s).pending = s.pending := by
  simp [discardRecorder]
@[simp] theorem discardRecorder_live (q : Port) : ((discardRecorder s).port q).live = (s.port q).live := by
  simp [discardRecorder]
@[simp] theorem discardRecorder_timer (q : Port) : ((discardRecorder s).port q).timer = (s.port q).timer := by
  simp [discardRecorder]
@[simp] theorem discardRecorder_period (q : Port) : ((discardRecorder s).port q).period = (s.port q).period := by
  simp [discardRecorder]
@[simp] theorem discardRecorder_response (q : Port) : ((discardRecorder s).port q).response = (s.port q).response := by
  simp [discardRecorder]
@[simp] theorem discardRecorder_fresh (q : Port) : ((discardRecorder s).port q).fresh = (s.port q).fresh := by
  simp [discardRecorder]
end discardRecorder

section formInputs
variable (l : List (Fin 48)) (s : State)
@[simp] theorem formInputs_ge : (formInputs l s).ge = s.ge := by
  simp [formInputs]
@[simp] theorem formInputs_lmd : (formInputs l s).lmd = s.lmd := by
  simp [formInputs]
@[simp] theorem formInputs_cc : (formInputs l s).cc = s.cc := by
  simp [formInputs]
@[simp] theorem formInputs_rlu : (formInputs l s).rlu = s.rlu := by
  simp [formInputs]
@[simp] theorem formInputs_aau : (formInputs l s).aau = s.aau := by
  simp [formInputs]
@[simp] theorem formInputs_inputs : (formInputs l s).inputs = s.inputs := by
  simp [formInputs]
@[simp] theorem formInputs_window : (formInputs l s).window = s.window := by
  simp [formInputs]
@[simp] theorem formInputs_pwc : (formInputs l s).pwc = s.pwc := by
  simp [formInputs]
@[simp] theorem formInputs_rst : (formInputs l s).rst = s.rst := by
  simp [formInputs]
@[simp] theorem formInputs_pins : (formInputs l s).pins = s.pins := by
  simp [formInputs]
@[simp] theorem formInputs_due : (formInputs l s).due = s.due := by
  simp [formInputs]
@[simp] theorem formInputs_pending : (formInputs l s).pending = s.pending := by
  simp [formInputs]
@[simp] theorem formInputs_live (q : Port) : ((formInputs l s).port q).live = (s.port q).live := by
  simp [formInputs]
@[simp] theorem formInputs_timer (q : Port) : ((formInputs l s).port q).timer = (s.port q).timer := by
  simp [formInputs]
@[simp] theorem formInputs_period (q : Port) : ((formInputs l s).port q).period = (s.port q).period := by
  simp [formInputs]
@[simp] theorem formInputs_response (q : Port) : ((formInputs l s).port q).response = (s.port q).response := by
  simp [formInputs]
@[simp] theorem formInputs_fresh (q : Port) : ((formInputs l s).port q).fresh = (s.port q).fresh := by
  simp [formInputs]
end formInputs

section handAccount
variable (s : State)
@[simp] theorem handAccount_ge : (handAccount s).ge = s.ge := by
  simp [handAccount]
@[simp] theorem handAccount_lmd : (handAccount s).lmd = s.lmd := by
  simp [handAccount]
@[simp] theorem handAccount_cc : (handAccount s).cc = s.cc := by
  simp [handAccount]
@[simp] theorem handAccount_rlu : (handAccount s).rlu = s.rlu := by
  simp [handAccount]
@[simp] theorem handAccount_aau : (handAccount s).aau = s.aau := by
  simp [handAccount]
@[simp] theorem handAccount_inputs : (handAccount s).inputs = s.inputs := by
  simp [handAccount]
@[simp] theorem handAccount_window : (handAccount s).window = s.window := by
  simp [handAccount]
@[simp] theorem handAccount_pwc : (handAccount s).pwc = s.pwc := by
  simp [handAccount]
@[simp] theorem handAccount_rst : (handAccount s).rst = s.rst := by
  simp [handAccount]
@[simp] theorem handAccount_pins : (handAccount s).pins = s.pins := by
  simp [handAccount]
@[simp] theorem handAccount_due : (handAccount s).due = s.due := by
  simp [handAccount]
@[simp] theorem handAccount_pending : (handAccount s).pending = s.pending := by
  simp [handAccount]
@[simp] theorem handAccount_live (q : Port) : ((handAccount s).port q).live = (s.port q).live := by
  simp [handAccount]
@[simp] theorem handAccount_timer (q : Port) : ((handAccount s).port q).timer = (s.port q).timer := by
  simp [handAccount]
@[simp] theorem handAccount_period (q : Port) : ((handAccount s).port q).period = (s.port q).period := by
  simp [handAccount]
@[simp] theorem handAccount_response (q : Port) : ((handAccount s).port q).response = (s.port q).response := by
  simp [handAccount]
@[simp] theorem handAccount_fresh (q : Port) : ((handAccount s).port q).fresh = (s.port q).fresh := by
  simp [handAccount]
end handAccount

section handRecorder
variable (n : Fin 48) (v : LampState) (s : State)
@[simp] theorem handRecorder_ge : (handRecorder n v s).ge = s.ge := by
  simp [handRecorder]
@[simp] theorem handRecorder_lmd : (handRecorder n v s).lmd = s.lmd := by
  simp [handRecorder]
@[simp] theorem handRecorder_cc : (handRecorder n v s).cc = s.cc := by
  simp [handRecorder]
@[simp] theorem handRecorder_rlu : (handRecorder n v s).rlu = s.rlu := by
  simp [handRecorder]
@[simp] theorem handRecorder_aau : (handRecorder n v s).aau = s.aau := by
  simp [handRecorder]
@[simp] theorem handRecorder_inputs : (handRecorder n v s).inputs = s.inputs := by
  simp [handRecorder]
@[simp] theorem handRecorder_window : (handRecorder n v s).window = s.window := by
  simp [handRecorder]
@[simp] theorem handRecorder_pwc : (handRecorder n v s).pwc = s.pwc := by
  simp [handRecorder]
@[simp] theorem handRecorder_rst : (handRecorder n v s).rst = s.rst := by
  simp [handRecorder]
@[simp] theorem handRecorder_pins : (handRecorder n v s).pins = s.pins := by
  simp [handRecorder]
@[simp] theorem handRecorder_due : (handRecorder n v s).due = s.due := by
  simp [handRecorder]
@[simp] theorem handRecorder_pending : (handRecorder n v s).pending = s.pending := by
  simp [handRecorder]
@[simp] theorem handRecorder_live (q : Port) : ((handRecorder n v s).port q).live = (s.port q).live := by
  simp [handRecorder]
@[simp] theorem handRecorder_timer (q : Port) : ((handRecorder n v s).port q).timer = (s.port q).timer := by
  simp [handRecorder]
@[simp] theorem handRecorder_period (q : Port) : ((handRecorder n v s).port q).period = (s.port q).period := by
  simp [handRecorder]
@[simp] theorem handRecorder_response (q : Port) : ((handRecorder n v s).port q).response = (s.port q).response := by
  simp [handRecorder]
@[simp] theorem handRecorder_fresh (q : Port) : ((handRecorder n v s).port q).fresh = (s.port q).fresh := by
  simp [handRecorder]
end handRecorder

section formGauge
variable (l : List (Fin 48)) (s : State)
@[simp] theorem formGauge_ge : (formGauge l s).ge = s.ge := by
  simp [formGauge]
@[simp] theorem formGauge_lmd : (formGauge l s).lmd = s.lmd := by
  simp [formGauge]
@[simp] theorem formGauge_cc : (formGauge l s).cc = s.cc := by
  simp [formGauge]
@[simp] theorem formGauge_rlu : (formGauge l s).rlu = s.rlu := by
  simp [formGauge]
@[simp] theorem formGauge_aau : (formGauge l s).aau = s.aau := by
  simp [formGauge]
@[simp] theorem formGauge_inputs : (formGauge l s).inputs = s.inputs := by
  simp [formGauge]
@[simp] theorem formGauge_window : (formGauge l s).window = s.window := by
  simp [formGauge]
@[simp] theorem formGauge_pwc : (formGauge l s).pwc = s.pwc := by
  simp [formGauge]
@[simp] theorem formGauge_rst : (formGauge l s).rst = s.rst := by
  simp [formGauge]
@[simp] theorem formGauge_pins : (formGauge l s).pins = s.pins := by
  simp [formGauge]
@[simp] theorem formGauge_due : (formGauge l s).due = s.due := by
  simp [formGauge]
@[simp] theorem formGauge_pending : (formGauge l s).pending = s.pending := by
  simp [formGauge]
@[simp] theorem formGauge_live (q : Port) : ((formGauge l s).port q).live = (s.port q).live := by
  simp [formGauge]
@[simp] theorem formGauge_timer (q : Port) : ((formGauge l s).port q).timer = (s.port q).timer := by
  simp [formGauge]
@[simp] theorem formGauge_period (q : Port) : ((formGauge l s).port q).period = (s.port q).period := by
  simp [formGauge]
@[simp] theorem formGauge_response (q : Port) : ((formGauge l s).port q).response = (s.port q).response := by
  simp [formGauge]
@[simp] theorem formGauge_fresh (q : Port) : ((formGauge l s).port q).fresh = (s.port q).fresh := by
  simp [formGauge]
end formGauge

section formGaugeAny
variable (l : List (Fin 48)) (s : State)
@[simp] theorem formGaugeAny_ge : (formGaugeAny l s).ge = s.ge := by
  unfold formGaugeAny; split <;> simp
@[simp] theorem formGaugeAny_lmd : (formGaugeAny l s).lmd = s.lmd := by
  unfold formGaugeAny; split <;> simp
@[simp] theorem formGaugeAny_cc : (formGaugeAny l s).cc = s.cc := by
  unfold formGaugeAny; split <;> simp
@[simp] theorem formGaugeAny_rlu : (formGaugeAny l s).rlu = s.rlu := by
  unfold formGaugeAny; split <;> simp
@[simp] theorem formGaugeAny_aau : (formGaugeAny l s).aau = s.aau := by
  unfold formGaugeAny; split <;> simp
@[simp] theorem formGaugeAny_inputs : (formGaugeAny l s).inputs = s.inputs := by
  unfold formGaugeAny; split <;> simp
@[simp] theorem formGaugeAny_window : (formGaugeAny l s).window = s.window := by
  unfold formGaugeAny; split <;> simp
@[simp] theorem formGaugeAny_pwc : (formGaugeAny l s).pwc = s.pwc := by
  unfold formGaugeAny; split <;> simp
@[simp] theorem formGaugeAny_rst : (formGaugeAny l s).rst = s.rst := by
  unfold formGaugeAny; split <;> simp
@[simp] theorem formGaugeAny_pins : (formGaugeAny l s).pins = s.pins := by
  unfold formGaugeAny; split <;> simp
@[simp] theorem formGaugeAny_due : (formGaugeAny l s).due = s.due := by
  unfold formGaugeAny; split <;> simp
@[simp] theorem formGaugeAny_pending : (formGaugeAny l s).pending = s.pending := by
  unfold formGaugeAny; split <;> simp
@[simp] theorem formGaugeAny_live (q : Port) : ((formGaugeAny l s).port q).live = (s.port q).live := by
  unfold formGaugeAny; split <;> simp
@[simp] theorem formGaugeAny_timer (q : Port) : ((formGaugeAny l s).port q).timer = (s.port q).timer := by
  unfold formGaugeAny; split <;> simp
@[simp] theorem formGaugeAny_period (q : Port) : ((formGaugeAny l s).port q).period = (s.port q).period := by
  unfold formGaugeAny; split <;> simp
@[simp] theorem formGaugeAny_response (q : Port) : ((formGaugeAny l s).port q).response = (s.port q).response := by
  unfold formGaugeAny; split <;> simp
@[simp] theorem formGaugeAny_fresh (q : Port) : ((formGaugeAny l s).port q).fresh = (s.port q).fresh := by
  unfold formGaugeAny; split <;> simp
end formGaugeAny

section closeWindow
variable (s : State)
@[simp] theorem closeWindow_lamps : (closeWindow s).lamps = s.lamps := by
  unfold closeWindow; split <;> simp
@[simp] theorem closeWindow_lmd : (closeWindow s).lmd = s.lmd := by
  unfold closeWindow; split <;> simp
@[simp] theorem closeWindow_cu : (closeWindow s).cu = s.cu := by
  unfold closeWindow; split <;> simp
@[simp] theorem closeWindow_cc : (closeWindow s).cc = s.cc := by
  unfold closeWindow; split <;> simp
@[simp] theorem closeWindow_rlu : (closeWindow s).rlu = s.rlu := by
  unfold closeWindow; split <;> simp
@[simp] theorem closeWindow_aau : (closeWindow s).aau = s.aau := by
  unfold closeWindow; split <;> simp
@[simp] theorem closeWindow_inputs : (closeWindow s).inputs = s.inputs := by
  unfold closeWindow; split <;> simp
@[simp] theorem closeWindow_pwc : (closeWindow s).pwc = s.pwc := by
  unfold closeWindow; split <;> simp
@[simp] theorem closeWindow_rst : (closeWindow s).rst = s.rst := by
  unfold closeWindow; split <;> simp
@[simp] theorem closeWindow_pins : (closeWindow s).pins = s.pins := by
  unfold closeWindow; split <;> simp
@[simp] theorem closeWindow_choices : (closeWindow s).choices = s.choices := by
  unfold closeWindow; split <;> simp
@[simp] theorem closeWindow_due : (closeWindow s).due = s.due := by
  unfold closeWindow; split <;> simp
@[simp] theorem closeWindow_pending : (closeWindow s).pending = s.pending := by
  unfold closeWindow; split <;> simp
@[simp] theorem closeWindow_port (q : Port) : (closeWindow s).port q = s.port q := by
  unfold closeWindow; split <;> simp
end closeWindow

section handSpeed
variable (v : Option Nat) (s : State)
@[simp] theorem handSpeed_lamps : (handSpeed v s).lamps = s.lamps := by
  unfold handSpeed; split
  · rfl
  · split
    · split <;> simp
    · simp
@[simp] theorem handSpeed_lmd : (handSpeed v s).lmd = s.lmd := by
  unfold handSpeed; split
  · rfl
  · split
    · split <;> simp
    · simp
@[simp] theorem handSpeed_cc : (handSpeed v s).cc = s.cc := by
  unfold handSpeed; split
  · rfl
  · split
    · split <;> simp
    · simp
@[simp] theorem handSpeed_rlu : (handSpeed v s).rlu = s.rlu := by
  unfold handSpeed; split
  · rfl
  · split
    · split <;> simp
    · simp
@[simp] theorem handSpeed_aau : (handSpeed v s).aau = s.aau := by
  unfold handSpeed; split
  · rfl
  · split
    · split <;> simp
    · simp
@[simp] theorem handSpeed_inputs : (handSpeed v s).inputs = s.inputs := by
  unfold handSpeed; split
  · rfl
  · split
    · split <;> simp
    · simp
@[simp] theorem handSpeed_pwc : (handSpeed v s).pwc = s.pwc := by
  unfold handSpeed; split
  · rfl
  · split
    · split <;> simp
    · simp
@[simp] theorem handSpeed_rst : (handSpeed v s).rst = s.rst := by
  unfold handSpeed; split
  · rfl
  · split
    · split <;> simp
    · simp
@[simp] theorem handSpeed_pins : (handSpeed v s).pins = s.pins := by
  unfold handSpeed; split
  · rfl
  · split
    · split <;> simp
    · simp
@[simp] theorem handSpeed_choices : (handSpeed v s).choices = s.choices := by
  unfold handSpeed; split
  · rfl
  · split
    · split <;> simp
    · simp
@[simp] theorem handSpeed_due : (handSpeed v s).due = s.due := by
  unfold handSpeed; split
  · rfl
  · split
    · split <;> simp
    · simp
@[simp] theorem handSpeed_pending : (handSpeed v s).pending = s.pending := by
  unfold handSpeed; split
  · rfl
  · split
    · split <;> simp
    · simp
@[simp] theorem handSpeed_port (q : Port) : (handSpeed v s).port q = s.port q := by
  unfold handSpeed; split
  · rfl
  · split
    · split <;> simp
    · simp
end handSpeed

section gaugeSelect
variable (c : Fin 8 → Bool) (f : Channel → Channel) (s : State)
@[simp] theorem gaugeSelect_lamps : (gaugeSelect c f s).lamps = s.lamps := by
  simp [gaugeSelect]
@[simp] theorem gaugeSelect_lmd : (gaugeSelect c f s).lmd = s.lmd := by
  simp [gaugeSelect]
@[simp] theorem gaugeSelect_cc : (gaugeSelect c f s).cc = s.cc := by
  simp [gaugeSelect]
@[simp] theorem gaugeSelect_rlu : (gaugeSelect c f s).rlu = s.rlu := by
  simp [gaugeSelect]
@[simp] theorem gaugeSelect_aau : (gaugeSelect c f s).aau = s.aau := by
  simp [gaugeSelect]
@[simp] theorem gaugeSelect_inputs : (gaugeSelect c f s).inputs = s.inputs := by
  simp [gaugeSelect]
@[simp] theorem gaugeSelect_pwc : (gaugeSelect c f s).pwc = s.pwc := by
  simp [gaugeSelect]
@[simp] theorem gaugeSelect_rst : (gaugeSelect c f s).rst = s.rst := by
  simp [gaugeSelect]
@[simp] theorem gaugeSelect_pins : (gaugeSelect c f s).pins = s.pins := by
  simp [gaugeSelect]
@[simp] theorem gaugeSelect_due : (gaugeSelect c f s).due = s.due := by
  simp [gaugeSelect]
@[simp] theorem gaugeSelect_pending : (gaugeSelect c f s).pending = s.pending := by
  simp [gaugeSelect]
@[simp] theorem gaugeSelect_live (q : Port) : ((gaugeSelect c f s).port q).live = (s.port q).live := by
  simp [gaugeSelect]
@[simp] theorem gaugeSelect_timer (q : Port) : ((gaugeSelect c f s).port q).timer = (s.port q).timer := by
  simp [gaugeSelect]
@[simp] theorem gaugeSelect_period (q : Port) : ((gaugeSelect c f s).port q).period = (s.port q).period := by
  simp [gaugeSelect]
@[simp] theorem gaugeSelect_response (q : Port) : ((gaugeSelect c f s).port q).response = (s.port q).response := by
  simp [gaugeSelect]
@[simp] theorem gaugeSelect_fresh (q : Port) : ((gaugeSelect c f s).port q).fresh = (s.port q).fresh := by
  simp [gaugeSelect]
end gaugeSelect

section gaugeChange
variable (c : Fin 8 → Bool) (f : Channel → Channel) (s : State)
@[simp] theorem gaugeChange_lmd : (gaugeChange c f s).lmd = s.lmd := by
  simp [gaugeChange]
@[simp] theorem gaugeChange_cc : (gaugeChange c f s).cc = s.cc := by
  simp [gaugeChange]
@[simp] theorem gaugeChange_rlu : (gaugeChange c f s).rlu = s.rlu := by
  simp [gaugeChange]
@[simp] theorem gaugeChange_aau : (gaugeChange c f s).aau = s.aau := by
  simp [gaugeChange]
@[simp] theorem gaugeChange_inputs : (gaugeChange c f s).inputs = s.inputs := by
  simp [gaugeChange]
@[simp] theorem gaugeChange_pwc : (gaugeChange c f s).pwc = s.pwc := by
  simp [gaugeChange]
@[simp] theorem gaugeChange_rst : (gaugeChange c f s).rst = s.rst := by
  simp [gaugeChange]
@[simp] theorem gaugeChange_pins : (gaugeChange c f s).pins = s.pins := by
  simp [gaugeChange]
@[simp] theorem gaugeChange_due : (gaugeChange c f s).due = s.due := by
  simp [gaugeChange]
@[simp] theorem gaugeChange_pending : (gaugeChange c f s).pending = s.pending := by
  simp [gaugeChange]
@[simp] theorem gaugeChange_live (q : Port) : ((gaugeChange c f s).port q).live = (s.port q).live := by
  simp [gaugeChange]
@[simp] theorem gaugeChange_timer (q : Port) : ((gaugeChange c f s).port q).timer = (s.port q).timer := by
  simp [gaugeChange]
@[simp] theorem gaugeChange_period (q : Port) : ((gaugeChange c f s).port q).period = (s.port q).period := by
  simp [gaugeChange]
@[simp] theorem gaugeChange_response (q : Port) : ((gaugeChange c f s).port q).response = (s.port q).response := by
  simp [gaugeChange]
@[simp] theorem gaugeChange_fresh (q : Port) : ((gaugeChange c f s).port q).fresh = (s.port q).fresh := by
  simp [gaugeChange]
end gaugeChange

section txStart
variable (k : TxKind) (s : State)
@[simp] theorem txStart_ge : (txStart k s).ge = s.ge := by
  simp [txStart]
@[simp] theorem txStart_lamps : (txStart k s).lamps = s.lamps := by
  simp [txStart]
@[simp] theorem txStart_lmd : (txStart k s).lmd = s.lmd := by
  simp [txStart]
@[simp] theorem txStart_cu : (txStart k s).cu = s.cu := by
  simp [txStart]
@[simp] theorem txStart_cc : (txStart k s).cc = s.cc := by
  simp [txStart]
@[simp] theorem txStart_aau : (txStart k s).aau = s.aau := by
  simp [txStart]
@[simp] theorem txStart_inputs : (txStart k s).inputs = s.inputs := by
  simp [txStart]
@[simp] theorem txStart_window : (txStart k s).window = s.window := by
  simp [txStart]
@[simp] theorem txStart_pwc : (txStart k s).pwc = s.pwc := by
  simp [txStart]
@[simp] theorem txStart_rst : (txStart k s).rst = s.rst := by
  simp [txStart]
@[simp] theorem txStart_pins : (txStart k s).pins = s.pins := by
  simp [txStart]
@[simp] theorem txStart_choices : (txStart k s).choices = s.choices := by
  simp [txStart]
@[simp] theorem txStart_due : (txStart k s).due = s.due := by
  simp [txStart]
@[simp] theorem txStart_pending : (txStart k s).pending = s.pending := by
  simp [txStart]
@[simp] theorem txStart_port (q : Port) : (txStart k s).port q = s.port q := by
  simp [txStart]
end txStart

section txDue
variable (k : TxKind) (s : State)
@[simp] theorem txDue_ge : (txDue k s).ge = s.ge := by
  unfold txDue; split <;> simp
@[simp] theorem txDue_lamps : (txDue k s).lamps = s.lamps := by
  unfold txDue; split <;> simp
@[simp] theorem txDue_lmd : (txDue k s).lmd = s.lmd := by
  unfold txDue; split <;> simp
@[simp] theorem txDue_cu : (txDue k s).cu = s.cu := by
  unfold txDue; split <;> simp
@[simp] theorem txDue_cc : (txDue k s).cc = s.cc := by
  unfold txDue; split <;> simp
@[simp] theorem txDue_aau : (txDue k s).aau = s.aau := by
  unfold txDue; split <;> simp
@[simp] theorem txDue_inputs : (txDue k s).inputs = s.inputs := by
  unfold txDue; split <;> simp
@[simp] theorem txDue_window : (txDue k s).window = s.window := by
  unfold txDue; split <;> simp
@[simp] theorem txDue_pwc : (txDue k s).pwc = s.pwc := by
  unfold txDue; split <;> simp
@[simp] theorem txDue_rst : (txDue k s).rst = s.rst := by
  unfold txDue; split <;> simp
@[simp] theorem txDue_pins : (txDue k s).pins = s.pins := by
  unfold txDue; split <;> simp
@[simp] theorem txDue_choices : (txDue k s).choices = s.choices := by
  unfold txDue; split <;> simp
@[simp] theorem txDue_due : (txDue k s).due = s.due := by
  unfold txDue; split <;> simp
@[simp] theorem txDue_pending : (txDue k s).pending = s.pending := by
  unfold txDue; split <;> simp
@[simp] theorem txDue_port (q : Port) : (txDue k s).port q = s.port q := by
  unfold txDue; split <;> simp
end txDue

section shiftOut
variable (p : Port) (n : Option Nat) (s : State)
@[simp] theorem shiftOut_ge : (shiftOut p n s).ge = s.ge := by
  simp [shiftOut]
@[simp] theorem shiftOut_lamps : (shiftOut p n s).lamps = s.lamps := by
  simp [shiftOut]
@[simp] theorem shiftOut_lmd : (shiftOut p n s).lmd = s.lmd := by
  simp [shiftOut]
@[simp] theorem shiftOut_cu : (shiftOut p n s).cu = s.cu := by
  simp [shiftOut]
@[simp] theorem shiftOut_cc : (shiftOut p n s).cc = s.cc := by
  simp [shiftOut]
@[simp] theorem shiftOut_rlu : (shiftOut p n s).rlu = s.rlu := by
  simp [shiftOut]
@[simp] theorem shiftOut_aau : (shiftOut p n s).aau = s.aau := by
  simp [shiftOut]
@[simp] theorem shiftOut_inputs : (shiftOut p n s).inputs = s.inputs := by
  simp [shiftOut]
@[simp] theorem shiftOut_window : (shiftOut p n s).window = s.window := by
  simp [shiftOut]
@[simp] theorem shiftOut_pwc : (shiftOut p n s).pwc = s.pwc := by
  simp [shiftOut]
@[simp] theorem shiftOut_rst : (shiftOut p n s).rst = s.rst := by
  simp [shiftOut]
@[simp] theorem shiftOut_choices : (shiftOut p n s).choices = s.choices := by
  simp [shiftOut]
@[simp] theorem shiftOut_due : (shiftOut p n s).due = s.due := by
  simp [shiftOut]
@[simp] theorem shiftOut_pending : (shiftOut p n s).pending = s.pending := by
  simp [shiftOut]
@[simp] theorem shiftOut_port (q : Port) : (shiftOut p n s).port q = s.port q := by
  simp [shiftOut]
end shiftOut

/-- What a frame leaves at the leads of its port: what the leads told of it is used up, and the bytes offered and
the bits clocked are those of the frame; the leads of the other port, and the measured leads, stand. -/
@[simp] theorem shiftOut_spi_same (p : Port) (n : Option Nat) (s : State) :
    (shiftOut p n s).spi p =
      { s.spi p with ended := (s.spi p).ended.tail
                     offered := responseFrame (((s.spi p).ended.head?.map FrameEnd.status).getD (statusByte s p))
                       (s.port p).response
                     clocked := ((s.spi p).ended.head?.map FrameEnd.bits).or n } := by simp [shiftOut]
@[simp] theorem shiftOut_spi_other {p q : Port} (h : q ≠ p) (n : Option Nat) (s : State) : (shiftOut p n s).spi q = s.spi q := by
  simp [shiftOut, h]
@[simp] theorem shiftOut_measured (p : Port) (n : Option Nat) (s : State) : (shiftOut p n s).pins.inputs = s.pins.inputs := by
  simp [shiftOut]
@[simp] theorem shiftOut_battery (p : Port) (n : Option Nat) (s : State) : (shiftOut p n s).pins.battery = s.pins.battery := by
  simp [shiftOut]
@[simp] theorem shiftOut_draws (p : Port) (n : Option Nat) (s : State) : (shiftOut p n s).pins.draws = s.pins.draws := by
  simp [shiftOut]
@[simp] theorem shiftOut_vdd5Low (p : Port) (n : Option Nat) (s : State) : (shiftOut p n s).pins.vdd5Low = s.pins.vdd5Low := by
  simp [shiftOut]
@[simp] theorem shiftOut_rstLow (p : Port) (n : Option Nat) (s : State) : (shiftOut p n s).pins.rstLow = s.pins.rstLow := by
  simp [shiftOut]


section clearFresh
variable (p : Port) (s : State)
@[simp] theorem clearFresh_ge : (clearFresh p s).ge = s.ge := by
  simp [clearFresh]
@[simp] theorem clearFresh_lamps : (clearFresh p s).lamps = s.lamps := by
  simp [clearFresh]
@[simp] theorem clearFresh_lmd : (clearFresh p s).lmd = s.lmd := by
  simp [clearFresh]
@[simp] theorem clearFresh_cu : (clearFresh p s).cu = s.cu := by
  simp [clearFresh]
@[simp] theorem clearFresh_cc : (clearFresh p s).cc = s.cc := by
  simp [clearFresh]
@[simp] theorem clearFresh_rlu : (clearFresh p s).rlu = s.rlu := by
  simp [clearFresh]
@[simp] theorem clearFresh_aau : (clearFresh p s).aau = s.aau := by
  simp [clearFresh]
@[simp] theorem clearFresh_inputs : (clearFresh p s).inputs = s.inputs := by
  simp [clearFresh]
@[simp] theorem clearFresh_window : (clearFresh p s).window = s.window := by
  simp [clearFresh]
@[simp] theorem clearFresh_pwc : (clearFresh p s).pwc = s.pwc := by
  simp [clearFresh]
@[simp] theorem clearFresh_rst : (clearFresh p s).rst = s.rst := by
  simp [clearFresh]
@[simp] theorem clearFresh_pins : (clearFresh p s).pins = s.pins := by
  simp [clearFresh]
@[simp] theorem clearFresh_choices : (clearFresh p s).choices = s.choices := by
  simp [clearFresh]
@[simp] theorem clearFresh_due : (clearFresh p s).due = s.due := by
  simp [clearFresh]
@[simp] theorem clearFresh_pending : (clearFresh p s).pending = s.pending := by
  simp [clearFresh]
end clearFresh

section restartTimer
variable (p : Port) (s : State)
@[simp] theorem restartTimer_ge : (restartTimer p s).ge = s.ge := by
  unfold restartTimer; split <;> simp
@[simp] theorem restartTimer_lamps : (restartTimer p s).lamps = s.lamps := by
  unfold restartTimer; split <;> simp
@[simp] theorem restartTimer_lmd : (restartTimer p s).lmd = s.lmd := by
  unfold restartTimer; split <;> simp
@[simp] theorem restartTimer_cu : (restartTimer p s).cu = s.cu := by
  unfold restartTimer; split <;> simp
@[simp] theorem restartTimer_cc : (restartTimer p s).cc = s.cc := by
  unfold restartTimer; split <;> simp
@[simp] theorem restartTimer_rlu : (restartTimer p s).rlu = s.rlu := by
  unfold restartTimer; split <;> simp
@[simp] theorem restartTimer_aau : (restartTimer p s).aau = s.aau := by
  unfold restartTimer; split <;> simp
@[simp] theorem restartTimer_inputs : (restartTimer p s).inputs = s.inputs := by
  unfold restartTimer; split <;> simp
@[simp] theorem restartTimer_window : (restartTimer p s).window = s.window := by
  unfold restartTimer; split <;> simp
@[simp] theorem restartTimer_pwc : (restartTimer p s).pwc = s.pwc := by
  unfold restartTimer; split <;> simp
@[simp] theorem restartTimer_rst : (restartTimer p s).rst = s.rst := by
  unfold restartTimer; split <;> simp
@[simp] theorem restartTimer_pins : (restartTimer p s).pins = s.pins := by
  unfold restartTimer; split <;> simp
@[simp] theorem restartTimer_choices : (restartTimer p s).choices = s.choices := by
  unfold restartTimer; split <;> simp
@[simp] theorem restartTimer_due : (restartTimer p s).due = s.due := by
  unfold restartTimer; split <;> simp
@[simp] theorem restartTimer_pending : (restartTimer p s).pending = s.pending := by
  unfold restartTimer; split <;> simp
end restartTimer

section returnSource
variable (p : Port) (s : State)
@[simp] theorem returnSource_ge : (returnSource p s).ge = s.ge := by
  unfold returnSource; split <;> simp
@[simp] theorem returnSource_lmd : (returnSource p s).lmd = s.lmd := by
  unfold returnSource; split <;> simp
@[simp] theorem returnSource_cc : (returnSource p s).cc = s.cc := by
  unfold returnSource; split <;> simp
@[simp] theorem returnSource_rlu : (returnSource p s).rlu = s.rlu := by
  unfold returnSource; split <;> simp
@[simp] theorem returnSource_aau : (returnSource p s).aau = s.aau := by
  unfold returnSource; split <;> simp
@[simp] theorem returnSource_inputs : (returnSource p s).inputs = s.inputs := by
  unfold returnSource; split <;> simp
@[simp] theorem returnSource_window : (returnSource p s).window = s.window := by
  unfold returnSource; split <;> simp
@[simp] theorem returnSource_pwc : (returnSource p s).pwc = s.pwc := by
  unfold returnSource; split <;> simp
@[simp] theorem returnSource_rst : (returnSource p s).rst = s.rst := by
  unfold returnSource; split <;> simp
@[simp] theorem returnSource_pins : (returnSource p s).pins = s.pins := by
  unfold returnSource; split <;> simp
@[simp] theorem returnSource_due : (returnSource p s).due = s.due := by
  unfold returnSource; split <;> simp
@[simp] theorem returnSource_pending : (returnSource p s).pending = s.pending := by
  unfold returnSource; split <;> simp
end returnSource

section beginFrame
variable (p : Port) (s : State)
@[simp] theorem beginFrame_ge : (beginFrame p s).ge = s.ge := by
  simp [beginFrame]
@[simp] theorem beginFrame_lmd : (beginFrame p s).lmd = s.lmd := by
  simp [beginFrame]
@[simp] theorem beginFrame_cc : (beginFrame p s).cc = s.cc := by
  simp [beginFrame]
@[simp] theorem beginFrame_rlu : (beginFrame p s).rlu = s.rlu := by
  simp [beginFrame]
@[simp] theorem beginFrame_aau : (beginFrame p s).aau = s.aau := by
  simp [beginFrame]
@[simp] theorem beginFrame_inputs : (beginFrame p s).inputs = s.inputs := by
  simp [beginFrame]
@[simp] theorem beginFrame_window : (beginFrame p s).window = s.window := by
  simp [beginFrame]
@[simp] theorem beginFrame_pwc : (beginFrame p s).pwc = s.pwc := by
  simp [beginFrame]
@[simp] theorem beginFrame_rst : (beginFrame p s).rst = s.rst := by
  simp [beginFrame]
@[simp] theorem beginFrame_due : (beginFrame p s).due = s.due := by
  simp [beginFrame]
@[simp] theorem beginFrame_pending : (beginFrame p s).pending = s.pending := by
  simp [beginFrame]
end beginFrame

/-- The leads after the steps before a request are those after the frame was shifted. -/
@[simp] theorem beginFrame_pins (p : Port) (s : State) : (beginFrame p s).pins = (shiftOut p (some 192) s).pins := by
  simp [beginFrame]

/-! ### Timer commands -/

/-- What a timer command does, once and for all: where its event takes place it acts, and it is no longer found due. -/
theorem timed_acts {c : Instr} {running out : Bool} {s : State} (act : State → State) (h : takesPlace c running out s = true) :
    timed c running out act s = act (s.setDue (s.due.erase c)) := by simp [timed, h]
theorem timed_lapses {c : Instr} {running out : Bool} {s : State} (act : State → State)
    (h : takesPlace c running out s = false) : timed c running out act s = s.setDue (s.due.erase c) := by simp [timed, h]
theorem takesPlace_due {c : Instr} {running out : Bool} {s : State} (h : c ∈ s.due) : takesPlace c running out s = out := by
  simp [takesPlace, h]
theorem takesPlace_given {c : Instr} {running out : Bool} {s : State} (h : c ∉ s.due) :
    takesPlace c running out s = running := by simp [takesPlace, h]


section respond
variable (p : Port) (r : Response) (s : State)
@[simp] theorem respond_ge : (respond p r s).ge = s.ge := by
  simp [respond]
@[simp] theorem respond_lamps : (respond p r s).lamps = s.lamps := by
  simp [respond]
@[simp] theorem respond_lmd : (respond p r s).lmd = s.lmd := by
  simp [respond]
@[simp] theorem respond_cu : (respond p r s).cu = s.cu := by
  simp [respond]
@[simp] theorem respond_cc : (respond p r s).cc = s.cc := by
  simp [respond]
@[simp] theorem respond_rlu : (respond p r s).rlu = s.rlu := by
  simp [respond]
@[simp] theorem respond_aau : (respond p r s).aau = s.aau := by
  simp [respond]
@[simp] theorem respond_inputs : (respond p r s).inputs = s.inputs := by
  simp [respond]
@[simp] theorem respond_window : (respond p r s).window = s.window := by
  simp [respond]
@[simp] theorem respond_pwc : (respond p r s).pwc = s.pwc := by
  simp [respond]
@[simp] theorem respond_rst : (respond p r s).rst = s.rst := by
  simp [respond]
@[simp] theorem respond_pins : (respond p r s).pins = s.pins := by
  simp [respond]
@[simp] theorem respond_choices : (respond p r s).choices = s.choices := by
  simp [respond]
@[simp] theorem respond_due : (respond p r s).due = s.due := by
  simp [respond]
@[simp] theorem respond_pending : (respond p r s).pending = s.pending := by
  simp [respond]
end respond

section enterPower
variable (w : PowerState) (s : State)
@[simp] theorem enterPower_ge : (enterPower w s).ge = s.ge := by
  simp [enterPower]
@[simp] theorem enterPower_lamps : (enterPower w s).lamps = s.lamps := by
  simp [enterPower]
@[simp] theorem enterPower_lmd : (enterPower w s).lmd = s.lmd := by
  simp [enterPower]
@[simp] theorem enterPower_cu : (enterPower w s).cu = s.cu := by
  simp [enterPower]
@[simp] theorem enterPower_cc : (enterPower w s).cc = s.cc := by
  simp [enterPower]
@[simp] theorem enterPower_rlu : (enterPower w s).rlu = s.rlu := by
  simp [enterPower]
@[simp] theorem enterPower_aau : (enterPower w s).aau = s.aau := by
  simp [enterPower]
@[simp] theorem enterPower_inputs : (enterPower w s).inputs = s.inputs := by
  simp [enterPower]
@[simp] theorem enterPower_window : (enterPower w s).window = s.window := by
  simp [enterPower]
@[simp] theorem enterPower_rst : (enterPower w s).rst = s.rst := by
  simp [enterPower]
@[simp] theorem enterPower_pins : (enterPower w s).pins = s.pins := by
  simp [enterPower]
@[simp] theorem enterPower_choices : (enterPower w s).choices = s.choices := by
  simp [enterPower]
@[simp] theorem enterPower_due : (enterPower w s).due = s.due := by
  simp [enterPower]
@[simp] theorem enterPower_pending : (enterPower w s).pending = s.pending := by
  simp [enterPower]
@[simp] theorem enterPower_live (q : Port) : ((enterPower w s).port q).live = (s.port q).live := by
  simp [enterPower]
@[simp] theorem enterPower_timer (q : Port) : ((enterPower w s).port q).timer = (s.port q).timer := by
  simp [enterPower]
@[simp] theorem enterPower_period (q : Port) : ((enterPower w s).port q).period = (s.port q).period := by
  simp [enterPower]
@[simp] theorem enterPower_response (q : Port) : ((enterPower w s).port q).response = (s.port q).response := by
  simp [enterPower]
@[simp] theorem enterPower_fresh (q : Port) : ((enterPower w s).port q).fresh = (s.port q).fresh := by
  simp [enterPower]
end enterPower

section formAllGauge
variable (s : State)
@[simp] theorem formAllGauge_ge : (formAllGauge s).ge = s.ge := by
  simp [formAllGauge]
@[simp] theorem formAllGauge_lmd : (formAllGauge s).lmd = s.lmd := by
  simp [formAllGauge]
@[simp] theorem formAllGauge_cc : (formAllGauge s).cc = s.cc := by
  simp [formAllGauge]
@[simp] theorem formAllGauge_rlu : (formAllGauge s).rlu = s.rlu := by
  simp [formAllGauge]
@[simp] theorem formAllGauge_aau : (formAllGauge s).aau = s.aau := by
  simp [formAllGauge]
@[simp] theorem formAllGauge_inputs : (formAllGauge s).inputs = s.inputs := by
  simp [formAllGauge]
@[simp] theorem formAllGauge_window : (formAllGauge s).window = s.window := by
  simp [formAllGauge]
@[simp] theorem formAllGauge_pwc : (formAllGauge s).pwc = s.pwc := by
  simp [formAllGauge]
@[simp] theorem formAllGauge_rst : (formAllGauge s).rst = s.rst := by
  simp [formAllGauge]
@[simp] theorem formAllGauge_pins : (formAllGauge s).pins = s.pins := by
  simp [formAllGauge]
@[simp] theorem formAllGauge_due : (formAllGauge s).due = s.due := by
  simp [formAllGauge]
@[simp] theorem formAllGauge_pending : (formAllGauge s).pending = s.pending := by
  simp [formAllGauge]
@[simp] theorem formAllGauge_live (q : Port) : ((formAllGauge s).port q).live = (s.port q).live := by
  simp [formAllGauge]
@[simp] theorem formAllGauge_timer (q : Port) : ((formAllGauge s).port q).timer = (s.port q).timer := by
  simp [formAllGauge]
@[simp] theorem formAllGauge_period (q : Port) : ((formAllGauge s).port q).period = (s.port q).period := by
  simp [formAllGauge]
@[simp] theorem formAllGauge_response (q : Port) : ((formAllGauge s).port q).response = (s.port q).response := by
  simp [formAllGauge]
@[simp] theorem formAllGauge_fresh (q : Port) : ((formAllGauge s).port q).fresh = (s.port q).fresh := by
  simp [formAllGauge]
end formAllGauge

section mapChannels
variable (f : Channel → Channel) (s : State)
@[simp] theorem mapChannels_lamps : (mapChannels f s).lamps = s.lamps := by
  simp [mapChannels]
@[simp] theorem mapChannels_lmd : (mapChannels f s).lmd = s.lmd := by
  simp [mapChannels]
@[simp] theorem mapChannels_cu : (mapChannels f s).cu = s.cu := by
  simp [mapChannels]
@[simp] theorem mapChannels_cc : (mapChannels f s).cc = s.cc := by
  simp [mapChannels]
@[simp] theorem mapChannels_rlu : (mapChannels f s).rlu = s.rlu := by
  simp [mapChannels]
@[simp] theorem mapChannels_aau : (mapChannels f s).aau = s.aau := by
  simp [mapChannels]
@[simp] theorem mapChannels_inputs : (mapChannels f s).inputs = s.inputs := by
  simp [mapChannels]
@[simp] theorem mapChannels_window : (mapChannels f s).window = s.window := by
  simp [mapChannels]
@[simp] theorem mapChannels_pwc : (mapChannels f s).pwc = s.pwc := by
  simp [mapChannels]
@[simp] theorem mapChannels_rst : (mapChannels f s).rst = s.rst := by
  simp [mapChannels]
@[simp] theorem mapChannels_pins : (mapChannels f s).pins = s.pins := by
  simp [mapChannels]
@[simp] theorem mapChannels_choices : (mapChannels f s).choices = s.choices := by
  simp [mapChannels]
@[simp] theorem mapChannels_due : (mapChannels f s).due = s.due := by
  simp [mapChannels]
@[simp] theorem mapChannels_pending : (mapChannels f s).pending = s.pending := by
  simp [mapChannels]
@[simp] theorem mapChannels_port (q : Port) : (mapChannels f s).port q = s.port q := by
  simp [mapChannels]
end mapChannels

section stopTimer
variable (p : Port) (s : State)
@[simp] theorem stopTimer_ge : (stopTimer p s).ge = s.ge := by
  simp [stopTimer]
@[simp] theorem stopTimer_lamps : (stopTimer p s).lamps = s.lamps := by
  simp [stopTimer]
@[simp] theorem stopTimer_lmd : (stopTimer p s).lmd = s.lmd := by
  simp [stopTimer]
@[simp] theorem stopTimer_cu : (stopTimer p s).cu = s.cu := by
  simp [stopTimer]
@[simp] theorem stopTimer_cc : (stopTimer p s).cc = s.cc := by
  simp [stopTimer]
@[simp] theorem stopTimer_rlu : (stopTimer p s).rlu = s.rlu := by
  simp [stopTimer]
@[simp] theorem stopTimer_aau : (stopTimer p s).aau = s.aau := by
  simp [stopTimer]
@[simp] theorem stopTimer_inputs : (stopTimer p s).inputs = s.inputs := by
  simp [stopTimer]
@[simp] theorem stopTimer_window : (stopTimer p s).window = s.window := by
  simp [stopTimer]
@[simp] theorem stopTimer_pwc : (stopTimer p s).pwc = s.pwc := by
  simp [stopTimer]
@[simp] theorem stopTimer_rst : (stopTimer p s).rst = s.rst := by
  simp [stopTimer]
@[simp] theorem stopTimer_pins : (stopTimer p s).pins = s.pins := by
  simp [stopTimer]
@[simp] theorem stopTimer_choices : (stopTimer p s).choices = s.choices := by
  simp [stopTimer]
@[simp] theorem stopTimer_due : (stopTimer p s).due = s.due := by
  simp [stopTimer]
@[simp] theorem stopTimer_pending : (stopTimer p s).pending = s.pending := by
  simp [stopTimer]
end stopTimer

section restartIfLive
variable (p : Port) (s : State)
@[simp] theorem restartIfLive_ge : (restartIfLive p s).ge = s.ge := by
  unfold restartIfLive; split <;> simp
@[simp] theorem restartIfLive_lamps : (restartIfLive p s).lamps = s.lamps := by
  unfold restartIfLive; split <;> simp
@[simp] theorem restartIfLive_lmd : (restartIfLive p s).lmd = s.lmd := by
  unfold restartIfLive; split <;> simp
@[simp] theorem restartIfLive_cu : (restartIfLive p s).cu = s.cu := by
  unfold restartIfLive; split <;> simp
@[simp] theorem restartIfLive_cc : (restartIfLive p s).cc = s.cc := by
  unfold restartIfLive; split <;> simp
@[simp] theorem restartIfLive_rlu : (restartIfLive p s).rlu = s.rlu := by
  unfold restartIfLive; split <;> simp
@[simp] theorem restartIfLive_aau : (restartIfLive p s).aau = s.aau := by
  unfold restartIfLive; split <;> simp
@[simp] theorem restartIfLive_inputs : (restartIfLive p s).inputs = s.inputs := by
  unfold restartIfLive; split <;> simp
@[simp] theorem restartIfLive_window : (restartIfLive p s).window = s.window := by
  unfold restartIfLive; split <;> simp
@[simp] theorem restartIfLive_pwc : (restartIfLive p s).pwc = s.pwc := by
  unfold restartIfLive; split <;> simp
@[simp] theorem restartIfLive_rst : (restartIfLive p s).rst = s.rst := by
  unfold restartIfLive; split <;> simp
@[simp] theorem restartIfLive_pins : (restartIfLive p s).pins = s.pins := by
  unfold restartIfLive; split <;> simp
@[simp] theorem restartIfLive_choices : (restartIfLive p s).choices = s.choices := by
  unfold restartIfLive; split <;> simp
@[simp] theorem restartIfLive_due : (restartIfLive p s).due = s.due := by
  unfold restartIfLive; split <;> simp
@[simp] theorem restartIfLive_pending : (restartIfLive p s).pending = s.pending := by
  unfold restartIfLive; split <;> simp
end restartIfLive

section quiesce
variable (s : State)
@[simp] theorem quiesce_ge : (quiesce s).ge = s.ge := by
  simp [quiesce]
@[simp] theorem quiesce_lamps : (quiesce s).lamps = s.lamps := by
  simp [quiesce]
@[simp] theorem quiesce_lmd : (quiesce s).lmd = s.lmd := by
  simp [quiesce]
@[simp] theorem quiesce_cu : (quiesce s).cu = s.cu := by
  simp [quiesce]
@[simp] theorem quiesce_cc : (quiesce s).cc = s.cc := by
  simp [quiesce]
@[simp] theorem quiesce_aau : (quiesce s).aau = s.aau := by
  simp [quiesce]
@[simp] theorem quiesce_inputs : (quiesce s).inputs = s.inputs := by
  simp [quiesce]
@[simp] theorem quiesce_window : (quiesce s).window = s.window := by
  simp [quiesce]
@[simp] theorem quiesce_pwc : (quiesce s).pwc = s.pwc := by
  simp [quiesce]
@[simp] theorem quiesce_rst : (quiesce s).rst = s.rst := by
  simp [quiesce]
@[simp] theorem quiesce_pins : (quiesce s).pins = s.pins := by
  simp [quiesce]
@[simp] theorem quiesce_choices : (quiesce s).choices = s.choices := by
  simp [quiesce]
@[simp] theorem quiesce_due : (quiesce s).due = s.due := by
  simp [quiesce]
@[simp] theorem quiesce_pending : (quiesce s).pending = s.pending := by
  simp [quiesce]
end quiesce

section awaken
variable (s : State)
@[simp] theorem awaken_ge : (awaken s).ge = s.ge := by
  simp [awaken]
@[simp] theorem awaken_lamps : (awaken s).lamps = s.lamps := by
  simp [awaken]
@[simp] theorem awaken_lmd : (awaken s).lmd = s.lmd := by
  simp [awaken]
@[simp] theorem awaken_cu : (awaken s).cu = s.cu := by
  simp [awaken]
@[simp] theorem awaken_cc : (awaken s).cc = s.cc := by
  simp [awaken]
@[simp] theorem awaken_aau : (awaken s).aau = s.aau := by
  simp [awaken]
@[simp] theorem awaken_inputs : (awaken s).inputs = s.inputs := by
  simp [awaken]
@[simp] theorem awaken_window : (awaken s).window = s.window := by
  simp [awaken]
@[simp] theorem awaken_pwc : (awaken s).pwc = s.pwc := by
  simp [awaken]
@[simp] theorem awaken_rst : (awaken s).rst = s.rst := by
  simp [awaken]
@[simp] theorem awaken_pins : (awaken s).pins = s.pins := by
  simp [awaken]
@[simp] theorem awaken_choices : (awaken s).choices = s.choices := by
  simp [awaken]
@[simp] theorem awaken_due : (awaken s).due = s.due := by
  simp [awaken]
@[simp] theorem awaken_pending : (awaken s).pending = s.pending := by
  simp [awaken]
end awaken

section holdInternal
variable (s : State)
@[simp] theorem holdInternal_ge : (holdInternal s).ge = s.ge := by
  simp [holdInternal]
@[simp] theorem holdInternal_lamps : (holdInternal s).lamps = s.lamps := by
  simp [holdInternal]
@[simp] theorem holdInternal_cu : (holdInternal s).cu = s.cu := by
  simp [holdInternal]
@[simp] theorem holdInternal_cc : (holdInternal s).cc = s.cc := by
  simp [holdInternal]
@[simp] theorem holdInternal_rlu : (holdInternal s).rlu = s.rlu := by
  simp [holdInternal]
@[simp] theorem holdInternal_aau : (holdInternal s).aau = s.aau := by
  simp [holdInternal]
@[simp] theorem holdInternal_inputs : (holdInternal s).inputs = s.inputs := by
  simp [holdInternal]
@[simp] theorem holdInternal_window : (holdInternal s).window = s.window := by
  simp [holdInternal]
@[simp] theorem holdInternal_pwc : (holdInternal s).pwc = s.pwc := by
  simp [holdInternal]
@[simp] theorem holdInternal_rst : (holdInternal s).rst = s.rst := by
  simp [holdInternal]
@[simp] theorem holdInternal_pins : (holdInternal s).pins = s.pins := by
  simp [holdInternal]
@[simp] theorem holdInternal_choices : (holdInternal s).choices = s.choices := by
  simp [holdInternal]
@[simp] theorem holdInternal_due : (holdInternal s).due = s.due := by
  simp [holdInternal]
@[simp] theorem holdInternal_pending : (holdInternal s).pending = s.pending := by
  simp [holdInternal]
@[simp] theorem holdInternal_live (q : Port) : ((holdInternal s).port q).live = (s.port q).live := by
  simp [holdInternal]
@[simp] theorem holdInternal_timer (q : Port) : ((holdInternal s).port q).timer = (s.port q).timer := by
  simp [holdInternal]
@[simp] theorem holdInternal_period (q : Port) : ((holdInternal s).port q).period = (s.port q).period := by
  simp [holdInternal]
@[simp] theorem holdInternal_response (q : Port) : ((holdInternal s).port q).response = (s.port q).response := by
  simp [holdInternal]
@[simp] theorem holdInternal_fresh (q : Port) : ((holdInternal s).port q).fresh = (s.port q).fresh := by
  simp [holdInternal]
end holdInternal

section dropHold
variable (s : State)
@[simp] theorem dropHold_ge : (dropHold s).ge = s.ge := by
  unfold dropHold; split <;> simp
@[simp] theorem dropHold_lamps : (dropHold s).lamps = s.lamps := by
  unfold dropHold; split <;> simp
@[simp] theorem dropHold_cu : (dropHold s).cu = s.cu := by
  unfold dropHold; split <;> simp
@[simp] theorem dropHold_cc : (dropHold s).cc = s.cc := by
  unfold dropHold; split <;> simp
@[simp] theorem dropHold_rlu : (dropHold s).rlu = s.rlu := by
  unfold dropHold; split <;> simp
@[simp] theorem dropHold_aau : (dropHold s).aau = s.aau := by
  unfold dropHold; split <;> simp
@[simp] theorem dropHold_inputs : (dropHold s).inputs = s.inputs := by
  unfold dropHold; split <;> simp
@[simp] theorem dropHold_window : (dropHold s).window = s.window := by
  unfold dropHold; split <;> simp
@[simp] theorem dropHold_pwc : (dropHold s).pwc = s.pwc := by
  unfold dropHold; split <;> simp
@[simp] theorem dropHold_rst : (dropHold s).rst = s.rst := by
  unfold dropHold; split <;> simp
@[simp] theorem dropHold_pins : (dropHold s).pins = s.pins := by
  unfold dropHold; split <;> simp
@[simp] theorem dropHold_choices : (dropHold s).choices = s.choices := by
  unfold dropHold; split <;> simp
@[simp] theorem dropHold_due : (dropHold s).due = s.due := by
  unfold dropHold; split <;> simp
@[simp] theorem dropHold_pending : (dropHold s).pending = s.pending := by
  unfold dropHold; split <;> simp
@[simp] theorem dropHold_live (q : Port) : ((dropHold s).port q).live = (s.port q).live := by
  unfold dropHold; split <;> simp
@[simp] theorem dropHold_timer (q : Port) : ((dropHold s).port q).timer = (s.port q).timer := by
  unfold dropHold; split <;> simp
@[simp] theorem dropHold_period (q : Port) : ((dropHold s).port q).period = (s.port q).period := by
  unfold dropHold; split <;> simp
@[simp] theorem dropHold_response (q : Port) : ((dropHold s).port q).response = (s.port q).response := by
  unfold dropHold; split <;> simp
@[simp] theorem dropHold_fresh (q : Port) : ((dropHold s).port q).fresh = (s.port q).fresh := by
  unfold dropHold; split <;> simp
end dropHold

section darken
variable (s : State)
@[simp] theorem darken_ge : (darken s).ge = s.ge := by
  simp [darken]
@[simp] theorem darken_lamps : (darken s).lamps = s.lamps := by
  simp [darken]
@[simp] theorem darken_cu : (darken s).cu = s.cu := by
  simp [darken]
@[simp] theorem darken_cc : (darken s).cc = s.cc := by
  simp [darken]
@[simp] theorem darken_rlu : (darken s).rlu = s.rlu := by
  simp [darken]
@[simp] theorem darken_aau : (darken s).aau = s.aau := by
  simp [darken]
@[simp] theorem darken_inputs : (darken s).inputs = s.inputs := by
  simp [darken]
@[simp] theorem darken_window : (darken s).window = s.window := by
  simp [darken]
@[simp] theorem darken_pwc : (darken s).pwc = s.pwc := by
  simp [darken]
@[simp] theorem darken_rst : (darken s).rst = s.rst := by
  simp [darken]
@[simp] theorem darken_pins : (darken s).pins = s.pins := by
  simp [darken]
@[simp] theorem darken_choices : (darken s).choices = s.choices := by
  simp [darken]
@[simp] theorem darken_due : (darken s).due = s.due := by
  simp [darken]
@[simp] theorem darken_pending : (darken s).pending = s.pending := by
  simp [darken]
@[simp] theorem darken_port (q : Port) : (darken s).port q = s.port q := by
  simp [darken]
end darken

section silenceChimes
variable (s : State)
@[simp] theorem silenceChimes_ge : (silenceChimes s).ge = s.ge := by
  simp [silenceChimes]
@[simp] theorem silenceChimes_lamps : (silenceChimes s).lamps = s.lamps := by
  simp [silenceChimes]
@[simp] theorem silenceChimes_lmd : (silenceChimes s).lmd = s.lmd := by
  simp [silenceChimes]
@[simp] theorem silenceChimes_cc : (silenceChimes s).cc = s.cc := by
  simp [silenceChimes]
@[simp] theorem silenceChimes_rlu : (silenceChimes s).rlu = s.rlu := by
  simp [silenceChimes]
@[simp] theorem silenceChimes_aau : (silenceChimes s).aau = s.aau := by
  simp [silenceChimes]
@[simp] theorem silenceChimes_inputs : (silenceChimes s).inputs = s.inputs := by
  simp [silenceChimes]
@[simp] theorem silenceChimes_window : (silenceChimes s).window = s.window := by
  simp [silenceChimes]
@[simp] theorem silenceChimes_pwc : (silenceChimes s).pwc = s.pwc := by
  simp [silenceChimes]
@[simp] theorem silenceChimes_rst : (silenceChimes s).rst = s.rst := by
  simp [silenceChimes]
@[simp] theorem silenceChimes_pins : (silenceChimes s).pins = s.pins := by
  simp [silenceChimes]
@[simp] theorem silenceChimes_choices : (silenceChimes s).choices = s.choices := by
  simp [silenceChimes]
@[simp] theorem silenceChimes_due : (silenceChimes s).due = s.due := by
  simp [silenceChimes]
@[simp] theorem silenceChimes_pending : (silenceChimes s).pending = s.pending := by
  simp [silenceChimes]
@[simp] theorem silenceChimes_port (q : Port) : (silenceChimes s).port q = s.port q := by
  simp [silenceChimes]
end silenceChimes

section runEntry
variable (s : State)
@[simp] theorem runEntry_ge : (runEntry s).ge = s.ge := by
  simp [runEntry]
@[simp] theorem runEntry_lmd : (runEntry s).lmd = s.lmd := by
  simp [runEntry]
@[simp] theorem runEntry_cc : (runEntry s).cc = s.cc := by
  simp [runEntry]
@[simp] theorem runEntry_rlu : (runEntry s).rlu = s.rlu := by
  simp [runEntry]
@[simp] theorem runEntry_aau : (runEntry s).aau = s.aau := by
  simp [runEntry]
@[simp] theorem runEntry_inputs : (runEntry s).inputs = s.inputs := by
  simp [runEntry]
@[simp] theorem runEntry_window : (runEntry s).window = s.window := by
  simp [runEntry]
@[simp] theorem runEntry_rst : (runEntry s).rst = s.rst := by
  simp [runEntry]
@[simp] theorem runEntry_pins : (runEntry s).pins = s.pins := by
  simp [runEntry]
@[simp] theorem runEntry_due : (runEntry s).due = s.due := by
  simp [runEntry]
@[simp] theorem runEntry_pending : (runEntry s).pending = s.pending := by
  simp [runEntry]
@[simp] theorem runEntry_live (q : Port) : ((runEntry s).port q).live = (s.port q).live := by
  simp [runEntry]
@[simp] theorem runEntry_timer (q : Port) : ((runEntry s).port q).timer = (s.port q).timer := by
  simp [runEntry]
@[simp] theorem runEntry_period (q : Port) : ((runEntry s).port q).period = (s.port q).period := by
  simp [runEntry]
@[simp] theorem runEntry_response (q : Port) : ((runEntry s).port q).response = (s.port q).response := by
  simp [runEntry]
@[simp] theorem runEntry_fresh (q : Port) : ((runEntry s).port q).fresh = (s.port q).fresh := by
  simp [runEntry]
end runEntry

section parkingDone
variable (s : State)
@[simp] theorem parkingDone_ge : (parkingDone s).ge = s.ge := by
  simp [parkingDone]
@[simp] theorem parkingDone_lamps : (parkingDone s).lamps = s.lamps := by
  simp [parkingDone]
@[simp] theorem parkingDone_lmd : (parkingDone s).lmd = s.lmd := by
  simp [parkingDone]
@[simp] theorem parkingDone_cu : (parkingDone s).cu = s.cu := by
  simp [parkingDone]
@[simp] theorem parkingDone_cc : (parkingDone s).cc = s.cc := by
  simp [parkingDone]
@[simp] theorem parkingDone_aau : (parkingDone s).aau = s.aau := by
  simp [parkingDone]
@[simp] theorem parkingDone_inputs : (parkingDone s).inputs = s.inputs := by
  simp [parkingDone]
@[simp] theorem parkingDone_window : (parkingDone s).window = s.window := by
  simp [parkingDone]
@[simp] theorem parkingDone_rst : (parkingDone s).rst = s.rst := by
  simp [parkingDone]
@[simp] theorem parkingDone_pins : (parkingDone s).pins = s.pins := by
  simp [parkingDone]
@[simp] theorem parkingDone_choices : (parkingDone s).choices = s.choices := by
  simp [parkingDone]
@[simp] theorem parkingDone_due : (parkingDone s).due = s.due := by
  simp [parkingDone]
@[simp] theorem parkingDone_pending : (parkingDone s).pending = s.pending := by
  simp [parkingDone]
end parkingDone

section powerConditions
variable (s : State)
@[simp] theorem powerConditions_ge : (powerConditions s).ge = s.ge := by
  unfold powerConditions; split
  · split <;> simp
  · split <;> simp
  · rfl
  · rfl
@[simp] theorem powerConditions_lmd : (powerConditions s).lmd = s.lmd := by
  unfold powerConditions; split
  · split <;> simp
  · split <;> simp
  · rfl
  · rfl
@[simp] theorem powerConditions_cc : (powerConditions s).cc = s.cc := by
  unfold powerConditions; split
  · split <;> simp
  · split <;> simp
  · rfl
  · rfl
@[simp] theorem powerConditions_aau : (powerConditions s).aau = s.aau := by
  unfold powerConditions; split
  · split <;> simp
  · split <;> simp
  · rfl
  · rfl
@[simp] theorem powerConditions_inputs : (powerConditions s).inputs = s.inputs := by
  unfold powerConditions; split
  · split <;> simp
  · split <;> simp
  · rfl
  · rfl
@[simp] theorem powerConditions_window : (powerConditions s).window = s.window := by
  unfold powerConditions; split
  · split <;> simp
  · split <;> simp
  · rfl
  · rfl
@[simp] theorem powerConditions_rst : (powerConditions s).rst = s.rst := by
  unfold powerConditions; split
  · split <;> simp
  · split <;> simp
  · rfl
  · rfl
@[simp] theorem powerConditions_pins : (powerConditions s).pins = s.pins := by
  unfold powerConditions; split
  · split <;> simp
  · split <;> simp
  · rfl
  · rfl
@[simp] theorem powerConditions_due : (powerConditions s).due = s.due := by
  unfold powerConditions; split
  · split <;> simp
  · split <;> simp
  · rfl
  · rfl
@[simp] theorem powerConditions_pending : (powerConditions s).pending = s.pending := by
  unfold powerConditions; split
  · split <;> simp
  · split <;> simp
  · rfl
  · rfl
end powerConditions

section enterRunCheck
variable (s : State)
@[simp] theorem enterRunCheck_lamps : (enterRunCheck s).lamps = s.lamps := by
  unfold enterRunCheck; split <;> simp
@[simp] theorem enterRunCheck_cu : (enterRunCheck s).cu = s.cu := by
  unfold enterRunCheck; split <;> simp
@[simp] theorem enterRunCheck_cc : (enterRunCheck s).cc = s.cc := by
  unfold enterRunCheck; split <;> simp
@[simp] theorem enterRunCheck_aau : (enterRunCheck s).aau = s.aau := by
  unfold enterRunCheck; split <;> simp
@[simp] theorem enterRunCheck_inputs : (enterRunCheck s).inputs = s.inputs := by
  unfold enterRunCheck; split <;> simp
@[simp] theorem enterRunCheck_window : (enterRunCheck s).window = s.window := by
  unfold enterRunCheck; split <;> simp
@[simp] theorem enterRunCheck_rst : (enterRunCheck s).rst = s.rst := by
  unfold enterRunCheck; split <;> simp
@[simp] theorem enterRunCheck_pins : (enterRunCheck s).pins = s.pins := by
  unfold enterRunCheck; split <;> simp
@[simp] theorem enterRunCheck_choices : (enterRunCheck s).choices = s.choices := by
  unfold enterRunCheck; split <;> simp
@[simp] theorem enterRunCheck_due : (enterRunCheck s).due = s.due := by
  unfold enterRunCheck; split <;> simp
@[simp] theorem enterRunCheck_pending : (enterRunCheck s).pending = s.pending := by
  unfold enterRunCheck; split <;> simp
end enterRunCheck

section leaveCycle
variable (s : State)
@[simp] theorem leaveCycle_cc : (leaveCycle s).cc = s.cc := by
  unfold leaveCycle; dsimp only; split <;> split <;> simp
@[simp] theorem leaveCycle_aau : (leaveCycle s).aau = s.aau := by
  unfold leaveCycle; dsimp only; split <;> split <;> simp
@[simp] theorem leaveCycle_inputs : (leaveCycle s).inputs = s.inputs := by
  unfold leaveCycle; dsimp only; split <;> split <;> simp
@[simp] theorem leaveCycle_window : (leaveCycle s).window = s.window := by
  unfold leaveCycle; dsimp only; split <;> split <;> simp
@[simp] theorem leaveCycle_rst : (leaveCycle s).rst = s.rst := by
  unfold leaveCycle; dsimp only; split <;> split <;> simp
@[simp] theorem leaveCycle_pins : (leaveCycle s).pins = s.pins := by
  unfold leaveCycle; dsimp only; split <;> split <;> simp
@[simp] theorem leaveCycle_due : (leaveCycle s).due = s.due := by
  unfold leaveCycle; dsimp only; split <;> split <;> simp
@[simp] theorem leaveCycle_pending : (leaveCycle s).pending = s.pending := by
  unfold leaveCycle; dsimp only; split <;> split <;> simp
end leaveCycle

section ignitionOn
variable (s : State)
@[simp] theorem ignitionOn_lamps : (ignitionOn s).lamps = s.lamps := by
  unfold ignitionOn; split <;> simp
@[simp] theorem ignitionOn_cu : (ignitionOn s).cu = s.cu := by
  unfold ignitionOn; split <;> simp
@[simp] theorem ignitionOn_cc : (ignitionOn s).cc = s.cc := by
  unfold ignitionOn; split <;> simp
@[simp] theorem ignitionOn_aau : (ignitionOn s).aau = s.aau := by
  unfold ignitionOn; split <;> simp
@[simp] theorem ignitionOn_inputs : (ignitionOn s).inputs = s.inputs := by
  unfold ignitionOn; split <;> simp
@[simp] theorem ignitionOn_window : (ignitionOn s).window = s.window := by
  unfold ignitionOn; split <;> simp
@[simp] theorem ignitionOn_rst : (ignitionOn s).rst = s.rst := by
  unfold ignitionOn; split <;> simp
@[simp] theorem ignitionOn_pins : (ignitionOn s).pins = s.pins := by
  unfold ignitionOn; split <;> simp
@[simp] theorem ignitionOn_choices : (ignitionOn s).choices = s.choices := by
  unfold ignitionOn; split <;> simp
@[simp] theorem ignitionOn_due : (ignitionOn s).due = s.due := by
  unfold ignitionOn; split <;> simp
@[simp] theorem ignitionOn_pending : (ignitionOn s).pending = s.pending := by
  unfold ignitionOn; split <;> simp
end ignitionOn

section ignitionOff
variable (s : State)
@[simp] theorem ignitionOff_cc : (ignitionOff s).cc = s.cc := by
  unfold ignitionOff; split <;> simp
@[simp] theorem ignitionOff_aau : (ignitionOff s).aau = s.aau := by
  unfold ignitionOff; split <;> simp
@[simp] theorem ignitionOff_inputs : (ignitionOff s).inputs = s.inputs := by
  unfold ignitionOff; split <;> simp
@[simp] theorem ignitionOff_window : (ignitionOff s).window = s.window := by
  unfold ignitionOff; split <;> simp
@[simp] theorem ignitionOff_rst : (ignitionOff s).rst = s.rst := by
  unfold ignitionOff; split <;> simp
@[simp] theorem ignitionOff_pins : (ignitionOff s).pins = s.pins := by
  unfold ignitionOff; split <;> simp
@[simp] theorem ignitionOff_due : (ignitionOff s).due = s.due := by
  unfold ignitionOff; split <;> simp
@[simp] theorem ignitionOff_pending : (ignitionOff s).pending = s.pending := by
  unfold ignitionOff; split <;> simp
end ignitionOff

end Sys2Proof.Machine
end

