-- ==== Sys2Proof/Laws/Tab.lean ====
section
/-! SUPPORT. What reading a table gives after each way of making or changing one. -/
namespace Sys2Proof.Tab

variable {α β : Type} {n : Nat}

theorem get_eq_getElem (t : Tab α n) (i : Fin n) : t.get i = t.val[i.val]'(by rw [t.len]; exact i.isLt) := rfl

/-- Two tables with the same entries are the same table. -/
theorem ext_get {t u : Tab α n} (h : ∀ i, t.get i = u.get i) : t = u := by
  obtain ⟨l, hl⟩ := t
  obtain ⟨m, hm⟩ := u
  have hlm : l = m := by
    apply List.ext_getElem (by rw [hl, hm])
    intro i h1 h2
    exact h ⟨i, by rw [← hl]; exact h1⟩
  subst hlm
  rfl

@[simp] theorem get_set_same (t : Tab α n) (i : Fin n) (a : α) : (t.set i a).get i = a := by
  simp [get_eq_getElem, set]

@[simp] theorem get_set_other (t : Tab α n) {i j : Fin n} (a : α) (h : j ≠ i) : (t.set i a).get j = t.get j := by
  have h' : i.val ≠ j.val := fun e => h (Fin.ext e.symm)
  simp [get_eq_getElem, set, h']

theorem get_set (t : Tab α n) (i j : Fin n) (a : α) : (t.set i a).get j = if j = i then a else t.get j := by
  split
  · next h => subst h; simp
  · next h => simp [h]

@[simp] theorem get_modify_same (t : Tab α n) (i : Fin n) (f : α → α) : (t.modify i f).get i = f (t.get i) := by
  simp [modify]

@[simp] theorem get_modify_other (t : Tab α n) {i j : Fin n} (f : α → α) (h : j ≠ i) :
    (t.modify i f).get j = t.get j := by simp [modify, h]

theorem get_modify (t : Tab α n) (i j : Fin n) (f : α → α) :
    (t.modify i f).get j = if j = i then f (t.get j) else t.get j := by
  split
  · next h => subst h; simp
  · next h => simp [h]

@[simp] theorem get_ofFn (f : Fin n → α) (i : Fin n) : (ofFn f).get i = f i := by
  simp [get_eq_getElem, ofFn]

@[simp] theorem get_mapIdx (t : Tab α n) (f : Fin n → α → β) (i : Fin n) : (t.mapIdx f).get i = f i (t.get i) := by
  simp [mapIdx]

@[simp] theorem get_map (t : Tab α n) (f : α → β) (i : Fin n) : (t.map f).get i = f (t.get i) := by
  simp [get_eq_getElem, map]

@[simp] theorem get_fill (a : α) (i : Fin n) : (fill a : Tab α n).get i = a := by
  simp [get_eq_getElem, fill]

/-- The entries of a table are what its indices read. -/
theorem mem_val_iff (t : Tab α n) (a : α) : a ∈ t.val ↔ ∃ i, t.get i = a := by
  constructor
  · intro h
    obtain ⟨i, hi, rfl⟩ := List.getElem_of_mem h
    exact ⟨⟨i, by rw [← t.len]; exact hi⟩, rfl⟩
  · rintro ⟨i, rfl⟩
    exact List.getElem_mem _

/-- Every entry satisfies p exactly when every index reads one that does. -/
theorem all_iff (t : Tab α n) (p : α → Bool) : t.all p = true ↔ ∀ i, p (t.get i) = true := by
  simp only [all, List.all_eq_true]
  constructor
  · exact fun h i => h _ ((mem_val_iff t _).2 ⟨i, rfl⟩)
  · intro h a ha
    obtain ⟨i, rfl⟩ := (mem_val_iff t a).1 ha
    exact h i

/-- Some entry satisfies p exactly when some index reads one that does. -/
theorem any_iff (t : Tab α n) (p : α → Bool) : t.any p = true ↔ ∃ i, p (t.get i) = true := by
  simp only [any, List.any_eq_true]
  constructor
  · rintro ⟨a, ha, hp⟩
    obtain ⟨i, rfl⟩ := (mem_val_iff t a).1 ha
    exact ⟨i, hp⟩
  · rintro ⟨i, hp⟩
    exact ⟨t.get i, (mem_val_iff t _).2 ⟨i, rfl⟩, hp⟩

/-- The indices found are exactly those whose entries satisfy p. -/
theorem mem_indices (t : Tab α n) (p : α → Bool) (i : Fin n) : i ∈ t.indices p ↔ p (t.get i) = true := by
  simp [indices]

end Sys2Proof.Tab
end

