-- ==== Sys2Proof/Tests/Slice0.lean ====
section
/-! SUPPORT. Tests: what is ill formed is refused, frames written out from chapter 12 spell their commands, single commands do
what the manual's own examples and tables show, and for each statement a state and operands that meet its hypotheses. -/
namespace Sys2Proof.Tests

open Sys2Proof Sys2Proof.Machine

/-! ### Small states -/

/-- The part right after reset. -/
def ready : State := State.reset

/-- The state a command leaves. -/
def after (c : Instr) (s : State) : State :=
  match exec c s with
  | .next t => t
  | .fault _ => s
  | .refused _ => s

/-- The state several commands leave, one after another. -/
def afterAll : List Instr → State → State
  | [], s => s
  | c :: rest, s => afterAll rest (after c s)

/-- A state in a power state, with the ignition as that state has it. -/
def inPower (w : PowerState) (s : State) : State :=
  s.setPwc { s.pwc with state := w, ignition := w = .runCheck || w = .run }

/-- A state with one channel changed. -/
def withChannel (i : Fin 8) (f : Channel → Channel) (s : State) : State :=
  s.setGe { s.ge with channels := s.ge.channels.modify i f }

/-- A state with one lamp changed. -/
def withLamp (n : Fin 48) (f : Lamp → Lamp) (s : State) : State := s.setLamps (s.lamps.modify n f)

/-- A state with one input changed. -/
def withInput (i : Fin 12) (f : InputRecord → InputRecord) (s : State) : State := s.setInputs (s.inputs.modify i f)

/-- A state with the record of slot 1 changed. -/
def withDriver (f : DriverRecord → DriverRecord) (s : State) : State := s.setAau { s.aau with one := f s.aau.one }

/-- A state with the config window open. -/
def opened : State := ready.setWindow true

/-- A state with the vehicle speed value as given, by Port S. -/
def atSpeed (v : Nat) (s : State) : State := withChannel 0 (fun c => { c with valueS := some v, active := some .portS }) s

/-- A state in reset, with the causes of the reset. -/
def held (p : ResetProgress) (c : CauseSet) : State :=
  State.powerOnHeld.setRst { State.powerOnHeld.rst with progress := p, causes := c }

/-- A state in which a timer command has been found due and waits. -/
def dueTo (c : Instr) (s : State) : State := s.setDue [c]

/-- A state whose clock stands at a time. -/
def atTime (d : DateTime) (s : State) : State := s.setCc { s.cc with now := d, weekday := weekdayOf d, isSet := true }

/-! ### Well-formedness: each check refuses an ill-formed term -/

theorem test_wellFormed_known_code_is_not_unknown : (Instr.unknownCommand .d 0x42).wellFormed = false := by decide
theorem test_wellFormed_part_one_is_another_row :
    (Instr.loadCurvePart0 .s 0 1 2 (.fill ⟨0, 0⟩)).wellFormed = false := by decide
theorem test_wellFormed_action_zero_is_another_row : (Instr.lampTestRequest .s 0).wellFormed = false := by decide
theorem test_wellFormed_input_below_range : (Instr.inputSample (.fill (-1001))).wellFormed = false := by decide
theorem test_wellFormed_input_above_range : (Instr.inputSample (.fill 40001)).wellFormed = false := by decide
theorem test_wellFormed_battery_above_range : (Instr.vbsMeasurement 40001).wellFormed = false := by decide
theorem test_wellFormed_accepts :
    (Instr.unknownCommand .d 0x09).wellFormed = true ∧ (Instr.inputSample (.fill 40000)).wellFormed = true := by decide

/-! ### Frames: words written out from 12.1 to 12.4 -/

/-- R3: the check value of this polynomial over the digits 1 to 9. -/
theorem test_crc_of_digits : crc8 [0x31, 0x32, 0x33, 0x34, 0x35, 0x36, 0x37, 0x38, 0x39] = 0xF4 := by decide +kernel

/-- R194: SET_VALUE: byte 1 channel, bytes 2 and 3 value, most significant first. -/
theorem test_decode_setValue :
    decodeRequest .d 192 (sealFrame [0x10, 0x03, 0x12, 0x34]) = .setValue .d 3 0x1234 := by decide +kernel

/-- R194: LOAD_CURVE: byte 1 holds the channel in bits 3 to 0 and the part in bits 7 to 4. -/
theorem test_decode_loadCurve :
    decodeRequest .s 192 (sealFrame [0x13, 0x15, 0xFF, 0x01, 0x02, 0x03, 0x04]) =
      .loadCurvePart1 .s 5 ⟨[⟨0x0102, 0x0304⟩, ⟨0, 0⟩, ⟨0, 0⟩, ⟨0, 0⟩], rfl⟩ ∧
    decodeRequest .s 192 (sealFrame [0x13, 0x27, 0x02, 0x01, 0x02, 0x03, 0x04]) =
      .loadCurvePart0 .s 7 2 2 ⟨[⟨0x0102, 0x0304⟩, ⟨0, 0⟩, ⟨0, 0⟩, ⟨0, 0⟩, ⟨0, 0⟩], rfl⟩ := by decide +kernel

/-- R194: WRITE_LAMPS, LAMP_TEST, REQUEST_CHIME, READ_DRIVER, SET_LOCAL_OFFSET and READ_INPUTS. -/
theorem test_decode_families :
    decodeRequest .d 192 (sealFrame [0x20, 0x01, 0x2F, 0x04]) =
      .writeLamps .d 1 ⟨⟨0x2F, 4⟩ :: List.replicate 7 ⟨0, 0⟩, rfl⟩ ∧
    decodeRequest .s 192 (sealFrame [0x25, 0x01]) = .lampTestRequest .s 1 ∧
    decodeRequest .s 192 (sealFrame [0x25, 0x00]) = .lampTestRelease .s ∧
    decodeRequest .d 192 (sealFrame [0x30, 0x03, 0x02]) = .requestChime .d 3 2 ∧
    decodeRequest .d 192 (sealFrame [0x41, 0x02, 0x01]) = .readDriver .d 2 1 ∧
    decodeRequest .d 192 (sealFrame [0x52, 0xF8]) = .setLocalOffset .d 0xF8 ∧
    decodeRequest .s 192 (sealFrame [0x61]) = .readInputs .s ∧
    decodeRequest .s 192 (sealFrame [0x09]) = .unknownCommand .s 9 := by decide +kernel

/-- R167: a wrong CRC, and a wrong count of bits. -/
theorem test_decode_badFrame :
    decodeRequest .d 192 (padTo 24 [0x10]) = .badFrame .d ∧
    decodeRequest .d 191 (sealFrame [0x10]) = .badFrame .d := by
  decide +kernel

/-- R195 and the example of 12.4: 92.40 km/h with overspeed and motion set. -/
theorem test_decode_speedFrame : decodeRecorder 0x01 [0x24, 0x18, 0x03] = some (.speedFrame 9240 true true) := by decide

/-- R195: slot 1 at work as one of a crew with a card, slot 2 without a card; and a NOTICE. -/
theorem test_decode_activityFrame :
    decodeRecorder 0x03 [0x1B, 0x00] = some (.activityFrame ⟨3, true, true⟩ ⟨0, false, false⟩) ∧
    decodeRecorder 0x06 [0x02, 0x77] = some (.noticeFrame 2 0x77) := by decide

/-- R114: a start bit, eight bits least significant first, a stop bit. -/
theorem test_decode_character :
    decodeCharacter [false, true, false, true, false, false, false, true, true, true] =
      some (.characterReceived 0xC5 false) := by decide

/-- The table gives bits for no row. -/
theorem test_decodeTableWord_spells_nothing : decodeTableWord 192 0x10 = none := by decide

/-! ### Ports -/

/-- R190, R192: the end of a power-on reset hold is the state right after reset. -/
theorem test_resetHoldEnd_gives_reset : exec .resetHoldEnd State.powerOnHeld = .next State.reset := by rfl

/-- R169, R172: the first frame of a port returns its source; the frame it shifts out is the NONE response, with fresh and an
event pending in its status byte (bits 6 and 7 of 12.2). -/
theorem test_nop_first_frame :
    (after (.nop .d) ready).portD.live = true ∧
    (after (.nop .d) ready).pins.spiD.offered.take 3 = [0xC0, 0x00, 0x01] := by decide

/-- R182: after a reset RESET_REPORT (0) is the first kind fetched: count 1, argument 0, SOURCE_RESTORED still pending. -/
theorem test_fetchEvent_reset_report :
    (after (.fetchEvent .s) ready).portS.response.data.val.take 4 = [0, 1, 0, 1] := by decide

/-- R177, 12.3: the identity code and the revision. -/
theorem test_readStatus_identity :
    (after (.readStatus .d) ready).portD.response.data.val.take 5 = [0x04, 0x40, 0x01, 0x01, 0x00] := by decide

/-- R166 to R169: a NOP clocked in bit by bit is taken; its status byte is that of its falling edge, before the event that came
during the frame (12.2: fresh, event pending and supply normal); and a frame of one bit, cut short, clocks one bit. -/
theorem test_lowPeriod_frames :
    let s := (selectFalls .d ready).setPwc { ready.pwc with supplyLow := true }
    let t := selectRises .d ((frameBits (sealFrame [0x00])).foldl (fun s b => clockBit .d b s) s)
    t.pending = [.nop .d] ∧ (after (.nop .d) (t.setPending [])).pins.spiD.offered.take 3 = [0xC0, 0x00, 0x01] ∧
    (lowPeriod .d [true] ready).pending = [.badFrame .d] ∧
    (after (.badFrame .d) (lowPeriod .d [true] ready)).pins.spiD.clocked = some 1 ∧
    (lowPeriod .d [true] State.powerOnHeld).pending = [] := by decide +kernel

/-- R172, and the same moment with the frame first: the expiry found due lapses; with the expiry first it does not. -/
theorem test_frame_and_expiry_of_one_moment :
    let s := (inPower .run ready).setPort .d { ready.portD with live := true, timer := some 0 }
    let t := dueTo (.supervisionTimerExpiry .d) s
    (afterAll [.nop .d, .supervisionTimerExpiry .d] t).portD.live = true ∧
    (after (.supervisionTimerExpiry .d) t).portD.live = false := by decide

/-! ### Gauges -/

/-- The channel of the filter example of 1.6. -/
def g2 : Channel → Channel := fun c =>
  { c with sweepLimit := 3000, filterShift := 2, curve := [⟨0, 0⟩, ⟨1000, 300⟩, ⟨4000, 1500⟩, ⟨10000, 3000⟩],
           state := .tracking, active := some .portD, valueD := some 2500, filter := 512000, target := 700 }

/-- The filter example of 1.6: updates 1 and 2. -/
theorem test_filterUpdate_example :
    ((after .filterUpdate (withChannel 2 g2 ready)).ge.channels.get 2).filter = 544000 ∧
    ((after .filterUpdate (withChannel 2 g2 ready)).ge.channels.get 2).target = 750 ∧
    ((afterAll [.filterUpdate, .filterUpdate] (withChannel 2 g2 ready)).ge.channels.get 2).target = 788 := by decide

/-- The falling segment of 1.6: halves round away from zero. -/
theorem test_curve_falling_halves :
    curveTarget [⟨2000, 900⟩, ⟨3000, 800⟩] 2005 = 899 ∧ curveTarget [⟨2000, 900⟩, ⟨3000, 800⟩] 2015 = 898 ∧
    curveTarget [⟨2000, 900⟩, ⟨3000, 800⟩] 2004 = 900 := by decide

/-- The overshoot of 2.1, interval 2, and its moving-away interval 3. -/
theorem test_motionInterval_overshoot :
    let c := fun p s d : Nat => fun c : Channel =>
      { c with state := .tracking, position := p, speed := s, target := d, active := some .portD }
    ((after .motionInterval (withChannel 4 (c 1007 7 1010) ready)).ge.channels.get 4).position = 1013 ∧
    ((after .motionInterval (withChannel 4 (c 1013 6 1010) ready)).ge.channels.get 4).position = 1018 := by decide

/-- A pointer that is about to move 8 microsteps from 44. -/
def sweeping : State :=
  withChannel 4 (fun c => { c with state := .tracking, position := 44, speed := 8, target := 1000, vmax := 8,
                                   active := some .portD }) ready

/-- R31, R35: in an interval that moves 8 microsteps the coils hold 8 indices of 0.25 ms each, and walk on from 47 to 0; in
HOMING the overdrive runs down by 4, the coils with it, and its last interval homes the channel. -/
theorem test_motionInterval_walk :
    let t := after .motionInterval sweeping
    let c := fun h : Nat => after .motionInterval
      (withChannel 4 (fun c : Channel => { c with state := .homing, overdrive := h, direction := .down }) ready)
    (t.ge.channels.get 4).walk = [45, 46, 47, 0, 1, 2, 3, 4] ∧ coilDuring t 4 0 = .energized 45 ∧
    coilDuring t 4 749 = .energized 47 ∧ coilDuring t 4 750 = .energized 0 ∧ coilDuring t 4 1999 = .energized 4 ∧
    ((c 8).ge.channels.get 4).overdrive = 4 ∧ coilDuring (c 8) 4 500 = .energized 6 ∧
    ((c 4).ge.channels.get 4).state = .tracking := by decide

/-! ### Lamps, matrix and chimes -/

/-- R57: Port D may write an INFO lamp, and not L9, which is SAFETY by default. -/
theorem test_writeLamps_info_and_safety :
    let cmd := fun n : Byte => Instr.writeLamps .d 1 ⟨⟨n, 2⟩ :: List.replicate 7 ⟨0, 0⟩, rfl⟩
    ((after (cmd 20) ready).lamps.get 20).resolved = .slow ∧
    (after (cmd 9) ready).portD.response.result = .notPermitted := by decide

/-- The example of 4.4: the third LOW reading of L8 sets its fault. -/
theorem test_rowSlotEnd_third_low :
    let s := ready.setLmd { ready.lmd with
      slot := 1, plan := Tab.fill (some 16), readings := ready.lmd.readings.set 8 ⟨2, 0, false⟩ }
    ((after (.rowSlotEnd ⟨[false, true, true, true, true, true, true, true], rfl⟩) s).lmd.readings.get 8) =
      ⟨3, 0, true⟩ := by decide

/-- R66, R68: a frame that starts in RUN switches row 0 on; the column of a lamp at duty 4 sinks for 250 µs; darkened,
nothing is on. -/
theorem test_scanFrameStart_rows :
    let s := after .scanFrameStart ((inPower .run ready).setLmd { ready.lmd with dimming := 3 })
    let t := withLamp 7 (fun l => { l with resolved := .on, cls := .info })
      ((inPower .run ready).setLmd { ready.lmd with dimming := 3 })
    rowLead s 0 = true ∧ rowLead s 1 = false ∧ columnSinks (after .scanFrameStart t) 7 249 = true ∧
    columnSinks (after .scanFrameStart t) 7 250 = false ∧ rowLead (darken s) 0 = false ∧
    rowLead (after .scanFrameStart ready) 0 = false := by decide

/-- The full queue of the example in 5.7. -/
def burst : State :=
  (inPower .run ready).setCu { ready.cu with
    playing := some ⟨⟨.single, 2, .recorder, 0⟩, 10⟩
    arrivals := 8
    queue := [⟨.triple, 3, .lamp 9, 2⟩, ⟨.triple, 2, .account .one, 1⟩, ⟨.single, 2, .portS, 4⟩, ⟨.tick, 1, .portD, 5⟩,
      ⟨.tock, 1, .portD, 7⟩, ⟨.single, 0, .portD, 3⟩, ⟨.tick, 0, .portS, 6⟩, ⟨.tock, 0, .portD, 8⟩] }

/-- Step 3 of the example, from the queue before step 1: the latest of the lowest priority, arrival 8, is evicted. -/
theorem test_requestChime_evicts :
    (after (.requestChime .d 3 3) burst).portD.response.data.val.take 4 = [4, 8, 2, 4] ∧
    (after (.requestChime .d 3 3) burst).cu.queue.map (·.arrival) = [2, 1, 4, 9, 5, 7, 3, 6] := by decide

/-- Steps 4 and 5 of the example: merged, and dropped. -/
theorem test_requestChime_merges_and_drops :
    (after (.requestChime .d 0 2) burst).portD.response.data.val.take 2 = [2, 8] ∧
    (after (.requestChime .s 1 0) burst).portS.response.data.val.take 2 = [3, 8] := by decide

/-- R94: four entries of Port D removed in the example's queue; here five stand, before its step 1. -/
theorem test_cancelChimes_own_entries :
    (after (.cancelChimes .d) burst).cu.queue.map (·.arrival) = [2, 1, 4, 6] := by decide

/-! ### Clock and drivers -/

/-- The carry of 6.3: 2100-02-28 23:59:59 goes on to 2100-03-01, a Monday, with CLOCK_TICK (2) at Port S. -/
theorem test_secondAdvance_february_2100 :
    let s := atTime ⟨100, 2, 28, 23, 59, 59⟩ (ready.setCc { ready.cc with tickS := .hour })
    (after .secondAdvance s).cc.now = ⟨100, 3, 1, 0, 0, 0⟩ ∧ (after .secondAdvance s).cc.weekday = 0 ∧
    (after .secondAdvance s).portS.events.get 19 = ⟨1, 1, 2⟩ := by decide

/-- The local time examples of 6.7. -/
theorem test_localTime_examples :
    localTime ⟨100, 2, 28, 23, 30, 0⟩ 4 = (⟨100, 3, 1, 0, 30, 0⟩, false) ∧
    localTime ⟨24, 3, 1, 0, 20, 15⟩ (-8) = (⟨24, 2, 29, 22, 20, 15⟩, false) ∧
    localTime ⟨199, 12, 31, 23, 50, 40⟩ 4 = (⟨199, 12, 31, 23, 59, 40⟩, true) ∧
    localTime ⟨0, 1, 1, 0, 5, 12⟩ (-4) = (⟨0, 1, 1, 0, 0, 12⟩, true) := by decide

/-- R102: the stamp of 2100-02-28 23:59 (6.3). -/
theorem test_minuteStamp_example : minuteStamp ⟨100, 2, 28, 23, 59, 59⟩ = 52680959 := by decide

/-- R105: a load in the moment in which a second falls due: the second found due lapses. -/
theorem test_load_withdraws_second :
    let s := dueTo .secondAdvance (ready.setCc { ready.cc with prescaler := 32768 })
    (afterAll [.setTime .s ⟨24, 2, 29, 8, 0, 0⟩, .secondAdvance] s).cc.now = ⟨24, 2, 29, 8, 0, 0⟩ ∧
    (after .secondAdvance s).cc.now.second = 1 := by decide

/-- A driver in slot 1 who has driven through the minute in progress. -/
def driving (r : DriverRecord) : DriverRecord :=
  { r with card := true, activity := .drive, tallies := ⟨0, 0, 0, 0, 59⟩ }

/-- R138, R140: the minute is credited to DRIVE. -/
theorem test_secondAdvance_credits_drive :
    let s := atTime ⟨24, 1, 1, 8, 0, 59⟩ (withDriver driving ready)
    (after .secondAdvance s).aau.one.continuous = 1 ∧
    (after .secondAdvance s).aau.one.history.map (·.duration) = [1] := by decide

/-- R148: a summary for a minute long past is stale, and nothing is adopted. -/
theorem test_summaryFrame_stale :
    let s := atTime ⟨24, 1, 1, 8, 0, 59⟩ (withDriver driving ready)
    let a : SummaryArg := ⟨9, 100, 100, 0, true, false, false, 270, 540⟩
    (after (.summaryFrame a a) s).aau.one.continuous = 0 ∧ (after (.summaryFrame a a) s).portD.events.get 14 = ⟨1, 1, 1⟩ := by
  decide

/-! ### Recorder link, inputs and power -/

/-- The stray byte of 7.4: C5h C5h 01h 03h, three bytes and the CRC make one SPEED frame. -/
theorem test_characters_after_stray_sync :
    (match characters ([0x3A, 0xC5] ++ linkFrame 0x01 [0x24, 0x18, 0x03]) ready with
      | .next t => t.rlu.vehicle.speed
      | .fault _ | .refused _ => 0) = 9240 := by decide +kernel

/-- R114: C5h sample by sample after a reset, once the line has been high for a bit time, and not before; a low stop bit is a
framing error. -/
theorem test_lineBits_character :
    let c5 := [false, true, false, true, false, false, false, true, true]
    (lineBits ([true] ++ c5 ++ [true]) ready).pending = [.characterReceived 0xC5 false] ∧
    (lineBits (c5 ++ [true]) ready).pending = [] ∧
    (lineBits ([true] ++ c5 ++ [false]) ready).pending = [.characterReceived 0xC5 true] := by decide

/-- R116: a pause of 5 ms inside a frame discards it, but for a next character whose start bit was sampled before. -/
theorem test_gapTimeout_start_bit :
    let s := dueTo .gapTimeout (ready.setRlu { ready.rlu with assembly := .type, gapTime := 5, receiver := .idle })
    (after .gapTimeout s).rlu.assembly = .hunt ∧ (after .gapTimeout (lineBit false s)).rlu.assembly = .type := by decide

/-- R114, R128: the STANDBY frame of a reset begins with a start bit, and after its last stop bit the line is high. -/
theorem test_recorderLead_standby :
    recorderLead ready = false ∧
    recorderLead (ready.setRlu { ready.rlu with sending := some { bytes := standbyBytes, left := 0 } }) = true := by decide

/-- R119: a valid frame and the end of supervision in one moment, the frame first: the link stays LIVE. -/
theorem test_frame_and_link_expiry_of_one_moment :
    let s := dueTo .linkSupervisionExpiry (ready.setRlu { ready.rlu with live := true, timer := some 0 })
    (afterAll [.noticeFrame 0 0, .linkSupervisionExpiry] s).rlu.live = true ∧
    (after .linkSupervisionExpiry s).rlu.live = false := by decide

/-- R158: at 50 ms the ignition has been high for 50 samples, and RUN_CHECK is entered (R160, R185). -/
theorem test_inputSample_ignition :
    let s := withInput 0 (fun r => { r with raw := true, wait := 49 }) ready
    (after (.inputSample (.fill 24000)) s).pwc.state = .runCheck ∧
    (after (.inputSample (.fill 24000)) s).pwc.selfCheck = .running 3000 := by decide

/-- R157: between the thresholds an input reads as the sample before it. -/
theorem test_inputSample_hysteresis :
    ((after (.inputSample (.fill 6000)) ready).inputs.get 3).raw = false ∧
    ((afterAll [.inputSample (.fill 8001), .inputSample (.fill 6000)] ready).inputs.get 3).raw = true := by decide

/-- R189: the twentieth measurement below 16.0 V, and not one at 16.0 V, makes the supply low. -/
theorem test_vbsMeasurement_threshold :
    let s := ready.setPwc { ready.pwc with supplyWait := 19 }
    (after (.vbsMeasurement 15999) s).pwc.supplyLow = true ∧ (after (.vbsMeasurement 16000) s).pwc.supplyLow = false := by
  decide

/-- R32, R42: on SUPPLY_LOW a pointer in the middle of its walk (from 44 to 52) holds its present index, 4, at once, and the
pointer that was SWEEPING stands. -/
theorem test_vbsMeasurement_holds_index :
    let s := after .motionInterval sweeping
    let t := after (.vbsMeasurement 15999) (s.setPwc { s.pwc with supplyWait := 19 })
    coilDuring s 4 0 = .energized 45 ∧ t.pwc.supplyLow = true ∧ coilDuring t 4 0 = .energized 4 ∧
    coilDuring t 4 1000 = .energized 4 ∧ (t.ge.channels.get 4).speed = 0 := by decide

/-- R191: RESET_PART adds COMMAND to the record of a power-on reset, and the part is held for 20 ms. -/
theorem test_resetPart_holds :
    (after (.resetPart .s) ready).pwc.causes = ⟨true, false, true⟩ ∧
    (after (.resetPart .s) ready).rst.progress = .hold 20 := by decide

/-- R190: with VDD5 and RST_N both low the part waits for the end of the second, and then for its hold. -/
theorem test_resetCauseEnd_last :
    let s := rstFalls 1000 (vdd5Lead 4299 ready)
    let t := afterAll s.pending (s.setPending [])
    s.pending = [.powerOnReset, .pinReset] ∧ (rstRises t).pending = [] ∧ (vdd5Lead 4400 (rstRises t)).pending = [] ∧
    (vdd5Lead 4401 (rstRises t)).pending = [.resetCauseEnd] ∧ (after .resetCauseEnd t).rst.progress = .cause ∧
    (after .resetCauseEnd (vdd5Lead 4401 (rstRises t))).rst.progress = .hold 20 := by decide

/-- The model's own tick (log 2): the last millisecond of a power-on hold brings its end into the queue. -/
theorem test_step_idle_ends_hold :
    (tick (held (.hold 1) ⟨true, false, false⟩)).pending = [.resetHoldEnd] := by decide

/-! ### Witnesses: for each statement with hypotheses, states and operands that meet them, clause by clause -/

theorem witness_isOut :
    isOut ready = true ∧ isOut opened = true ∧ ready.pending = [] ∧ isOut State.powerOnHeld = false ∧
    State.powerOnHeld.pending = [] ∧ State.powerOnHeld.rst.progress = .hold 0 := by decide

/-- What MillisecondCountsTimersDown asks of its clauses: a crystal that runs and one that recovers, out of reset and in one, a
self-check timer that runs and one that does not, and each kind of reset. -/
theorem witness_MillisecondCountsTimersDown :
    ready.cc.running = true ∧ ready.pwc.selfCheck = .stopped ∧
    (ready.setPwc { ready.pwc with selfCheck := .running 1 }).pwc.selfCheck = .running 1 ∧
    (ready.setCc { ready.cc with running := false, monitor := .recovering 99 }).cc.monitor = .recovering 99 ∧
    (held .cause ⟨false, true, false⟩).rst.progress = .cause ∧ isOut (held (.hold 1) ⟨false, true, false⟩) = false ∧
    (held .cause ⟨false, true, false⟩).rst.causes.powerOn = false ∧ (held .cause ⟨true, true, false⟩).rst.causes.powerOn = true ∧
    (let s := (held .cause ⟨false, true, false⟩).setCc { ready.cc with prescaler := 32767 }
     s.cc.running = true ∧ .secondAdvance ∈ (tick s).pending) ∧
    (let s := (held .cause ⟨false, true, false⟩).setCc { ready.cc with running := false, monitor := .recovering 99 }
     s.cc.monitor = .recovering 99 ∧ .oscillatorRecovery ∈ (tick s).pending) := by decide

theorem witness_TakenFrameReturnsAndRestarts :
    (ready.port .d).live = false ∧ ((after (.nop .d) ready).port .d).live = true ∧ isOut (after (.nop .d) ready) = true := by
  decide

/-- Nothing pending at Port D. -/
def quiet : State :=
  ready.setPort .d { ready.portD with live := true, events := .fill ⟨1, 0, 0⟩ }

/-- At Port D the last kind pending at the highest level, with the first kind. -/
def urgent : State :=
  quiet.setPort .d { quiet.portD with events := (quiet.portD.events.set 0 ⟨1, 1, 0⟩).set 25 ⟨3, 255, 1⟩ }

theorem witness_FetchTakesMostUrgentKind :
    isOut quiet = true ∧ (∀ k, (((beginFrame .d quiet).port .d).events.get k).count = 0) ∧ isOut urgent = true ∧
    (((beginFrame .d urgent).port .d).events.get 25).count ≠ 0 ∧
    ∀ j, (((beginFrame .d urgent).port .d).events.get j).count ≠ 0 →
      (((beginFrame .d urgent).port .d).events.get j).level < (((beginFrame .d urgent).port .d).events.get 25).level ∨
      ((((beginFrame .d urgent).port .d).events.get j).level = (((beginFrame .d urgent).port .d).events.get 25).level ∧
        25 ≤ j) := by decide

theorem witness_EventLevelSet :
    25 < (26 : Byte).toNat ∧ 3 < (4 : Byte).toNat ∧ (25 : Byte).toNat ≤ 25 ∧ (3 : Byte).toNat ≤ 3 ∧
    (Port.s = .s ∧ ((25 : Byte) = 0 ∨ (25 : Byte) = 1 ∨ (25 : Byte) = 3 ∨ (25 : Byte) = 17 ∨ (25 : Byte) = 25)) ∧
    ¬(Port.s = .s ∧ ((24 : Byte) = 0 ∨ (24 : Byte) = 1 ∨ (24 : Byte) = 3 ∨ (24 : Byte) = 17 ∨ (24 : Byte) = 25)) ∧
    (24 : Byte).toNat = (24 : Fin 26).val ∧ ¬(Port.d = .s) ∧ (25 : Byte).toNat = (25 : Fin 26).val := by decide

theorem witness_WindowAndSettings :
    vehicleSpeed (atSpeed 100 ready) = some 100 ∧ vehicleSpeed (atSpeed 99 ready) = some 99 ∧ vehicleSpeed ready = none ∧
    isOut (atSpeed 100 ready) = true ∧ ready.window = false ∧ opened.window = true ∧ 4 < (5 : Byte).toNat ∧
      (4 : Byte).toNat ≤ 4 := by decide

theorem witness_SupervisionExpirySilencesPort :
    let s := ready.setPort .s { ready.portS with live := true, timer := some 0 }
    let c : Instr := .supervisionTimerExpiry .s
    let running := fun s : State => (s.port .s).timer ≠ none
    let out := fun s : State => (s.port .s).timer = some 0
    isOut s = true ∧ Comes c (running s) (out s) s ∧ Comes c (running (dueTo c s)) (out (dueTo c s)) (dueTo c s) ∧
    ¬Comes c (running ready) (out ready) ready ∧ ¬Comes c (running (dueTo c ready)) (out (dueTo c ready)) (dueTo c ready) ∧
    (let s := atSpeed 300 s
     LosesSignal s (after c s) 0 ∧ (∀ i, i ≠ 0 → ¬LosesSignal s (after c s) i)) ∧ ∀ i, ¬LosesSignal s (after c s) i := by
  unfold Comes LosesSignal; decide

theorem witness_CausesHoldThePartInReset :
    isOut ready = true ∧ (held .cause ⟨false, true, false⟩).rst.causes.powerOn = false ∧
    isOut (held .cause ⟨true, false, false⟩) = false ∧ (held .cause ⟨true, false, false⟩).rst.causes.powerOn = true ∧
    (held .cause ⟨true, false, false⟩).rst.progress = .cause ∧ (held .cause ⟨true, false, false⟩).pins.vdd5Low = false ∧
    (held .cause ⟨true, false, false⟩).pins.rstLow = false ∧ ready.rst.progress ≠ .cause ∧
    (vdd5Lead 4299 ready).pins.vdd5Low = true ∧ (rstFalls 1000 ready).pins.rstLow = true := by decide

theorem witness_HoldEndBringsThePartOut :
    let s := held (.hold 0) ⟨false, true, false⟩
    let t := s.setRst { s.rst with clockFaults := 1 }
    Comes .resetHoldEnd (∃ n, s.rst.progress = .hold n) (s.rst.progress = .hold 0) s ∧
    ¬Comes .resetHoldEnd (∃ n, ready.rst.progress = .hold n) (ready.rst.progress = .hold 0) (dueTo .resetHoldEnd ready) ∧
    s.rst.clockFaults = 0 ∧ s.rlu.sending = none ∧ t.rst.clockFaults = 1 := by
  refine ⟨⟨fun _ => rfl, fun _ => ⟨0, rfl⟩⟩, fun h => ?_, by decide, by decide, by decide⟩
  exact absurd (h.1 (by decide)) (by decide)

theorem witness_SetValueStoresAndSelects :
    7 < (8 : Byte).toNat ∧ (7 : Byte).toNat = (7 : Fin 8).val ∧
    ((withChannel 7 (fun c => { c with enabled := false }) ready).ge.channels.get 7).enabled = false ∧
    (ready.ge.channels.get 7).enabled = true ∧ (ready.ge.channels.get 7).primary ≠ portSource .d ∧
    (ready.ge.channels.get 7).fallback ≠ some (portSource .d) ∧ (ready.ge.channels.get 7).primary = portSource .s ∧
    (ready.ge.channels.get 7).active = none ∧ ((atSpeed 99 opened).ge.channels.get 0).active ≠ none ∧
    ((atSpeed 99 opened).ge.channels.get 0).fallback = some (portSource .s) := by decide

theorem witness_ChannelReadAnswered :
    7 < (8 : Byte).toNat ∧ 2 < (3 : Byte).toNat ∧ (7 : Byte).toNat = (7 : Fin 8).val ∧
    (ready.ge.channels.get 7).curve.length ≤ 9 := by decide

/-- A legal curve of nine points, as LOAD_CURVE carries its two parts. -/
def firstPoints : Tab PointArg 5 := ⟨[⟨0, 0⟩, ⟨1, 10⟩, ⟨2, 20⟩, ⟨3, 30⟩, ⟨4, 40⟩], rfl⟩

/-- Port S with the window open and the first part of a curve pending on G7. -/
def halfLoaded (points : List Point) : State :=
  withChannel 7 (fun c => { c with pendingCurve := some ⟨6, points⟩ }) opened

theorem witness_CurvesLoadInParts :
    opened.window = true ∧ ready.window = false ∧ 7 < (8 : BitVec 4).toNat ∧ 1 < (2 : BitVec 4).toNat ∧
    (7 : BitVec 4).toNat = (7 : Fin 8).val ∧ (1 : Byte).toNat < 2 ∧ 9 < (10 : Byte).toNat ∧
    CurveLegal 3240 ((firstPoints.val.take 2).map fun q => Point.mk q.x.toNat q.a.toNat) ∧
    CurveLegal 3240 ((firstPoints.val.take 5).map fun q => Point.mk q.x.toNat q.a.toNat) ∧
    ¬CurveLegal 39 ((firstPoints.val.take 5).map fun q => Point.mk q.x.toNat q.a.toNat) ∧
    6 ≤ (6 : Byte).toNat ∧ (9 : Byte).toNat ≤ 9 ∧ (opened.ge.channels.get 7).pendingCurve = none ∧
    ((halfLoaded [⟨0, 0⟩, ⟨1, 1⟩, ⟨2, 2⟩, ⟨3, 3⟩, ⟨4, 4⟩]).ge.channels.get 7).pendingCurve =
      some ⟨6, [⟨0, 0⟩, ⟨1, 1⟩, ⟨2, 2⟩, ⟨3, 3⟩, ⟨4, 4⟩]⟩ ∧
    CurveLegal 3240 ([⟨0, 0⟩, ⟨1, 1⟩, ⟨2, 2⟩, ⟨3, 3⟩, ⟨4, 4⟩] ++ [⟨5, 5⟩]) ∧
    ¬CurveLegal 3240 ([⟨0, 0⟩, ⟨1, 1⟩, ⟨2, 2⟩, ⟨3, 3⟩, ⟨4, 4⟩] ++ [⟨4, 5⟩]) := by
  unfold CurveLegal; decide

/-- A SET_CHANNEL for G7 with one source and the reset curve's sweep limit. -/
def request (enabled : Bool) (limit : BitVec 16) : ChannelArgs := ⟨7, enabled, limit, 8, 0, 1, 1, 0, 47, false⟩

theorem witness_ChannelRequestChecked :
    7 < (8 : Byte).toNat ∧ 47 < (48 : Byte).toNat ∧ (request true 3240).faultLamp.toNat ≤ 47 ∧
    (request true 3240).channel.toNat = (7 : Fin 8).val ∧
    ((request true 3240).sourceCount = 1 ∧ (request true 3240).first.toNat ≤ 2) ∧
    ¬(((2 : Byte) = 1 ∧ (1 : Byte).toNat ≤ 2) ∨ ((2 : Byte) = 2 ∧ (1 : Byte).toNat ≤ 2 ∧ (1 : Byte).toNat ≤ 2 ∧ (1 : Byte) ≠ 1)) ∧
    ((withChannel 7 (fun c => { c with state := .tracking }) opened).ge.channels.get 7).state = .tracking ∧
    (opened.ge.channels.get 7).state = .unhomed ∧
    (∃ q ∈ (opened.ge.channels.get 7).curve, max 60 (min (3239 : BitVec 16).toNat 3780) < q.a) ∧
    ¬(∃ q ∈ (opened.ge.channels.get 7).curve, max 60 (min (3240 : BitVec 16).toNat 3780) < q.a) := by decide

theorem witness_ChannelRequestActs :
    opened.window = true ∧ opened.gaugesSound = true ∧ (request true 3240).channel.toNat = (7 : Fin 8).val ∧
    (request true 3240).faultLamp.toNat ≤ 47 ∧ (opened.ge.channels.get 7).enabled = true ∧
    (opened.ge.channels.get 7).state = .unhomed ∧
    (∀ q ∈ (opened.ge.channels.get 7).curve, q.a ≤ max 60 (min (request true 3240).sweepLimit.toNat 3780)) ∧
    (request false 3240).enabled = false ∧
    (let s := withChannel 7 Channel.disable (withChannel 7 (fun c => { c with enabled := false }) (inPower .run opened))
     s.gaugesSound = true ∧ (s.ge.channels.get 7).enabled = false ∧ inCycle s = true ∧ s.window = true) := by
  decide

theorem witness_FilterMovesTowardValue :
    let c := (withChannel 2 g2 ready).ge.channels.get 2
    c.state = .tracking ∧ c.active.bind c.value = some 2500 ∧ c.filter ≤ 256 * 2500 ∧ CurveLegal c.sweepLimit c.curve ∧
    256 * 2500 < ({ c with filter := 640001 } : Channel).filter ∧ (⟨1000, 300⟩, ⟨4000, 1500⟩) ∈ c.curve.zip c.curve.tail ∧
    (ready.ge.channels.get 2).state ≠ .tracking ∧ Comes .filterUpdate True (20 ≤ ready.ge.filterTime) ready ∧
    ¬Comes .filterUpdate True (20 ≤ ready.ge.filterTime) (dueTo .filterUpdate ready) := by
  unfold CurveLegal Comes; decide

theorem witness_MotionLawMovesPointers :
    let s := withChannel 4 (fun c => { c with state := .tracking, position := 1000, speed := 8, target := 1010 }) ready
    let c := s.ge.channels.get 4
    let homing := withChannel 4 (fun c => { c with state := .homing, overdrive := 1 }) ready
    let parking := withChannel 4 (fun c => { c with state := .parking }) ready
    isOut s = true ∧ s.pwc.supplyLow = false ∧ c.state = .tracking ∧
    (homing.ge.channels.get 4).state = .homing ∧ 0 < (homing.ge.channels.get 4).overdrive ∧
    ((after .motionInterval parking).ge.channels.get 4).state = .parked ∧
    ([min (c.speed + 1) c.vmax, c.speed, c.speed - 1].find? fun v => 1 ≤ v ∧ v * (v + 1) / 2 ≤ 10) = none ∧
    ([min (0 + 1) c.vmax, 0, 0 - 1].find? fun v => 1 ≤ v ∧ v * (v + 1) / 2 ≤ 1) = some 1 ∧
    (s.ge.channels.get 3).state = .unhomed ∧ Comes .motionInterval True (2 ≤ s.ge.motionTime) s ∧
    ¬Comes .motionInterval True (2 ≤ s.ge.motionTime) (dueTo .motionInterval s) ∧
    ((after .motionInterval s).ge.channels.get 4).position = 1007 ∧
    (2000 * 6 ≤ 1999 * (1007 - 1000) ∧ 1999 * (1007 - 1000) < 2000 * (6 + 1)) := by
  unfold Comes; decide

theorem witness_MotionIntervalChangesStates :
    let s := withChannel 4 (fun c => { c with state := .homing, overdrive := 4 }) ready
    let t := withChannel 3 (fun c => { c with state := .homing, overdrive := 5 })
      (withChannel 2 (fun c => { c with state := .parking, position := 0, speed := 1 }) ready)
    (s.ge.channels.get 4).state = .homing ∧ (s.ge.channels.get 4).overdrive ≤ 4 ∧
    (∀ j : Fin 8, j ≠ 4 → ¬((s.ge.channels.get j).state = .homing ∧ (s.ge.channels.get j).overdrive ≤ 4)) ∧
    4 < (t.ge.channels.get 3).overdrive ∧ (t.ge.channels.get 2).target = (t.ge.channels.get 2).position ∧
    (t.ge.channels.get 2).speed ≤ 1 ∧ Comes .motionInterval True (2 ≤ t.ge.motionTime) t := by
  unfold Comes; decide

/-- Eight pairs for WRITE_LAMPS that begin with the one given. -/
def pairs (lamp code : Byte) : Tab LampPair 8 := ⟨⟨lamp, code⟩ :: List.replicate 7 ⟨0, 0⟩, rfl⟩

theorem witness_LampWritesStored :
    8 < (9 : Byte).toNat ∧ (∃ q ∈ (pairs 48 0).val.take 1, 47 < q.lamp.toNat) ∧
    (∃ q ∈ (pairs 47 5).val.take 1, 4 < q.code.toNat) ∧ (ready.lamps.get 9).cls = .safety ∧
    (pairs 9 1).val.take 1 = [⟨9, 1⟩] ∧ (ready.lamps.get 47).cls = .info ∧
    (∀ i, ¬((ready.inputs.get i).function = .lamp ∧ (ready.inputs.get i).target = 47)) ∧
    (pairs 47 4).val.take 1 = [⟨47, 4⟩] := by decide

theorem witness_SafetyLampComingOnChimes :
    let s := after (.writeLamps .s 1 (pairs 9 0)) (inPower .run (after (.nop .s) ready))
    let t := after (.writeLamps .s 1 (pairs 9 1)) s
    isOut s = true ∧ (1 : Byte).toNat ≤ 8 ∧ (∀ q ∈ (pairs 9 1).val, q.lamp.toNat ≤ 47 ∧ q.code.toNat ≤ 4) ∧
    s.pwc.state = .run ∧ ((beginFrame .s s).lamps.get 9).resolved = .off ∧ (t.lamps.get 9).resolved ≠ .off ∧
    (t.lamps.get 9).cls = .safety ∧
    (∀ m, (t.lamps.get m).cls = .safety → ((beginFrame .s s).lamps.get m).resolved = .off → (t.lamps.get m).resolved ≠ .off →
      m = 9) ∧
    ready.pwc.state ≠ .run := by decide +kernel

theorem witness_SafetyLampComingOnChimes_at_a_row :
    let s := (inPower .run ready).setLmd { ready.lmd with
      slot := 5, plan := ready.lmd.plan.set 47 (some 16), readings := ready.lmd.readings.set 47 ⟨2, 0, false⟩ }
    isOut s = true ∧ s.lmd.slot = (47 : Fin 48).val / 8 ∧ readLamps s.lmd = [47] ∧ faultsChanged (.fill false) s.lmd = [47] := by
  decide

theorem witness_LampConfigured :
    ready.window = false ∧ opened.window = true ∧ 47 < (48 : Byte).toNat ∧ 1 < (2 : Byte).toNat ∧ 3 < (4 : Byte).toNat ∧
    ((0 : Byte) = 0 ∧ (0 : Byte) ≠ 1) ∧ (1 ≤ (5 : Byte).toNat ∧ (5 : Byte).toNat ≤ 5 ∧ (1 : Byte) ≠ 0) ∧
    (47 : Byte).toNat = (47 : Fin 48).val ∧ (opened.lamps.get 47).cls = .info ∧ (opened.lamps.get 0).cls = .safety ∧
    (opened.lamps.get 1).cls = .info := by decide

theorem witness_LampsReadAnswered : 47 < (48 : Byte).toNat ∧ (47 : Byte).toNat ≤ 47 := by decide

/-- A state in RUN with a hold record. -/
def holding (h : Hold) : State := (inPower .run ready).setLmd { ready.lmd with hold := h }

theorem witness_LampTestRequestsAndReleases :
    1 < (2 : Byte).toNat ∧ (1 : Byte).toNat ≤ 1 ∧ ready.pwc.state = .standby ∧ (holding .reset).pwc.state = .run ∧
    (holding ⟨true, false, false, true, some 5, none⟩).lmd.hold.internal = true ∧
    (holding ⟨true, false, false, true, some 5, none⟩).lmd.hold.internalTimer ≠ none ∧
    (holding ⟨false, true, false, true, none, some 5⟩).lmd.hold.portS = true ∧
    (holding ⟨false, true, false, true, none, some 5⟩).lmd.hold.portSTimer ≠ none ∧
    (holding ⟨false, false, true, false, none, none⟩).lmd.hold.request = true ∧
    (holding .reset).lmd.hold.request = false ∧ (holding .reset).lmd.hold.portS = false ∧
    (holding .reset).lmd.hold.internal = false ∧ isOut (holding .reset) = true ∧
    (let s := holding ⟨true, true, false, true, some 5, some 5⟩
     Comes .internalTimerExpiry (s.lmd.hold.internalTimer ≠ none) (s.lmd.hold.internalTimer = some 0) s ∧
     Comes .portSTimerExpiry (s.lmd.hold.portSTimer ≠ none) (s.lmd.hold.portSTimer = some 0) s ∧
     ¬Comes .internalTimerExpiry (s.lmd.hold.internalTimer ≠ none) (s.lmd.hold.internalTimer = some 0)
       (dueTo .internalTimerExpiry s) ∧
     ¬Comes .portSTimerExpiry (s.lmd.hold.portSTimer ≠ none) (s.lmd.hold.portSTimer = some 0) (dueTo .portSTimerExpiry s)) := by
  unfold Comes; decide

theorem witness_ScanFrameFixesPlan :
    let s := holding ⟨false, false, false, true, none, none⟩
    isOut s = true ∧ s.pwc.state = .run ∧ s.lmd.hold.active = true ∧ s.lmd.hold.request = false ∧
    (s.lamps.get 9).resolved = .on ∧ (s.lamps.get 9).cls = .safety ∧ (s.lamps.get 47).resolved = .off ∧
    s.lmd.floorRequested ≤ 16 ∧ ¬(ready.pwc.state = .runCheck ∨ ready.pwc.state = .run) ∧
    (let r := s.setLmd { s.lmd with slot := 6, slowTime := 999, fastTime := 249 }
     r.lmd.slot = 6 ∧ r.lmd.slowTime < 1000 ∧ r.lmd.fastTime < 250) ∧
    Comes .scanFrameStart True (6 ≤ s.lmd.slot) s ∧ ¬Comes .scanFrameStart True (6 ≤ s.lmd.slot) (dueTo .scanFrameStart s) := by
  unfold Comes; decide

theorem witness_RowSlotReadsLamps :
    let s := ready.setLmd { ready.lmd with
      slot := 5, plan := .fill (some 4), readings := (ready.lmd.readings.set 47 ⟨2, 0, false⟩).set 46 ⟨0, 2, true⟩ }
    isOut s = true ∧ s.lmd.slot < 6 ∧ (s.lamps.get 0).cls = .safety ∧ (s.lamps.get 1).cls = .info ∧
    (47 : Fin 48).val / 8 = s.lmd.slot ∧ 4 ≤ (s.lmd.plan.get 47).getD 0 ∧ (s.lmd.readings.get 47).low = 2 ∧
    (s.lmd.readings.get 47).openFault = false ∧ (s.lmd.readings.get 46).good = 2 ∧
    (s.lmd.readings.get 46).openFault = true := by decide

/-- A full queue in order, without two entries of one sound and origin. -/
def full : State :=
  burst.setCu { burst.cu with queue := burst.cu.queue.take 7 ++ [⟨.tock, 0, .portS, 8⟩] }

theorem witness_ChimeRequestSettled :
    let idle := inPower .run ready
    let busy := full.setCu { full.cu with queue := full.cu.queue.take 7 }
    3 < (4 : Byte).toNat ∧ (3 : Byte).toNat ≤ 3 ∧ ready.pwc.state = .standby ∧ idle.pwc.state = .run ∧
    idle.cu.queue = [] ∧ idle.cu.playing = none ∧ idle.cu.gap = none ∧ chimesOrdered full.cu.queue = true ∧
    full.cu.playing ≠ none ∧ full.cu.queue.length = 8 ∧ busy.cu.queue.length < 8 ∧
    chimesOrdered busy.cu.queue = true ∧ (∃ c ∈ full.cu.queue, c.sound = .tick ∧ c.origin = .portD) ∧
    ¬(∃ c ∈ full.cu.queue, c.sound = .triple ∧ c.origin = .portD) := by decide

theorem witness_ChimesCancelledAndSpaced :
    let gap := burst.setCu { burst.cu with playing := none, gap := some 0 }
    burst.cu.playing ≠ none ∧ gap.cu.gap ≠ none ∧ gap.cu.playing = none ∧
    gap.cu.queue.head? = some ⟨.triple, 3, .lamp 9, 2⟩ ∧ (gap.setCu { gap.cu with queue := [] }).cu.queue = [] ∧
    Comes .gapEnd (gap.cu.gap ≠ none) (gap.cu.gap = some 0) gap ∧
    Comes .gapEnd (gap.cu.gap ≠ none) (gap.cu.gap = some 0) (dueTo .gapEnd gap) ∧
    ¬Comes .gapEnd (burst.cu.gap ≠ none) (burst.cu.gap = some 0) burst ∧
    Comes .chimeEnd (burst.cu.playing ≠ none) (∃ q ∈ burst.cu.playing, q.chime.sound.length ≤ q.elapsed) burst ∧
    ¬Comes .chimeEnd (burst.cu.playing ≠ none) (∃ q ∈ burst.cu.playing, q.chime.sound.length ≤ q.elapsed)
      (dueTo .chimeEnd burst) := by
  unfold Comes; decide

/-- The clock at the last second of its range, and at the last second of a leap day. -/
def lastSecond : State := atTime ⟨199, 12, 31, 23, 59, 59⟩ ready
def leapSecond : State := atTime ⟨24, 2, 29, 23, 59, 59⟩ ready

theorem witness_TimeReadAnswered :
    lastSecond.cc.now.legal = true ∧ -48 ≤ lastSecond.cc.localOffset ∧ lastSecond.cc.localOffset ≤ 56 := by decide

theorem witness_ClockLoaded :
    ({ year := 200, month := 1, day := 1, hour := 0, minute := 0, second := 0 } : DateTime).legal = false ∧
    ({ year := 199, month := 12, day := 31, hour := 23, minute := 59, second := 59 } : DateTime).legal = true ∧
    ready.cc.running = true ∧ ready.rlu.live = false ∧ (ready.setCc { ready.cc with running := false }).cc.running = false ∧
    leapSecond.cc.isSet = true ∧ .secondAdvance ∈ (dueTo .secondAdvance leapSecond).due := by decide

/-- A second comes in a state: given, and found due with the prescaler full. -/
def SecondComes (s : State) : Prop :=
  Comes .secondAdvance (s.cc.running = true) (s.cc.running = true ∧ 32768 ≤ s.cc.prescaler) s

theorem witness_SecondAdvancesClock :
    SecondComes lastSecond ∧ SecondComes leapSecond ∧
    SecondComes (dueTo .secondAdvance (leapSecond.setCc { leapSecond.cc with prescaler := 32768 })) ∧
    ¬SecondComes (dueTo .secondAdvance leapSecond) ∧ SecondComes ((held .cause ⟨false, true, false⟩).setCc leapSecond.cc) ∧
    lastSecond.cc.now.legal = true ∧ lastSecond.cc.weekday = (5 + dayCount lastSecond.cc.now) % 7 ∧
    isOut lastSecond = true ∧ lastSecond.cc.running = true ∧ leapSecond.cc.now.legal = true ∧
    leapSecond.cc.weekday = (5 + dayCount leapSecond.cc.now) % 7 ∧
    leapSecond.cc.now ≠ ⟨199, 12, 31, 23, 59, 59⟩ ∧
    (ready.setCc { ready.cc with running := false }).cc.running = false ∧
    (let s := (held .cause ⟨false, true, false⟩).setCc leapSecond.cc
     isOut s = false ∧ s.rst.causes.powerOn = false ∧ s.cc.running = true ∧ s.cc.now.legal = true) := by
  unfold SecondComes Comes; decide +kernel

theorem witness_OscillatorStopsAndRecovers :
    ready.cc.monitor = .running ∧ (ready.setCc { ready.cc with monitor := .stopped }).cc.monitor = .stopped ∧
    (ready.setCc { ready.cc with monitor := .recovering 100 }).cc.monitor = .recovering 100 ∧
    Comes .oscillatorRecovery True (100 ≤ 99) ready ∧ Comes .oscillatorRecovery True (100 ≤ 100) (dueTo .oscillatorRecovery ready) ∧
    ¬Comes .oscillatorRecovery True (100 ≤ 99) (dueTo .oscillatorRecovery ready) := by
  unfold Comes; decide

/-- The last second of a minute that slot 1 has driven, with a history as given. -/
def endOfMinute (history : List HistoryEntry) : State :=
  atTime ⟨24, 1, 1, 8, 0, 59⟩ (withDriver (fun r => { driving r with history }) ready)

theorem witness_Credited : Credited (endOfMinute []) .one .drive ∧ ¬CrewConflict (endOfMinute []) := by
  refine ⟨.inr ⟨by simp, by decide, by decide, fun b => by cases b <;> decide⟩, fun h => ?_⟩
  exact absurd h.2.1 (by decide)

theorem witness_MinuteCreditedToLargestTally :
    isOut (endOfMinute []) = true ∧ SecondComes (endOfMinute []) ∧ (endOfMinute []).cc.now.legal = true ∧
    (endOfMinute []).cc.now.second = 59 ∧ (endOfMinute []).cc.now ≠ ⟨199, 12, 31, 23, 59, 59⟩ ∧
    (endOfMinute []).aau.one.history = [] ∧ (endOfMinute []).aau.two.card = false ∧
    (endOfMinute (List.replicate 24 ⟨.rest, 0, true, 1440⟩)).aau.one.history.length = 24 ∧
    (endOfMinute [⟨.drive, 0, true, 1440⟩]).aau.one.history.getLast? = some ⟨.drive, 0, true, 1440⟩ := by
  unfold SecondComes Comes; decide

/-- The same minute, rested, that is the 45th of its run. -/
def endOfBreak : State :=
  atTime ⟨24, 1, 1, 8, 0, 59⟩
    (withDriver (fun r => { r with card := true, activity := .rest, tallies := ⟨0, 59, 0, 0, 0⟩, restRun := 44 }) ready)

theorem witness_CreditMovesCountersAndWarns :
    (endOfMinute []).aau.one.creditSkip = false ∧ endOfBreak.aau.one.BreakQualifies ∧ Credited endOfBreak .one .rest ∧
    (∀ other, other ≠ Slot.one → (endOfBreak.aau.record other).card = false) ∧ endOfBreak.cc.now.second = 59 := by
  refine ⟨by decide, ⟨by decide, by decide⟩,
    .inr ⟨by simp, by decide, by decide, fun b => by cases b <;> decide⟩,
    fun other h => by cases other <;> first | exact absurd rfl h | decide, by decide⟩

theorem witness_ActivityFrameActs :
    ready.aau.one.card = false ∧ (endOfMinute []).aau.one.card = true ∧ (endOfMinute []).aau.one.activity = .drive ∧
    (ready.aau.record .two).card = false := by decide

theorem witness_SummarySettled :
    let s := endOfBreak
    let t := withDriver (fun r => { r with lastMinute := 100, lastCredited := some .rest }) s
    ready.aau.one.card = false ∧ s.aau.one.card = true ∧ s.cc.isSet = true ∧
    (101 : BitVec 32).toNat = t.aau.one.lastMinute + 1 ∧ (99 : BitVec 32).toNat + 1 = t.aau.one.lastMinute ∧
    (102 : BitVec 32).toNat ≠ t.aau.one.lastMinute ∧ (100 : BitVec 32).toNat = t.aau.one.lastMinute ∧
    t.aau.one.lastCredited = some .rest := by decide

theorem witness_DriveWarningLeadSet : ready.aau.one.card = false ∧ (endOfMinute []).aau.one.card = true := by decide

theorem witness_DriverAndHistoryRead :
    (3 : Byte) ≠ 1 ∧ (3 : Byte) ≠ 2 ∧ 1 < (2 : Byte).toNat ∧ 23 < (24 : Byte).toNat ∧ (23 : Byte).toNat ≤ 23 := by decide

theorem witness_ValidFrameKeepsLinkLive :
    (recorderPayload (.noticeFrame 3 0)).isSome = true ∧ ready.rlu.live = false ∧
    (after (.noticeFrame 3 0) ready).rlu.live = true := by decide

theorem witness_SpeedFrameReachesOwners :
    let s := inPower .run ready
    (s.ge.channels.get 0).enabled = true ∧ (s.ge.channels.get 0).primary = .recorder ∧ (s.ge.channels.get 0).active = none ∧
    (∀ j, j ≠ (0 : Fin 8) → ¬((s.ge.channels.get j).primary = .recorder ∨ (s.ge.channels.get j).fallback = some .recorder)) ∧
    inCycle s = true ∧ s.rlu.vehicle.overspeed = false ∧ inCycle ready = false := by decide

theorem witness_CharactersAssembleFrames :
    ((1, 3) : Nat × Nat) ∈ ([(1, 3), (2, 7), (3, 2), (4, 30), (5, 8), (6, 2)] : List (Nat × Nat)) ∧
    ready.rlu.assembly = .hunt ∧ (setAssembly (.payload 1 [0, 5]) ready).rlu.assembly = .payload 1 [0, 5] ∧
    ((1 : Byte).toNat, ([0, 5] : List Byte).length + 1) ∈ ([(1, 3)] : List (Nat × Nat)) ∧
    crc8 ([0xC5, 1, BitVec.ofNat 8 3] ++ [0, 5, 0]) = frameCrc 1 [0, 5, 0] := by decide +kernel

/-- A pause of 5 ms comes in a state: given, and found due. -/
def PauseComes (s : State) : Prop :=
  Comes .gapTimeout (s.rlu.assembly ≠ .hunt ∧ s.rlu.receiver.underWay = false)
    ((s.rlu.assembly ≠ .hunt ∧ s.rlu.receiver.underWay = false) ∧ 5 ≤ s.rlu.gapTime) s

theorem witness_CharactersAssembleFrames_pause :
    (let s := setAssembly .type ready
     PauseComes s ∧ ¬PauseComes (dueTo .gapTimeout s)) ∧ ¬PauseComes ready ∧
    (let s := (setAssembly .type ready).setRlu { (setAssembly .type ready).rlu with receiver := .taking [], gapTime := 5 }
     s.rlu.assembly ≠ .hunt ∧ ¬PauseComes s ∧ ¬PauseComes (dueTo .gapTimeout s)) := by
  refine ⟨⟨?_, ?_⟩, ?_, ?_, ?_, ?_⟩ <;> (try unfold PauseComes Comes) <;> decide

theorem witness_WholeFrameActsAsCommand :
    ready.rlu.assembly = .hunt ∧
    (encodeRecorder (.noticeFrame 2 7)).isSome = true ∧ (encodeRecorder (.speedFrame 65535 true false)).isSome = true := by
  decide

theorem witness_LinkLossAndBasisExpiry :
    (let s := after (.noticeFrame 3 0) ready
     let c : Instr := .linkSupervisionExpiry
     isOut s = true ∧ Comes c (s.rlu.timer ≠ none) (s.rlu.timer = some 0) s ∧
       ¬Comes c (s.rlu.timer ≠ none) (s.rlu.timer = some 0) (dueTo c s)) ∧
    (let s := withDriver (fun r => { r with basisTimer := some 0 }) ready
     let c : Instr := .basisTimerExpiry .one
     Comes c ((s.aau.record .one).basisTimer ≠ none) ((s.aau.record .one).basisTimer = some 0) (dueTo c s) ∧
       ¬Comes c ((ready.aau.record .one).basisTimer ≠ none) ((ready.aau.record .one).basisTimer = some 0) ready) := by
  unfold Comes; decide

theorem witness_FramesSentInOrder :
    let s := (inPower .run ready).setRlu { ready.rlu with cadence := some 0, waiting := [.status] }
    s.rlu.cadence ≠ none ∧ s.rlu.sending ≠ none ∧ s.rlu.waiting.head? = some .status ∧ ready.rlu.waiting = [] ∧
    ready.rlu.sending ≠ none ∧ (s.setRlu { s.rlu with sending := none }).rlu.sending = none ∧
    Comes .statusCadence (s.rlu.cadence ≠ none) (s.rlu.cadence = some 0) (dueTo .statusCadence s) ∧
    ¬Comes .statusCadence (ready.rlu.cadence ≠ none) (ready.rlu.cadence = some 0) ready ∧
    Comes .transmitComplete (ready.rlu.sending ≠ none) (∃ f ∈ ready.rlu.sending, f.left = 0) ready ∧
    ¬Comes .transmitComplete (ready.rlu.sending ≠ none) (∃ f ∈ ready.rlu.sending, f.left = 0) (dueTo .transmitComplete ready) ∧
    (let f : Sending := { bytes := standbyBytes, left := 10 }
     f.left ≤ 100 * f.bytes.length ∧ f.bytes[3]? = some (crc8 [0xC5, 0x82, 0x00]) ∧
       (100 * f.bytes.length - f.left) / 10 = 10 * 3 + 9) := by
  unfold Comes; decide +kernel

/-- A SET_INPUT that makes DI11 ask for FAST on L47. -/
def mapping : InputArgs := ⟨11, 1, 47, 3, 1, 3, 3⟩

theorem witness_InputConfigured :
    ready.window = false ∧ opened.window = true ∧ 11 < (12 : Byte).toNat ∧ 2 < (3 : Byte).toNat ∧ 47 < (48 : Byte).toNat ∧
    3 < (4 : Byte).toNat ∧ 1 < (2 : Byte).toNat ∧
    ¬(11 < mapping.input.toNat ∨ 2 < mapping.function.toNat ∨ 47 < mapping.target.toNat ∨ mapping.lampState = 0 ∨
      3 < mapping.lampState.toNat ∨ 1 < mapping.polarity.toNat ∨ 3 < mapping.edge.toNat) ∧
    mapping.input.toNat = (11 : Fin 12).val ∧ ((after (.setInput .s mapping) opened).inputs.get 11).function = .lamp := by
  decide

/-- A LAMP input one sample away from its edge. -/
def switching : State :=
  withInput 11 (fun r => { r with function := .lamp, target := 47, edge := .both, raw := true, wait := 19 }) ready

theorem witness_SamplesDebounced :
    isOut switching = true ∧ (switching.inputs.get 11).Completes 8001 ∧ ¬(switching.inputs.get 11).Completes 3999 ∧
    (switching.inputs.get 11).Tells true ∧ ¬(ready.inputs.get 11).Tells true ∧
    (∀ j, ¬(ready.inputs.get j).Completes 8000) ∧ (switching.inputs.get 11).raw ≠ (switching.inputs.get 11).debounced ∧
    (switching.inputs.get 11).function ≠ .ignition ∧ (ready.inputs.get 11).raw = (ready.inputs.get 11).debounced := by
  unfold InputRecord.Completes InputRecord.Tells; decide

/-- The ignition about to come on, and about to go off. -/
def turningOn : State := withInput 0 (fun r => { r with raw := true }) ready
def turningOff (w : PowerState) : State := withInput 0 (fun r => { r with debounced := true, active := true }) (inPower w ready)

theorem witness_IgnitionOnEntersRunCheck :
    isOut turningOn = true ∧ turningOn.pwc.state = .standby ∧ (inPower .parking turningOn).pwc.state = .parking ∧
    (turningOn.inputs.get 0).function = .ignition ∧ (turningOn.inputs.get 0).active = false ∧
    (turningOn.inputs.get 0).raw ≠ (turningOn.inputs.get 0).debounced ∧
    (turningOn.inputs.get 0).raw = (turningOn.inputs.get 0).activeHigh := by decide

theorem witness_IgnitionOffLeavesCycle :
    isOut (turningOff .run) = true ∧ (turningOff .run).pwc.state = .run ∧ (turningOff .runCheck).pwc.state = .runCheck ∧
    ((turningOff .run).inputs.get 0).function = .ignition ∧ ((turningOff .run).inputs.get 0).active = true ∧
    ((turningOff .run).inputs.get 0).raw ≠ ((turningOff .run).inputs.get 0).debounced ∧
    ((turningOff .run).inputs.get 0).raw ≠ ((turningOff .run).inputs.get 0).activeHigh ∧
    ((withChannel 7 (fun c => { c with state := .tracking }) (turningOff .run)).ge.channels.get 7).state = .tracking ∧
    (∀ j, ((turningOff .run).ge.channels.get j).state = .unhomed) := by decide

/-- RUN_CHECK with every channel tracking, and one with every channel still homing. -/
def checked (state : ChannelState) (left : SelfCheck) : State :=
  let s := inPower .runCheck ready
  (s.setGe { s.ge with channels := s.ge.channels.map fun c => { c with state } }).setPwc { s.pwc with selfCheck := left }

theorem witness_CheckAndParkingComplete :
    isOut (checked .tracking (.running 0)) = true ∧ (checked .tracking (.running 0)).pwc.state = .runCheck ∧
    (let s := checked .tracking (.running 0)
     Comes .selfCheckTimerExpiry (∃ n, s.pwc.selfCheck = .running n) (s.pwc.selfCheck = .running 0) s) ∧
    (let s := checked .tracking (.running 1)
     ¬Comes .selfCheckTimerExpiry (∃ n, s.pwc.selfCheck = .running n) (s.pwc.selfCheck = .running 0)
       (dueTo .selfCheckTimerExpiry s)) ∧
    Comes .motionInterval True (2 ≤ ready.ge.motionTime) ready ∧
    CheckComplete (checked .tracking (.running 0)) ∧ ¬CheckComplete (checked .homing (.running 0)) ∧
    CheckComplete (after .motionInterval (checked .tracking .runOut)) ∧
    (checked .tracking .runOut).pwc.supplyLow = false ∧
    ParkingComplete (after .motionInterval (inPower .parking (checked .parking .stopped))) := by
  refine ⟨by decide, by decide, ⟨fun _ => rfl, fun _ => ⟨0, rfl⟩⟩, fun h => absurd (h.1 (by decide)) (by decide), ?_⟩
  unfold CheckComplete ParkingComplete Comes; decide

theorem witness_SupplyStateFollowsBattery :
    let low := ready.setPwc { ready.pwc with supplyLow := true, supplyWait := 19 }
    (ready.setPwc { ready.pwc with supplyWait := 19 }).pwc.supplyWait + 1 = 20 ∧ (15999 : Nat) < 16000 ∧ (17000 : Nat) < 17001 ∧
    ready.pwc.supplyLow = false ∧ low.pwc.supplyLow = true ∧ low.pwc.supplyWait + 1 = 20 := by decide

theorem witness_FramesSpellTheirCommands :
    (Instr.setInput .s mapping).wellFormed = true ∧ (encodeRequest (.setInput .s mapping)).isSome = true ∧
    recorderPayload (.noticeFrame 2 7) = some (0x06, [2, 7]) := by decide

theorem witness_OutputLeadsFollowState :
    let s := (selectFalls .d ready)
    isOut s = true ∧ isOut State.powerOnHeld = false ∧ (s.spi .d).selected = true ∧ (s.spi .d).status = some 0xC0 ∧
    (s.spi .s).selected = false ∧ (s.spi .d).bits.length = 8 * 0 + (0 : Fin 8).val ∧
    192 ≤ (s.setSpi .d { s.spi .d with bits := List.replicate 192 true }).pins.spiD.bits.length ∧ ready.cu.muted = false ∧
    burst.cu.playing ≠ none ∧ (ready.setCu { ready.cu with muted := true }).cu.muted = true := by decide +kernel

theorem witness_InputLinesMakeCommands :
    (ready.spi .d).selected = false ∧ isOut ready = true ∧ isOut State.powerOnHeld = false ∧
    ((selectFalls .d State.powerOnHeld).spi .d).selected = true ∧ ((selectFalls .d State.powerOnHeld).spi .d).status = none ∧
    ready.rlu.receiver = .waiting ∧ (lineBit true ready).rlu.receiver = .idle ∧
    (lineBits ([true] ++ List.replicate 10 false) ready).rlu.receiver = .broken 0 ∧
    ready.pins.vdd5Low = false ∧ (vdd5Lead 4299 ready).pins.vdd5Low = true ∧ ready.pins.rstLow = false ∧
    (rstFalls 1000 ready).pins.rstLow = true := by decide

/-- The hypotheses of the six statements about what every step keeps hold together after reset, and the step from there is one
that answers a next state. -/
theorem witness_EveryStepKeeps :
    ready.gaugesSound = true ∧ ready.sourcesFollowed = true ∧ ready.windowSound = true ∧ ready.inputsSound = true ∧
    ready.cycleSound = true ∧ ready.lampsSound = true ∧ ready.handedAll = true ∧ ready.matrixSound = true ∧
    ready.chimesSound = true ∧ ready.clockSound = true ∧ ready.driversSound = true ∧ ready.heldSound = true ∧
    ready.eventsSound = true ∧ ready.timersSound = true ∧ step ready = .next (tick ready) := by
  refine ⟨?_, ?_, ?_, ?_, ?_, ?_, ?_, ?_, ?_, ?_, ?_, ?_, ?_, ?_, rfl⟩ <;> decide

end Sys2Proof.Tests
end

section
/-! SUPPORT. How a taken port frame answers, from what its request replies. -/
namespace Sys2Proof.Machine

/-! ### Answers of a taken frame (R168, R170) -/

section takenFrame
variable {c : Instr} {p : Port} {code : Byte} {request : State → Reply} {s : State}

/-- R168: a taken frame answers what its request replies at the state that steps 1 and 2 of R170 leave. -/
theorem answers_of_takenFrame {r : Reply} (hexec : exec c s = .next (takenFrame p code request s)) (hout : isOut s = true)
    (hr : request (beginFrame p s) = r) : Answers c p code r.result r.data s r.state := by
  simp [Answers, hexec, takenFrame, hout, hr]

/-- R170: a taken frame whose request is refused is a refusal. -/
theorem refuses_of_takenFrame {result : ResultCode} (hexec : exec c s = .next (takenFrame p code request s))
    (hout : isOut s = true) (hr : request (beginFrame p s) = refuse result (beginFrame p s)) :
    Refuses c p code result s :=
  answers_of_takenFrame hexec hout hr

end takenFrame

/-! ### The checks of port and window -/

section ifConfigurable
variable {s : State}
@[simp] theorem ifConfigurable_portD (act : Reply) : ifConfigurable .d s act = refuse .notPermitted s := rfl
theorem ifConfigurable_closed (act : Reply) (h : s.window = false) : ifConfigurable .s s act = refuse .locked s := by
  simp [ifConfigurable, h]
theorem ifConfigurable_open (act : Reply) (h : s.window = true) : ifConfigurable .s s act = act := by
  simp [ifConfigurable, h]
end ifConfigurable

/-! ### Indices named by a byte -/

theorem indexOf_eq_some {n : Nat} {b : Byte} {i : Fin n} (h : b.toNat = i.val) : indexOf n b = some i := by
  simp [indexOf, h]

theorem indexOf_eq_none {n : Nat} {b : Byte} (h : n ≤ b.toNat) : indexOf n b = none := by
  simp [indexOf, Nat.not_lt.2 h]

theorem indexOf_eq_some_iff {n : Nat} {b : Byte} {i : Fin n} : indexOf n b = some i ↔ b.toNat = i.val := by
  refine ⟨fun h => ?_, indexOf_eq_some⟩
  unfold indexOf at h
  split at h
  · exact congrArg Fin.val (Option.some.inj h)
  · cases h

/-- A channel number of four bits keeps its value in a byte. -/
@[simp] theorem toNat_zeroExtend_nibble (ch : BitVec 4) : (ch.zeroExtend 8).toNat = ch.toNat :=
  BitVec.toNat_setWidth_of_le (by decide)

end Sys2Proof.Machine
end

section
/-! CERTIFICATE. LOAD_CURVE (R23, R24): the check of a curve is R5's, and each of the two parts case by case. -/
namespace Sys2Proof.Machine

/-! ### The check of a curve (R5) -/

theorem risingX_iff_isChain (l : List Point) : risingX l = true ↔ (l.map Point.x).IsChain (· < ·) := by
  induction l with
  | nil => simp [risingX]
  | cons p rest ih =>
    cases rest with
    | nil => simp [risingX]
    | cons q rest => simpa [risingX] using fun _ => ih

/-- R5: the check that compares neighbours finds exactly the curves whose x coordinates rise throughout. -/
theorem risingX_iff_pairwise (l : List Point) : risingX l = true ↔ l.Pairwise fun p q => p.x < q.x := by
  rw [risingX_iff_isChain, List.isChain_iff_pairwise, List.pairwise_map]

/-- R5: a curve passes its check exactly when it is legal. -/
theorem curvePasses_iff (limit : Nat) (curve : List Point) : curvePasses limit curve = true ↔ CurveLegal limit curve := by
  simp [curvePasses, CurveLegal, risingX_iff_pairwise, and_assoc]

/-! ### A curve offered to a channel -/

/-- One channel changed as part of a taken frame. -/
theorem modifyChannel_beginFrame (i : Fin 8) (f : Channel → Channel) (p : Port) (s : State) :
    modifyChannel i f (beginFrame p s) =
      (beginFrame p s).setGe { s.ge with channels := s.ge.channels.set i (f (s.ge.channels.get i)) } := by
  simp [modifyChannel, Tab.modify]

section offerCurve
variable {i : Fin 8} {curve : List Point} {s : State}

theorem offerCurve_of_legal (h : CurveLegal (s.ge.channels.get i).sweepLimit curve) :
    offerCurve i curve s = accept [] (modifyChannel i (fun c => { c with curve, pendingCurve := none }) s) := by
  simp [offerCurve, (curvePasses_iff _ _).2 h]

theorem offerCurve_of_not_legal (h : ¬CurveLegal (s.ge.channels.get i).sweepLimit curve) :
    offerCurve i curve s = { refuse .badCurve s with state := modifyChannel i Channel.dropPending s } := by
  simp [offerCurve, (curvePasses_iff _ _).not.2 h]

end offerCurve

/-! ### Part 0, and a part above 1 (R23) -/

section part0
variable {ch part : BitVec 4} {n : Byte} {pts : Tab PointArg 5} {s : State}

theorem loadCurvePart0Reply_range (hw : s.window = true) (h : 7 < ch.toNat ∨ 1 < part.toNat) :
    loadCurvePart0Reply .s ch part n pts s = refuse .range s := by
  rw [loadCurvePart0Reply, ifConfigurable_open _ hw]
  split
  · rfl
  · next i hi =>
    have hch := indexOf_eq_some_iff.1 hi
    rw [toNat_zeroExtend_nibble] at hch
    rw [if_pos (by omega)]

variable {i : Fin 8}

/-- R23: past its port, window, channel and part, a part 0 is judged by its point count. -/
theorem loadCurvePart0Reply_part_zero (hw : s.window = true) (hi : ch.toNat = i.val) :
    loadCurvePart0Reply .s ch 0 n pts s =
      if n.toNat < 2 ∨ 9 < n.toNat then refuse .badCurve s
      else if n.toNat ≤ 5 then offerCurve i ((pts.val.map pointOfArg).take n.toNat) s
      else accept [] (modifyChannel i
        (fun c => { c with pendingCurve := some ⟨n.toNat, pts.val.map pointOfArg⟩ }) s) := by
  have hidx : indexOf 8 (ch.zeroExtend 8) = some i := indexOf_eq_some (by rw [toNat_zeroExtend_nibble, hi])
  rw [loadCurvePart0Reply, ifConfigurable_open _ hw, hidx]
  simp

end part0

/-! ### Part 1 (R24) -/

section part1
variable {ch : BitVec 4} {pts : Tab PointArg 4} {s : State} {i : Fin 8}

theorem loadCurvePart1Reply_range (hw : s.window = true) (h : 7 < ch.toNat) :
    loadCurvePart1Reply .s ch pts s = refuse .range s := by
  rw [loadCurvePart1Reply, ifConfigurable_open _ hw,
    indexOf_eq_none (by rw [toNat_zeroExtend_nibble]; omega)]

theorem loadCurvePart1Reply_not_pending (hw : s.window = true) (hi : ch.toNat = i.val)
    (hq : (s.ge.channels.get i).pendingCurve = none) : loadCurvePart1Reply .s ch pts s = refuse .notNow s := by
  have hidx : indexOf 8 (ch.zeroExtend 8) = some i := indexOf_eq_some (by rw [toNat_zeroExtend_nibble, hi])
  simp only [loadCurvePart1Reply, ifConfigurable_open _ hw, hidx, hq]

theorem loadCurvePart1Reply_pending {q : PendingCurve} (hw : s.window = true) (hi : ch.toNat = i.val)
    (hq : (s.ge.channels.get i).pendingCurve = some q) :
    loadCurvePart1Reply .s ch pts s =
      offerCurve i (q.points ++ (pts.val.take (q.n - 5)).map pointOfArg) s := by
  have hidx : indexOf 8 (ch.zeroExtend 8) = some i := indexOf_eq_some (by rw [toNat_zeroExtend_nibble, hi])
  simp only [loadCurvePart1Reply, ifConfigurable_open _ hw, hidx, hq, List.map_take]

end part1

/-! ### What LOAD_CURVE answers -/

theorem exec_loadCurvePart0 (p : Port) (ch part : BitVec 4) (n : Byte) (pts : Tab PointArg 5) (s : State) :
    exec (.loadCurvePart0 p ch part n pts) s = .next (takenFrame p 0x13 (loadCurvePart0Reply p ch part n pts) s) := rfl

theorem exec_loadCurvePart1 (p : Port) (ch : BitVec 4) (pts : Tab PointArg 4) (s : State) :
    exec (.loadCurvePart1 p ch pts) s = .next (takenFrame p 0x13 (loadCurvePart1Reply p ch pts) s) := rfl

/-- R23, R24: the answers of a frame whose request offers a complete curve to a channel. -/
theorem answers_of_offerCurve {c : Instr} {request : State → Reply} {s : State} {i : Fin 8} {curve : List Point}
    (hexec : exec c s = .next (takenFrame .s 0x13 request s)) (hout : isOut s = true)
    (hr : request (beginFrame .s s) = offerCurve i curve (beginFrame .s s)) :
    let b := beginFrame .s s
    let old := s.ge.channels.get i
    let load := fun a : Channel => b.setGe { s.ge with channels := s.ge.channels.set i a }
    (CurveLegal old.sweepLimit curve → Answers c .s 0x13 .ok [] s (load { old with curve, pendingCurve := none })) ∧
    (¬CurveLegal old.sweepLimit curve → Answers c .s 0x13 .badCurve [] s (load { old with pendingCurve := none })) := by
  refine ⟨fun h => ?_, fun h => ?_⟩
  · rw [offerCurve_of_legal (by rwa [beginFrame_ge]), modifyChannel_beginFrame] at hr
    exact answers_of_takenFrame hexec hout hr
  · rw [offerCurve_of_not_legal (by rwa [beginFrame_ge]), modifyChannel_beginFrame] at hr
    exact answers_of_takenFrame hexec hout hr

/-- Settles O14: each part by the cases of its reply, and every complete curve by `answers_of_offerCurve`. -/
theorem curvesLoadInParts : Obligations.CurvesLoadInParts := by
  refine ⟨fun p ch part n pts s hout => ?part0, fun p ch pts s hout => ?part1⟩
  case part0 =>
    refine ⟨?_, ?_, ?_, ?_⟩
    · rintro rfl
      exact refuses_of_takenFrame (exec_loadCurvePart0 ..) hout rfl
    · rintro rfl hw
      exact refuses_of_takenFrame (exec_loadCurvePart0 ..) hout (ifConfigurable_closed _ (by simpa using hw))
    · rintro rfl hw h
      exact refuses_of_takenFrame (exec_loadCurvePart0 ..) hout (loadCurvePart0Reply_range (by simpa using hw) h)
    · rintro rfl hw rfl i hi
      have hreply := loadCurvePart0Reply_part_zero (n := n) (pts := pts) (s := beginFrame .s s) (by simpa using hw) hi
      have hoffer (h2 : 2 ≤ n.toNat) (h5 : n.toNat ≤ 5) := answers_of_offerCurve (exec_loadCurvePart0 ..) hout
        (hreply.trans (by rw [if_neg (by omega), if_pos h5, ← List.map_take]))
      refine ⟨fun h => ?_, fun h2 h5 => (hoffer h2 h5).1, fun h2 h5 => (hoffer h2 h5).2, fun h6 h9 => ?_⟩
      · exact refuses_of_takenFrame (exec_loadCurvePart0 ..) hout (hreply.trans (if_pos h))
      · have hall : pts.val.take n.toNat = pts.val := List.take_of_length_le (by rw [pts.len]; omega)
        rw [if_neg (by omega), if_neg (by omega), modifyChannel_beginFrame, ← hall] at hreply
        exact answers_of_takenFrame (exec_loadCurvePart0 ..) hout hreply
  case part1 =>
    refine ⟨?_, ?_, ?_, ?_⟩
    · rintro rfl
      exact refuses_of_takenFrame (exec_loadCurvePart1 ..) hout rfl
    · rintro rfl hw
      exact refuses_of_takenFrame (exec_loadCurvePart1 ..) hout (ifConfigurable_closed _ (by simpa using hw))
    · rintro rfl hw h
      exact refuses_of_takenFrame (exec_loadCurvePart1 ..) hout (loadCurvePart1Reply_range (by simpa using hw) h)
    · rintro rfl hw i hi c
      have hwb : (beginFrame .s s).window = true := by simpa using hw
      split
      · next hq =>
        exact refuses_of_takenFrame (exec_loadCurvePart1 ..) hout
          (loadCurvePart1Reply_not_pending hwb hi (by rwa [beginFrame_ge]))
      · next q hq =>
        exact answers_of_offerCurve (exec_loadCurvePart1 ..) hout
          (loadCurvePart1Reply_pending hwb hi (by rwa [beginFrame_ge]))

end Sys2Proof.Machine
end

section
/-! CERTIFICATE. SET_CHANNEL (R21): which requests check 3 reads as a configuration, and what a channel keeps of one. -/
namespace Sys2Proof.Machine

/-! ### The source list of a request (R21) -/

theorem sourceOfCode_eq_some {b : Byte} {a : Source} (h : a.code = b.toNat) : sourceOfCode b = some a := by
  cases a <;> simp [sourceOfCode, ← h, Source.code]

theorem sourceOfCode_eq_some_iff {b : Byte} {a : Source} : sourceOfCode b = some a ↔ a.code = b.toNat := by
  refine ⟨fun h => ?_, sourceOfCode_eq_some⟩
  unfold sourceOfCode at h
  split at h <;> cases h
  all_goals next hb => exact hb.symm

theorem sourceOfCode_of_le {b : Byte} (h : b.toNat ≤ 2) : ∃ a, sourceOfCode b = some a := by
  have hcases : b.toNat = 0 ∨ b.toNat = 1 ∨ b.toNat = 2 := by omega
  rcases hcases with h | h | h
  · exact ⟨.portD, sourceOfCode_eq_some h.symm⟩
  · exact ⟨.portS, sourceOfCode_eq_some h.symm⟩
  · exact ⟨.recorder, sourceOfCode_eq_some h.symm⟩

theorem Source.code_le (a : Source) : a.code ≤ 2 := by cases a <;> decide

/-- R21, check 3: one or two sources, each with a code of 00 section 6.1, and no source twice. -/
def SourcesListed (args : ChannelArgs) : Prop :=
  (args.sourceCount = 1 ∧ args.first.toNat ≤ 2) ∨
    (args.sourceCount = 2 ∧ args.first.toNat ≤ 2 ∧ args.second.toNat ≤ 2 ∧ args.first ≠ args.second)

/-- A source list that check 3 lets pass holds the sources that the request names, in its order. -/
theorem sourceListOfArgs_spec {args : ChannelArgs} {a : Source} {f : Option Source}
    (h : sourceListOfArgs args = some (a, f)) :
    SourcesListed args ∧ a.code = args.first.toNat ∧
      f.map Source.code = if args.sourceCount = 2 then some args.second.toNat else none := by
  unfold sourceListOfArgs at h
  split at h
  · next hcount =>
    obtain ⟨a', ha, heq⟩ := Option.map_eq_some_iff.1 h
    cases heq
    have hcode := sourceOfCode_eq_some_iff.1 ha
    have hone : args.sourceCount = 1 := BitVec.eq_of_toNat_eq hcount
    exact ⟨.inl ⟨hone, hcode ▸ a.code_le⟩, hcode, by simp [hone]⟩
  · next hcount =>
    have htwo : args.sourceCount = 2 := BitVec.eq_of_toNat_eq hcount
    split at h
    · next a' g ha hg =>
      have hcode := sourceOfCode_eq_some_iff.1 ha
      have hcode' := sourceOfCode_eq_some_iff.1 hg
      split at h
      · cases h
      · next hne =>
        cases h
        have hdiff : args.first ≠ args.second := fun e => hne (Option.some.inj (ha.symm.trans ((congrArg _ e).trans hg)))
        exact ⟨.inr ⟨htwo, hcode ▸ a.code_le, hcode' ▸ g.code_le, hdiff⟩, hcode, by simp [htwo, hcode']⟩
    · cases h
  · cases h

/-- Check 3 lets every listed request pass. -/
theorem sourceListOfArgs_of_listed {args : ChannelArgs} (h : SourcesListed args) :
    ∃ a f, sourceListOfArgs args = some (a, f) := by
  rcases h with ⟨hone, hfirst⟩ | ⟨htwo, hfirst, hsecond, hdiff⟩
  · obtain ⟨a, ha⟩ := sourceOfCode_of_le hfirst
    exact ⟨a, none, by simp [sourceListOfArgs, hone, ha]⟩
  · obtain ⟨a, ha⟩ := sourceOfCode_of_le hfirst
    obtain ⟨g, hg⟩ := sourceOfCode_of_le hsecond
    have hne : a ≠ g := by
      rintro rfl
      exact hdiff (BitVec.eq_of_toNat_eq ((sourceOfCode_eq_some_iff.1 ha).symm.trans (sourceOfCode_eq_some_iff.1 hg)))
    exact ⟨a, some g, by simp [sourceListOfArgs, htwo, ha, hg, hne]⟩

/-! ### The configuration of a request (R21) -/

/-- R21: what a configuration takes from the request, with its clamps. -/
structure ChannelConfig.Reads (k : ChannelConfig) (args : ChannelArgs) : Prop where
  channel : args.channel.toNat = k.channel.val
  enabled : k.enabled = args.enabled
  sweepLimit : k.sweepLimit = max 60 (min args.sweepLimit.toNat 3780)
  vmax : k.vmax = max 1 (min args.vmax.toNat 12)
  filterShift : k.filterShift = min args.filterShift.toNat 7
  primary : k.primary.code = args.first.toNat
  fallback : k.fallback.map Source.code = if args.sourceCount = 2 then some args.second.toNat else none
  faultLamp : args.faultLamp.toNat = k.faultLamp.val
  sweepTest : k.sweepTest = args.sweepTest

/-- R21: a request that passes check 3 is listed, and gives a configuration with its clamped values. -/
theorem channelConfigOf_spec {args : ChannelArgs} {k : ChannelConfig} (h : channelConfigOf args = some k) :
    SourcesListed args ∧ k.Reads args := by
  unfold channelConfigOf at h
  split at h
  · next channel faultLamp primary fallback hchannel hlamp hsources =>
    cases h
    obtain ⟨hlisted, hprimary, hfallback⟩ := sourceListOfArgs_spec hsources
    exact ⟨hlisted,
      { channel := indexOf_eq_some_iff.1 hchannel, enabled := rfl, sweepLimit := rfl, vmax := rfl
        filterShift := Nat.zero_max _, primary := hprimary, fallback := hfallback
        faultLamp := indexOf_eq_some_iff.1 hlamp, sweepTest := rfl }⟩
  · cases h

/-- R21: check 3 refuses a request with a channel, a lamp or a source list that it does not know. -/
theorem channelConfigOf_eq_none {args : ChannelArgs}
    (h : 7 < args.channel.toNat ∨ 47 < args.faultLamp.toNat ∨ ¬SourcesListed args) : channelConfigOf args = none := by
  cases hk : channelConfigOf args with
  | none => rfl
  | some k =>
    obtain ⟨hlisted, hreads⟩ := channelConfigOf_spec hk
    have hchannel := hreads.channel
    have hlamp := hreads.faultLamp
    rcases h with h | h | h
    · omega
    · omega
    · exact absurd hlisted h

/-- R21: check 3 lets every other request pass. -/
theorem channelConfigOf_eq_some {args : ChannelArgs} {i : Fin 8} (hi : args.channel.toNat = i.val)
    (hlamp : args.faultLamp.toNat ≤ 47) (hlisted : SourcesListed args) :
    ∃ k, channelConfigOf args = some k ∧ k.channel = i ∧ k.Reads args := by
  obtain ⟨a, f, hsources⟩ := sourceListOfArgs_of_listed hlisted
  have hidx : indexOf 48 args.faultLamp = some ⟨args.faultLamp.toNat, by omega⟩ := indexOf_eq_some rfl
  obtain ⟨k, hk⟩ : ∃ k, channelConfigOf args = some k := by
    simp [channelConfigOf, indexOf_eq_some hi, hidx, hsources]
  have hreads := (channelConfigOf_spec hk).2
  exact ⟨k, hk, Fin.ext (hreads.channel.symm.trans hi), hreads⟩

/-! ### The configuration a channel holds -/

/-- The configuration that channel i holds in its record c. -/
def Channel.config (i : Fin 8) (c : Channel) : ChannelConfig :=
  { channel := i, enabled := c.enabled, sweepLimit := c.sweepLimit, vmax := c.vmax, filterShift := c.filterShift,
    primary := c.primary, fallback := c.fallback, faultLamp := c.faultLamp, sweepTest := c.sweepTest }

section config
variable (i : Fin 8) (c : Channel)

@[simp] theorem Channel.dropPending_config : c.dropPending.config i = c.config i := rfl
@[simp] theorem Channel.dropPending_curve : c.dropPending.curve = c.curve := rfl

@[simp] theorem Channel.reselect_config (live : Source → Bool) : (c.reselect live).config i = c.config i := by
  unfold Channel.reselect
  split <;> rfl

@[simp] theorem Channel.reselect_curve (live : Source → Bool) : (c.reselect live).curve = c.curve := by
  unfold Channel.reselect
  split <;> rfl

/-- R22: whatever becomes of the running state, the channel holds the configuration asked for. -/
theorem Channel.configure_config (cycle : Bool) (k : ChannelConfig) : (c.configure cycle k).config k.channel = k := by
  unfold Channel.configure
  split_ifs <;> rfl

theorem Channel.configure_curve (cycle : Bool) (k : ChannelConfig) : (c.configure cycle k).curve = c.curve := by
  unfold Channel.configure
  split_ifs <;> rfl

end config

/-! ### A request that has passed its checks -/

@[simp] theorem postSignalChange_ge (i : Fin 8) (before after : Channel) (s : State) :
    (postSignalChange i before after s).ge = s.ge := by
  unfold postSignalChange
  split_ifs <;> simp

/-- R25, R176: a channel loses at most its pending curve as the window closes. -/
theorem closeWindow_channel (i : Fin 8) (s : State) :
    (closeWindow s).ge.channels.get i = s.ge.channels.get i ∨
      (closeWindow s).ge.channels.get i = (s.ge.channels.get i).dropPending := by
  unfold closeWindow
  split
  · exact .inr (by simp)
  · exact .inl rfl

/-- R176: a channel loses at most its pending curve as the vehicle speed value is handed. -/
theorem handSpeed_channel (i : Fin 8) (old : Option Nat) (s : State) :
    (handSpeed old s).ge.channels.get i = s.ge.channels.get i ∨
      (handSpeed old s).ge.channels.get i = (s.ge.channels.get i).dropPending := by
  unfold handSpeed
  split
  · exact .inl rfl
  · split
    · rw [judgeTone_ge]
      split
      · exact closeWindow_channel i s
      · exact .inl rfl
    · exact .inl (by rw [judgeTone_ge])

/-- R21, R22: an applied request leaves its channel with the configuration asked for and the curve it had. -/
theorem applyChannel_channel (k : ChannelConfig) (s : State) :
    ((applyChannel k s).ge.channels.get k.channel).config k.channel = k ∧
      ((applyChannel k s).ge.channels.get k.channel).curve = (s.ge.channels.get k.channel).curve := by
  simp only [applyChannel, powerConditions_ge, formGaugeAny_ge]
  rcases handSpeed_channel k.channel (vehicleSpeed s) _ with h | h <;> rw [h] <;>
    simp [Channel.configure_config, Channel.configure_curve]

/-! ### The checks of SET_CHANNEL -/

section changeChannel
variable {k : ChannelConfig} {s : State}

theorem changeChannel_early
    (h : k.enabled = true ∧ (s.ge.channels.get k.channel).state ≠ .unhomed ∧
      (s.ge.channels.get k.channel).state ≠ .parked) : changeChannel k s = refuse .notNow s := by
  obtain ⟨henabled, hhomed, hparked⟩ := h
  simp [changeChannel, henabled, hhomed, hparked]

variable (hearly : ¬(k.enabled = true ∧ (s.ge.channels.get k.channel).state ≠ .unhomed ∧
  (s.ge.channels.get k.channel).state ≠ .parked))
include hearly

theorem changeChannel_low (h : ∃ q ∈ (s.ge.channels.get k.channel).curve, k.sweepLimit < q.a) :
    changeChannel k s = refuse .badCurve s := by
  rw [changeChannel, if_neg (by simpa [and_assoc] using hearly), if_pos (by simpa using h)]

theorem changeChannel_accepted (h : ¬∃ q ∈ (s.ge.channels.get k.channel).curve, k.sweepLimit < q.a) :
    changeChannel k s = accept [] (applyChannel k s) := by
  rw [changeChannel, if_neg (by simpa [and_assoc] using hearly), if_neg (by simpa using h)]

end changeChannel

section setChannelReply
variable {args : ChannelArgs} {s : State} (hw : s.window = true)
include hw

theorem setChannelReply_range (h : channelConfigOf args = none) : setChannelReply .s args s = refuse .range s := by
  rw [setChannelReply, ifConfigurable_open _ hw, h]

theorem setChannelReply_config {k : ChannelConfig} (h : channelConfigOf args = some k) :
    setChannelReply .s args s = changeChannel k s := by
  rw [setChannelReply, ifConfigurable_open _ hw, h]

end setChannelReply

/-! ### What SET_CHANNEL answers -/

theorem exec_setChannel (p : Port) (args : ChannelArgs) (s : State) :
    exec (.setChannel p args) s = .next (takenFrame p 0x12 (setChannelReply p args) s) := rfl

/-- Settles O15: checks 1 and 2 by the port and the window, check 3 by `channelConfigOf`, checks 4 and 5 by
`changeChannel`, and the configuration by `applyChannel_channel`. -/
theorem channelRequestChecked : Obligations.ChannelRequestChecked := by
  intro p args s hout
  refine ⟨?_, ?_, ?_, ?_⟩
  · rintro rfl
    exact refuses_of_takenFrame (exec_setChannel ..) hout rfl
  · rintro rfl hw
    exact refuses_of_takenFrame (exec_setChannel ..) hout (ifConfigurable_closed _ (by simpa using hw))
  · rintro rfl hw h
    exact refuses_of_takenFrame (exec_setChannel ..) hout
      (setChannelReply_range (by simpa using hw) (channelConfigOf_eq_none h))
  · rintro rfl hw hlamp hlisted i hi
    obtain ⟨k, hk, rfl, hreads⟩ := channelConfigOf_eq_some hi hlamp hlisted
    have hreply := setChannelReply_config (s := beginFrame .s s) (by simpa using hw) hk
    dsimp only
    rw [← hreads.enabled, ← hreads.sweepLimit, ← beginFrame_ge .s s]
    refine ⟨fun hearly => ?_, fun hearly hlow => ?_, fun hearly hlow => ⟨applyChannel k (beginFrame .s s), ?_⟩⟩
    · exact refuses_of_takenFrame (exec_setChannel ..) hout (hreply.trans (changeChannel_early hearly))
    · exact refuses_of_takenFrame (exec_setChannel ..) hout (hreply.trans (changeChannel_low hearly hlow))
    · obtain ⟨hconfig, hcurve⟩ := applyChannel_channel k (beginFrame .s s)
      have hfield {β : Type} (f : ChannelConfig → β) := congrArg f hconfig
      refine ⟨answers_of_takenFrame (exec_setChannel ..) hout (hreply.trans (changeChannel_accepted hearly hlow)),
        hfield (·.enabled), hfield (·.sweepLimit), ?_, ?_, ?_, ?_, ?_, ?_, hcurve⟩
      · exact (hfield (·.vmax)).trans hreads.vmax
      · exact (hfield (·.filterShift)).trans hreads.filterShift
      · exact (hfield (·.primary.code)).trans hreads.primary
      · exact (hfield (·.fallback.map Source.code)).trans hreads.fallback
      · exact (hfield (·.faultLamp.val)).trans hreads.faultLamp.symm
      · exact (hfield (·.sweepTest)).trans hreads.sweepTest

end Sys2Proof.Machine
end

section
/-! SUPPORT. The calendar of R99 and R100: how dates are counted, and the date one day later or earlier. -/
namespace Sys2Proof.Machine

/-! ### Months and years -/

theorem one_le_monthLength {y m : Nat} (h1 : 1 ≤ m) (h12 : m ≤ 12) : 1 ≤ monthLength y m := by
  cases hleap : isLeap y <;> interval_cases m <;> simp [monthLength, hleap]

@[simp] theorem monthLength_december (y : Nat) : monthLength y 12 = 31 := rfl

@[simp] theorem daysBeforeMonth_january (y : Nat) : daysBeforeMonth y 1 = 0 := rfl

theorem daysBeforeMonth_succ {m : Nat} (y : Nat) (h : 1 ≤ m) :
    daysBeforeMonth y (m + 1) = daysBeforeMonth y m + monthLength y m := by
  obtain ⟨k, rfl⟩ := Nat.exists_eq_add_of_le' h
  simp [daysBeforeMonth, List.range_succ]

/-- The twelve months make up the year. -/
theorem daysBeforeMonth_thirteen (y : Nat) : daysBeforeMonth y 13 = yearLength y := by
  cases h : isLeap y <;> simp [daysBeforeMonth, List.range_succ, monthLength, yearLength, h]

theorem daysBeforeMonth_december (y : Nat) : daysBeforeMonth y 12 + 31 = yearLength y :=
  (daysBeforeMonth_succ y (by decide)).symm.trans (daysBeforeMonth_thirteen y)

theorem daysBeforeMonth_mono (y : Nat) : Monotone (daysBeforeMonth y) := by
  refine monotone_nat_of_le_succ fun m => ?_
  cases m with
  | zero => exact Nat.le_refl _
  | succ k => exact (daysBeforeMonth_succ y k.succ_pos).symm ▸ Nat.le_add_right ..

@[simp] theorem daysBeforeYear_zero : daysBeforeYear 0 = 0 := rfl

theorem daysBeforeYear_succ (y : Nat) : daysBeforeYear (y + 1) = daysBeforeYear y + yearLength y := by
  simp [daysBeforeYear, List.range_succ]

theorem daysBeforeYear_mono : Monotone daysBeforeYear :=
  monotone_nat_of_le_succ fun y => (daysBeforeYear_succ y).symm ▸ Nat.le_add_right ..

/-- R101: the days of the range of the clock. -/
theorem daysBeforeYear_range : daysBeforeYear 200 = 73049 := by decide +kernel

/-! ### Dates of the calendar -/

/-- R99, R101: the year, month and day are a date within the range, whatever the time of day. -/
structure DateTime.OnCalendar (t : DateTime) : Prop where
  year_le : t.year ≤ 199
  one_le_month : 1 ≤ t.month
  month_le : t.month ≤ 12
  one_le_day : 1 ≤ t.day
  day_le : t.day ≤ monthLength t.year t.month

/-- R99: a legal time is a date of the calendar with a legal time of day. -/
theorem DateTime.legal_iff (t : DateTime) :
    t.legal = true ↔ t.OnCalendar ∧ t.hour ≤ 23 ∧ t.minute ≤ 59 ∧ t.second ≤ 59 := by
  simp only [legal, Bool.and_eq_true, decide_eq_true_eq]
  constructor
  · rintro ⟨⟨⟨⟨⟨⟨⟨hy, hm⟩, hm'⟩, hd⟩, hd'⟩, hh⟩, hmin⟩, hs⟩
    exact ⟨⟨hy, hm, hm', hd, hd'⟩, hh, hmin, hs⟩
  · rintro ⟨⟨hy, hm, hm', hd, hd'⟩, hh, hmin, hs⟩
    exact ⟨⟨⟨⟨⟨⟨⟨hy, hm⟩, hm'⟩, hd⟩, hd'⟩, hh⟩, hmin⟩, hs⟩

namespace DateTime.OnCalendar
variable {t : DateTime} (h : t.OnCalendar)
include h

/-- R101: every date of the calendar lies within the days of the range. -/
theorem dayCount_lt : dayCount t < 73049 := by
  obtain ⟨hy, hm, hm', hd, hd'⟩ := h
  have hmonth : daysBeforeMonth t.year (t.month + 1) ≤ yearLength t.year :=
    daysBeforeMonth_thirteen t.year ▸ daysBeforeMonth_mono t.year (by omega)
  have hyear : daysBeforeYear (t.year + 1) ≤ 73049 := daysBeforeYear_range ▸ daysBeforeYear_mono (by omega)
  rw [daysBeforeMonth_succ _ hm] at hmonth
  rw [daysBeforeYear_succ] at hyear
  unfold dayCount
  omega

/-! ### The next and the previous day -/

/-- R99: the next day follows in the count of days, over the ends of months and years. -/
theorem dayCount_nextDay : dayCount (nextDay t) = dayCount t + 1 := by
  obtain ⟨hy, hm, hm', hd, hd'⟩ := h
  unfold nextDay
  split_ifs with hday hmonth
  · simp only [dayCount]
    omega
  · simp only [dayCount, daysBeforeMonth_succ _ hm]
    omega
  · have hdec : t.month = 12 := by omega
    have hlen := daysBeforeMonth_december t.year
    rw [hdec, monthLength_december] at hday hd'
    simp only [dayCount, daysBeforeYear_succ, daysBeforeMonth_january, hdec]
    omega

/-- R101: every date but the last of the range has a next day on the calendar. -/
theorem onCalendar_nextDay (hlast : ¬(t.year = 199 ∧ t.month = 12 ∧ t.day = 31)) : (nextDay t).OnCalendar := by
  obtain ⟨hy, hm, hm', hd, hd'⟩ := h
  unfold nextDay
  split_ifs with hday hmonth
  · exact ⟨hy, hm, hm', Nat.succ_pos _, hday⟩
  · exact ⟨hy, Nat.succ_pos _, hmonth, Nat.le_refl _, one_le_monthLength (Nat.succ_pos _) hmonth⟩
  · have hdec : t.month = 12 := by omega
    rw [hdec, monthLength_december] at hday hd'
    exact ⟨show t.year + 1 ≤ 199 by omega, Nat.le_refl _, by simp, Nat.le_refl _,
      one_le_monthLength (Nat.le_refl _) (by simp)⟩

/-- R110: the previous day precedes in the count of days, on the calendar too. -/
theorem previousDay_spec {d : DateTime} (hprev : previousDay t = some d) :
    d.OnCalendar ∧ dayCount d + 1 = dayCount t := by
  obtain ⟨hy, hm, hm', hd, hd'⟩ := h
  unfold previousDay at hprev
  split_ifs at hprev with hday hmonth hyear <;> cases hprev
  · refine ⟨⟨hy, hm, hm', show 1 ≤ t.day - 1 by omega, (Nat.sub_le ..).trans hd'⟩, ?_⟩
    simp only [dayCount]
    omega
  · have hlen : 1 ≤ monthLength t.year (t.month - 1) := one_le_monthLength (by omega) (by omega)
    refine ⟨⟨hy, show 1 ≤ t.month - 1 by omega, show t.month - 1 ≤ 12 by omega, hlen, Nat.le_refl _⟩, ?_⟩
    have hsucc := daysBeforeMonth_succ (m := t.month - 1) t.year (by omega)
    rw [Nat.sub_add_cancel hm] at hsucc
    simp only [dayCount]
    omega
  · refine ⟨⟨show t.year - 1 ≤ 199 by omega, by simp, by simp, by simp, Nat.le_refl _⟩, ?_⟩
    have hjan : t.month = 1 := by omega
    have hlen := daysBeforeMonth_december (t.year - 1)
    have hsucc := daysBeforeYear_succ (t.year - 1)
    rw [Nat.sub_add_cancel hyear] at hsucc
    simp only [dayCount, hjan, daysBeforeMonth_january]
    omega

/-- R110: the only date without a previous day is the epoch's. -/
theorem dayCount_of_previousDay_none (hprev : previousDay t = none) : dayCount t = 0 := by
  obtain ⟨hy, hm, hm', hd, hd'⟩ := h
  unfold previousDay at hprev
  split_ifs at hprev
  have hyear : t.year = 0 := by omega
  have hmonth : t.month = 1 := by omega
  have hday : t.day = 1 := by omega
  simp [dayCount, hyear, hmonth, hday]

end DateTime.OnCalendar

/-- R101: the last date of the range is the last of its days. -/
theorem dayCount_last_date {t : DateTime} (h : t.year = 199 ∧ t.month = 12 ∧ t.day = 31) : dayCount t = 73048 := by
  obtain ⟨hyear, hmonth, hday⟩ := h
  have hdays : daysBeforeYear 199 + yearLength 199 = 73049 := daysBeforeYear_succ 199 ▸ daysBeforeYear_range
  have hlen := daysBeforeMonth_december 199
  simp only [dayCount, hyear, hmonth, hday]
  omega

/-! ### A minute of a day -/

/-- Minute n of the day of t, at the second of t. -/
def DateTime.atMinute (t : DateTime) (n : Nat) : DateTime := { t with hour := n / 60, minute := n % 60 }

/-- R102: within a day the stamps count its minutes. -/
theorem minuteStamp_atMinute (t : DateTime) (n : Nat) : minuteStamp (t.atMinute n) = dayCount t * 1440 + n := by
  change dayCount t * 1440 + 60 * (n / 60) + n % 60 = _
  omega

theorem DateTime.OnCalendar.atMinute_legal {t : DateTime} {n : Nat} (h : t.OnCalendar) (hn : n < 1440)
    (hs : t.second ≤ 59) : (t.atMinute n).legal = true :=
  (DateTime.legal_iff _).2
    ⟨⟨h.year_le, h.one_le_month, h.month_le, h.one_le_day, h.day_le⟩, show n / 60 ≤ 23 by omega,
      show n % 60 ≤ 59 by omega, hs⟩

@[simp] theorem nextDay_second (t : DateTime) : (nextDay t).second = t.second := by
  unfold nextDay
  split_ifs <;> rfl

theorem previousDay_second {t d : DateTime} (h : previousDay t = some d) : d.second = t.second := by
  unfold previousDay at h
  split_ifs at h <;> cases h <;> rfl

end Sys2Proof.Machine
end

section
/-! CERTIFICATE. READ_TIME (R112): the local time of R110 by its stamp, held within the range of the clock. -/
namespace Sys2Proof.Machine

/-! ### Local time (R110) -/

/-- The minutes from the midnight that begins the UTC day of t to its local time under the offset q. -/
def localMinute (t : DateTime) (q : Int) : Int := 60 * (t.hour : Int) + t.minute + 15 * q

/-- R110: local time by the day it falls on: the day before, the same day, the day after, or held at an end of the range. -/
theorem localTime_eq (t : DateTime) (q : Int) :
    localTime t q =
      if localMinute t q < 0 then
        (previousDay t).elim ({ DateTime.epoch with second := t.second }, true)
          fun d => (d.atMinute (localMinute t q + 1440).toNat, false)
      else if localMinute t q < 1440 then (t.atMinute (localMinute t q).toNat, false)
      else if t.year = 199 ∧ t.month = 12 ∧ t.day = 31 then ({ DateTime.last with second := t.second }, true)
      else ((nextDay t).atMinute (localMinute t q - 1440).toNat, false) := by
  unfold localTime
  cases previousDay t <;> simp [localMinute, DateTime.atMinute, and_assoc]

/-- R110: what local time shows, and its clamp flag, of a wanted minute stamp: that stamp, at the second of UTC, unless it
lies outside the range of the clock, where the nearer end of the range is shown. -/
structure ShowsStamp (second : Nat) (want : Int) (shown : DateTime × Bool) : Prop where
  legal : shown.1.legal = true
  second_eq : shown.1.second = second
  stamp : (minuteStamp shown.1 : Int) = if want < 0 then 0 else if 105190559 < want then 105190559 else want
  clamped : shown.2 = (decide (want < 0) || decide (105190559 < want))

section ShowsStamp
variable {second : Nat} {want : Int}

/-- A minute of a date on the calendar is within the range, and shown as it is. -/
theorem DateTime.OnCalendar.showsStamp {d : DateTime} {n : Nat} (h : d.OnCalendar) (hs : d.second = second)
    (hs' : second ≤ 59) (hn : n < 1440) (hwant : want = dayCount d * 1440 + n) :
    ShowsStamp second want (d.atMinute n, false) := by
  have hlt := h.dayCount_lt
  have hlow : ¬want < 0 := by omega
  have hhigh : ¬105190559 < want := by omega
  refine ⟨h.atMinute_legal hn (hs ▸ hs'), hs, ?_, by simp [hlow, hhigh]⟩
  rw [minuteStamp_atMinute, if_neg hlow, if_neg hhigh]
  omega

theorem showsStamp_epoch (hs : second ≤ 59) (hwant : want < 0) :
    ShowsStamp second want ({ DateTime.epoch with second }, true) :=
  ⟨by simp [DateTime.legal, DateTime.epoch, monthLength, hs], rfl,
    by simp [minuteStamp, dayCount, DateTime.epoch, hwant], by simp [hwant]⟩

theorem showsStamp_last (hs : second ≤ 59) (hwant : 105190559 < want) :
    ShowsStamp second want ({ DateTime.last with second }, true) := by
  have hlow : ¬want < 0 := by omega
  refine ⟨by simp [DateTime.legal, DateTime.last, hs], rfl, ?_, by simp [hwant]⟩
  rw [if_neg hlow, if_pos hwant]
  simp [minuteStamp, dayCount_last_date, DateTime.last]

end ShowsStamp

/-- R110: local time shows the UTC stamp plus 15 minutes for each quarter hour of the offset. -/
theorem localTime_showsStamp {t : DateTime} {q : Int} (ht : t.legal = true) (hlow : -96 ≤ q) (hhigh : q ≤ 96) :
    ShowsStamp t.second (minuteStamp t + 15 * q) (localTime t q) := by
  obtain ⟨hcal, hhour, hminute, hsecond⟩ := t.legal_iff.1 ht
  have hwant : (minuteStamp t : Int) + 15 * q = dayCount t * 1440 + localMinute t q := by
    simp only [minuteStamp, localMinute]
    push_cast
    ring
  have hlo : -1440 ≤ localMinute t q := by simp only [localMinute]; omega
  have hhi : localMinute t q < 2880 := by simp only [localMinute]; omega
  rw [localTime_eq]
  split_ifs with hbefore hsame hlast
  · cases hprev : previousDay t with
    | none =>
      have hzero := hcal.dayCount_of_previousDay_none hprev
      exact showsStamp_epoch hsecond (by omega)
    | some d =>
      obtain ⟨hd, hcount⟩ := hcal.previousDay_spec hprev
      exact hd.showsStamp (previousDay_second hprev) hsecond (by omega) (by omega)
  · exact hcal.showsStamp rfl hsecond (by omega) (by omega)
  · have hcount := dayCount_last_date hlast
    exact showsStamp_last hsecond (by omega)
  · have hcount := hcal.dayCount_nextDay
    exact (hcal.onCalendar_nextDay hlast).showsStamp (nextDay_second t) hsecond (by omega) (by omega)

/-! ### What READ_TIME answers -/

theorem exec_readTime (p : Port) (s : State) :
    exec (.readTime p) s = .next (takenFrame p 0x50 (fun s => accept (timeData s.cc) s) s) := rfl

/-- Settles O29: the local fields by `localTime_showsStamp`, and the data as `timeData` lays them out. -/
theorem timeReadAnswered : Obligations.TimeReadAnswered := by
  intro p s hout hlegal hlow hhigh
  obtain ⟨hshown, hsecond, hstamp, hclamped⟩ :=
    localTime_showsStamp (q := s.cc.localOffset) hlegal (by omega) (by omega)
  refine ⟨hshown, hsecond, hstamp, ?_⟩
  have hanswer := answers_of_takenFrame (exec_readTime p s) hout rfl
  rw [beginFrame_cc] at hanswer
  simp only [← hclamped]
  exact hanswer

end Sys2Proof.Machine
end

section
/-! CERTIFICATE. READ_STATUS, CLEAR_RESET_CAUSE, READ_VEHICLE and READ_INPUTS (R177, R126, R165): what each reports is what
the part held as the frame was taken, save the port flags and the events pending, which steps 1 and 2 of R170 may change. -/
namespace Sys2Proof.Tab

theorem val_eq_ofFn {α : Type} {n : Nat} (t : Tab α n) : t.val = List.ofFn t.get := by
  obtain ⟨l, rfl⟩ := t
  exact (List.ofFn_get l).symm

end Sys2Proof.Tab

namespace Sys2Proof.Machine

/-! ### The words of READ_INPUTS (12.3) -/

/-- 12.3: bit n of an input word is input n, the byte of inputs 8 to 11 being sent first. -/
theorem inputWord_eq (t : Tab InputRecord 12) (f : InputRecord → Bool) :
    inputWord t f =
      [flagByte [f (t.get 8), f (t.get 9), f (t.get 10), f (t.get 11)],
        flagByte [f (t.get 0), f (t.get 1), f (t.get 2), f (t.get 3), f (t.get 4), f (t.get 5), f (t.get 6),
          f (t.get 7)]] := by
  rw [inputWord, Tab.val_eq_ofFn]
  rfl

/-! ### What the steps before a request leave of the data -/

section beginFrame
variable (p : Port) (s : State)

/-- READ_STATUS reports the port flags and the events pending as its own frame leaves them. -/
theorem statusData_beginFrame :
    statusData p (beginFrame p s) =
      [0x04, 0x40, 0x01, causeByte s.pwc.causes, byteOf s.pwc.state.code,
        flagByte [s.pwc.supplyLow, s.window, (beginFrame p s).portD.live, (beginFrame p s).portS.live, s.rlu.live],
        byteOf (kindsPending ((beginFrame p s).port p).events)] := by
  simp only [statusData, statusFlags, beginFrame_pwc, beginFrame_window, beginFrame_rlu]
  rfl

theorem vehicleData_beginFrame : vehicleData (beginFrame p s) = vehicleData s := by
  simp [vehicleData, vehicleSpeed]

/-- R177: the record after the clearing, which the response gives, is empty. -/
theorem clearCauseReply_beginFrame :
    clearCauseReply (beginFrame p s) =
      accept [0] ((beginFrame p s).setPwc { s.pwc with causes := { powerOn := false, pin := false, command := false } }) := by
  rw [clearCauseReply, beginFrame_pwc]
  rfl

end beginFrame

/-! ### What the four commands answer -/

theorem exec_readStatus (p : Port) (s : State) :
    exec (.readStatus p) s = .next (takenFrame p 0x01 (fun s => accept (statusData p s) s) s) := rfl

theorem exec_clearResetCause (p : Port) (s : State) :
    exec (.clearResetCause p) s = .next (takenFrame p 0x02 clearCauseReply s) := rfl

theorem exec_readVehicle (p : Port) (s : State) :
    exec (.readVehicle p) s = .next (takenFrame p 0x40 (fun s => accept (vehicleData s) s) s) := rfl

theorem exec_readInputs (p : Port) (s : State) :
    exec (.readInputs p) s = .next (takenFrame p 0x61 (fun s => accept (inputsData s.inputs) s) s) := rfl

/-- Settles O5: each request by its reply at the state that steps 1 and 2 of R170 leave. -/
theorem statusVehicleAndInputsRead : Obligations.StatusVehicleAndInputsRead := by
  intro p s hout b v gauge level word
  have hlevel : (fun l : NoticeLevel => byteOf l.code) = level := by funext l; cases l <;> rfl
  refine ⟨?status, ?cause, ?vehicle, ?inputs⟩
  case status =>
    exact answers_of_takenFrame (exec_readStatus p s) hout (congrArg (accept · b) (statusData_beginFrame p s))
  case cause => exact answers_of_takenFrame (exec_clearResetCause p s) hout (clearCauseReply_beginFrame p s)
  case vehicle =>
    rw [← hlevel]
    exact answers_of_takenFrame (exec_readVehicle p s) hout (congrArg (accept · b) (vehicleData_beginFrame p s))
  case inputs =>
    have hword (f : InputRecord → Bool) : inputWord s.inputs f = word f := inputWord_eq s.inputs f
    have hdata : inputsData b.inputs = word (·.raw) ++ word (·.debounced) ++ word (·.active) := by
      simp only [inputsData, b, beginFrame_inputs, hword]
    exact answers_of_takenFrame (exec_readInputs p s) hout (congrArg (accept · b) hdata)

end Sys2Proof.Machine
end

section
/-! SUPPORT. Frames: which blocks each operation of the model may write, put together from the operations it is made of. -/
namespace Sys2Proof.Machine

/-! ### How frames compose -/

theorem Block.same.trans {b : Block} {s t u : State} (h : b.same s t) (h' : b.same t u) : b.same s u := by
  cases b <;> simp_all [Block.same]

theorem OnlyChanges.refl (blocks : List Block) (s : State) : OnlyChanges blocks s s := by
  intro b _
  cases b <;> simp [Block.same]

section compose
variable {A B : List Block} {s t u : State}

theorem OnlyChanges.mono (h : OnlyChanges A s t) (hAB : ∀ b ∈ A, b ∈ B) : OnlyChanges B s t :=
  fun b hb => h b fun ha => hb (hAB b ha)

theorem OnlyChanges.trans (h : OnlyChanges A s t) (h' : OnlyChanges A t u) : OnlyChanges A s u :=
  fun b hb => (h b hb).trans (h' b hb)

/-- An operation of a smaller frame, after what came before it. -/
theorem OnlyChanges.after (h' : OnlyChanges B t u) (hBA : ∀ b ∈ B, b ∈ A) (h : OnlyChanges A s t) : OnlyChanges A s u :=
  h.trans (h'.mono hBA)

end compose

/-! ### What a frame says of each block -/

section blocks
variable {A : List Block} {s t : State}

theorem OnlyChanges.ge (h : OnlyChanges A s t) (hb : .gauges ∉ A) : t.ge = s.ge := h .gauges hb
theorem OnlyChanges.lamps (h : OnlyChanges A s t) (hb : .lamps ∉ A) : t.lamps = s.lamps := h .lamps hb
theorem OnlyChanges.lmd (h : OnlyChanges A s t) (hb : .matrix ∉ A) : t.lmd = s.lmd := h .matrix hb
theorem OnlyChanges.cu (h : OnlyChanges A s t) (hb : .chimes ∉ A) : t.cu = s.cu := h .chimes hb
theorem OnlyChanges.cc (h : OnlyChanges A s t) (hb : .clock ∉ A) : t.cc = s.cc := h .clock hb
theorem OnlyChanges.rlu (h : OnlyChanges A s t) (hb : .recorder ∉ A) : t.rlu = s.rlu := h .recorder hb
theorem OnlyChanges.aau (h : OnlyChanges A s t) (hb : .drivers ∉ A) : t.aau = s.aau := h .drivers hb
theorem OnlyChanges.inputs (h : OnlyChanges A s t) (hb : .inputs ∉ A) : t.inputs = s.inputs := h .inputs hb
theorem OnlyChanges.window (h : OnlyChanges A s t) (hb : .window ∉ A) : t.window = s.window := h .window hb
theorem OnlyChanges.pwc (h : OnlyChanges A s t) (hb : .power ∉ A) : t.pwc = s.pwc := h .power hb
theorem OnlyChanges.rst (h : OnlyChanges A s t) (hb : .reset ∉ A) : t.rst = s.rst := h .reset hb
theorem OnlyChanges.due (h : OnlyChanges A s t) (hb : .due ∉ A) : t.due = s.due := h .due hb
theorem OnlyChanges.pending (h : OnlyChanges A s t) (hb : .queue ∉ A) : t.pending = s.pending := h .queue hb
theorem OnlyChanges.events (h : OnlyChanges A s t) (p : Port) (hb : .events ∉ A) :
    (t.port p).events = (s.port p).events := h .events hb p
theorem OnlyChanges.live (h : OnlyChanges A s t) (p : Port) (hb : .ports ∉ A) :
    (t.port p).live = (s.port p).live := (h .ports hb p).1

end blocks

theorem forEach_frame {α : Type} {A : List Block} {act : α → State → State} (h : ∀ a s, OnlyChanges A s (act a s))
    (l : List α) (s : State) : OnlyChanges A s (forEach act l s) := by
  induction l generalizing s with
  | nil => exact .refl _ _
  | cons a l ih => exact (h a s).trans (ih _)

section single
variable (s : State)

theorem setPending_frame (l : List Instr) : OnlyChanges [.queue] s (s.setPending l) := by
  intro b hb; cases b <;> simp_all [Block.same]
theorem setDue_frame (l : List Instr) : OnlyChanges [.due] s (s.setDue l) := by
  intro b hb; cases b <;> simp_all [Block.same]
theorem setChoices_frame (n : Nat) : OnlyChanges [] s (s.setChoices n) := by
  intro b hb; cases b <;> simp_all [Block.same]
theorem setGe_frame (v : GaugeEngine) : OnlyChanges [.gauges] s (s.setGe v) := by
  intro b hb; cases b <;> simp_all [Block.same]
theorem setLmd_frame (v : LampMatrix) : OnlyChanges [.matrix] s (s.setLmd v) := by
  intro b hb; cases b <;> simp_all [Block.same]
theorem setCu_frame (v : ChimeUnit) : OnlyChanges [.chimes] s (s.setCu v) := by
  intro b hb; cases b <;> simp_all [Block.same]
theorem setCc_frame (v : Clock) : OnlyChanges [.clock] s (s.setCc v) := by
  intro b hb; cases b <;> simp_all [Block.same]
theorem setRlu_frame (v : RecorderLink) : OnlyChanges [.recorder] s (s.setRlu v) := by
  intro b hb; cases b <;> simp_all [Block.same]
theorem setAau_frame (v : Accounting) : OnlyChanges [.drivers] s (s.setAau v) := by
  intro b hb; cases b <;> simp_all [Block.same]
theorem setInputs_frame (v : Tab InputRecord 12) : OnlyChanges [.inputs] s (s.setInputs v) := by
  intro b hb; cases b <;> simp_all [Block.same]
theorem setPwc_frame (v : Power) : OnlyChanges [.power] s (s.setPwc v) := by
  intro b hb; cases b <;> simp_all [Block.same]
theorem setRst_frame (v : Reset) : OnlyChanges [.reset] s (s.setRst v) := by
  intro b hb; cases b <;> simp_all [Block.same]
theorem setWindow_frame (v : Bool) : OnlyChanges [.window] s (s.setWindow v) := by
  intro b hb; cases b <;> simp_all [Block.same]

end single

theorem inSomeOrder_frame {α : Type} {A : List Block} {act : List α → State → State}
    (h : ∀ l s, OnlyChanges A s (act l s)) (l : List α) (s : State) : OnlyChanges A s (inSomeOrder l act s) :=
  ((setChoices_frame s _).mono (by simp)).trans (h _ _)

/-! ### Ports -/

section ports
variable (p : Port) (s : State)

/-- A port unit replaced by one with the same events and the same pending response. -/
theorem setPort_frame {u : PortUnit} (he : u.events = (s.port p).events) (hr : u.response = (s.port p).response) :
    OnlyChanges [.ports] s (s.setPort p u) := by
  intro b hb
  cases b <;> simp_all [Block.same, State.setPort_port]
  all_goals
    intro q
    split
    · next h => subst h; assumption
    · rfl

theorem modifyEvents_frame (f : Tab EventRecord 26 → Tab EventRecord 26) :
    OnlyChanges [.events] s (modifyEvents p f s) := by
  intro b hb
  cases b <;> simp_all [Block.same, modifyEvents, State.setPort_port]
  all_goals
    intro q
    split
    · next h => subst h; simp
    · simp

theorem respond_frame (r : Response) : OnlyChanges [.responses] s (respond p r s) := by
  intro b hb
  cases b <;> simp_all [Block.same, respond, State.setPort_port]
  all_goals
    intro q
    split
    · next h => subst h; simp
    · simp

theorem shiftOut_frame (n : Option Nat) : OnlyChanges [.spi] s (shiftOut p n s) := by
  intro b hb; cases b <;> simp_all [Block.same]

theorem postAt_frame (k : EventKind) (n : Nat) : OnlyChanges [.events] s (postAt p k n s) :=
  modifyEvents_frame p s fun e => e.modify k.number (EventRecord.posted n)

theorem post_frame (k : EventKind) (n : Nat) : OnlyChanges [.events] s (post k n s) :=
  (postAt_frame .d s k n).trans (postAt_frame .s _ k n)

theorem postAll_frame (k : EventKind) (l : List Nat) : OnlyChanges [.events] s (postAll k l s) :=
  inSomeOrder_frame (forEach_frame fun n t => post_frame t k n) l s

theorem stopTimer_frame : OnlyChanges [.ports] s (stopTimer p s) := setPort_frame p s rfl rfl

theorem clearFresh_frame : OnlyChanges [.ports] s (clearFresh p s) := setPort_frame p s rfl rfl

theorem setPeriod_frame (n : Nat) : OnlyChanges [.ports] s (setPeriod p n s) := setPort_frame p s rfl rfl

theorem setLive_frame (b : Bool) (timer : Option Nat) :
    OnlyChanges [.ports] s (s.setPort p { s.port p with live := b, timer }) := setPort_frame p s rfl rfl

end ports

/-! ### Chimes and lamps -/

section lamps
variable (s : State)

theorem chimeRequest_frame (d : Sound) (n : Nat) (r : Origin) :
    OnlyChanges [.chimes, .events] s (chimeRequest d n r s).1 := by
  unfold chimeRequest
  split
  · split
    · exact .after (post_frame _ _ _) (by decide) <| .after (setCu_frame _ _) (by decide) (.refl _ _)
    · exact .after (setCu_frame _ _) (by decide) (.refl _ _)
  · exact .refl _ _

theorem judgeTone_frame : OnlyChanges [.chimes] s (judgeTone s) := setCu_frame s _

theorem lampUpdate_frame (c : Fin 48 → Lamp → Lamp) : OnlyChanges [.lamps, .chimes, .events] s (lampUpdate c s) := by
  intro b hb; cases b <;> simp_all [Block.same, State.spi]

theorem formGaugeAny_frame (l : List (Fin 48)) : OnlyChanges [.lamps, .chimes, .events] s (formGaugeAny l s) := by
  unfold formGaugeAny
  split
  · exact .refl _ _
  · exact lampUpdate_frame s _

end lamps

/-! ### Sources and the window -/

section gauges
variable (s : State)

theorem closeWindow_frame : OnlyChanges [.gauges, .window] s (closeWindow s) := by
  unfold closeWindow
  split
  · exact .after (setGe_frame _ _) (by decide) <| .after (setWindow_frame _ _) (by decide) (.refl _ _)
  · exact .refl _ _

theorem handSpeed_frame (old : Option Nat) : OnlyChanges [.gauges, .window, .chimes] s (handSpeed old s) := by
  unfold handSpeed
  split
  · exact .refl _ _
  · split
    · refine .after (judgeTone_frame _) (by decide) ?_
      split
      · exact (closeWindow_frame s).mono (by decide)
      · exact .refl _ _
    · exact (judgeTone_frame s).mono (by decide)

theorem gaugeSelect_frame (c : Fin 8 → Bool) (f : Channel → Channel) :
    OnlyChanges [.gauges, .window, .chimes, .events] s (gaugeSelect c f s) :=
  .after (handSpeed_frame _ _) (by decide) <| .after (postAll_frame _ _ _) (by decide) <|
    .after (postAll_frame _ _ _) (by decide) <| .after (setGe_frame _ _) (by decide) (.refl _ _)

theorem gaugeChange_frame (c : Fin 8 → Bool) (f : Channel → Channel) :
    OnlyChanges [.gauges, .window, .lamps, .chimes, .events] s (gaugeChange c f s) :=
  .after (formGaugeAny_frame _ _) (by decide) <| (gaugeSelect_frame s c f).mono (by decide)

theorem withGaugeUpdate_frame {l : List (Fin 48)} {other : State → State}
    (h : ∀ s, OnlyChanges [.lamps, .chimes, .events] s (other s)) :
    OnlyChanges [.lamps, .chimes, .events] s (withGaugeUpdate l other s) := by
  have hchoice := (setChoices_frame s (s.choices + 1)).mono (B := [.lamps, .chimes, .events]) (by decide)
  unfold withGaugeUpdate
  split
  · split
    · exact (hchoice.trans (lampUpdate_frame _ _)).trans (h _)
    · exact (hchoice.trans (h _)).trans (lampUpdate_frame _ _)
  · exact h s

theorem silenceSource_frame {a : Source} {other : State → State}
    (h : ∀ s, OnlyChanges [.lamps, .chimes, .events] s (other s)) :
    OnlyChanges [.gauges, .window, .lamps, .chimes, .events] s (silenceSource a other s) :=
  .after (withGaugeUpdate_frame _ h) (by decide) <| (gaugeSelect_frame s _ _).mono (by decide)

theorem silencePort_frame (p : Port) :
    OnlyChanges [.gauges, .window, .lamps, .chimes, .events, .ports] s (silencePort p s) := by
  refine .after (silenceSource_frame _ fun t => lampUpdate_frame t _) (by decide) ?_
  cases p with
  | d => exact .after (post_frame _ _ _) (by decide) <| .after (setLive_frame .d _ _ _) (by decide) (.refl _ _)
  | s =>
    exact .after (closeWindow_frame _) (by decide) <| .after (post_frame _ _ _) (by decide) <|
      .after (setLive_frame .s _ _ _) (by decide) (.refl _ _)

end gauges

/-! ### Taken frames -/

section beginFrame
variable (p : Port) (s : State)

theorem restartTimer_frame : OnlyChanges [.ports] s (restartTimer p s) := by
  unfold restartTimer
  split
  · exact .refl _ _
  · exact setPort_frame p s rfl rfl

theorem returnSource_frame : OnlyChanges [.lamps, .chimes, .events, .ports] s (returnSource p s) := by
  unfold returnSource
  split
  · exact .refl _ _
  · exact .after (lampUpdate_frame _ _) (by decide) <| .after (post_frame _ _ _) (by decide) <|
      .after (setLive_frame p _ _ _) (by decide) (.refl _ _)

theorem beginFrame_frame : OnlyChanges [.lamps, .chimes, .events, .ports, .spi] s (beginFrame p s) :=
  .after (restartTimer_frame p _) (by decide) <| .after (returnSource_frame p _) (by decide) <|
    .after (clearFresh_frame p _) (by decide) <| .after (shiftOut_frame p _ _) (by decide) (.refl _ _)

end beginFrame

/-! ### The ignition cycle -/

section cycle
variable (s : State)

theorem txStart_frame (k : TxKind) : OnlyChanges [.recorder] s (txStart k s) := setRlu_frame s _

theorem txDue_frame (k : TxKind) : OnlyChanges [.recorder] s (txDue k s) := by
  unfold txDue
  split <;> exact setRlu_frame s _

theorem quiesce_frame : OnlyChanges [.ports, .recorder] s (quiesce s) :=
  .after (txDue_frame _ _) (by decide) <| .after (setRlu_frame _ _) (by decide) <|
    .after (stopTimer_frame .s _) (by decide) <| .after (stopTimer_frame .d _) (by decide) (.refl _ _)

theorem restartIfLive_frame (p : Port) : OnlyChanges [.ports] s (restartIfLive p s) := by
  unfold restartIfLive
  split
  · exact setPort_frame p s rfl rfl
  · exact .refl _ _

theorem awaken_frame : OnlyChanges [.ports, .recorder] s (awaken s) :=
  .after (txDue_frame _ _) (by decide) <| .after (setRlu_frame _ _) (by decide) <|
    .after (restartIfLive_frame _ .s) (by decide) <| .after (restartIfLive_frame _ .d) (by decide) (.refl _ _)

theorem enterPower_frame (w : PowerState) : OnlyChanges [.power, .events] s (enterPower w s) :=
  .after (post_frame _ _ _) (by decide) <| .after (setPwc_frame _ _) (by decide) (.refl _ _)

theorem mapChannels_frame (f : Channel → Channel) : OnlyChanges [.gauges] s (mapChannels f s) := setGe_frame s _

theorem runEntry_frame : OnlyChanges [.power, .lamps, .chimes, .events] s (runEntry s) :=
  .after (judgeTone_frame _) (by decide) <| .after (formGaugeAny_frame _ _) (by decide) <|
    .after (enterPower_frame _ _) (by decide) <| .after (setPwc_frame _ _) (by decide) (.refl _ _)

theorem parkingDone_frame : OnlyChanges [.power, .events, .ports, .recorder] s (parkingDone s) :=
  .after (quiesce_frame _) (by decide) <| (enterPower_frame s _).mono (by decide)

theorem powerConditions_frame :
    OnlyChanges [.power, .lamps, .chimes, .events, .ports, .recorder] s (powerConditions s) := by
  unfold powerConditions
  split
  · split
    · exact (runEntry_frame s).mono (by decide)
    · exact .refl _ _
  · split
    · exact (parkingDone_frame s).mono (by decide)
    · exact .refl _ _
  all_goals exact .refl _ _

theorem holdInternal_frame : OnlyChanges [.matrix, .events] s (holdInternal s) :=
  .after (post_frame _ _ _) (by decide) <| .after (setLmd_frame _ _) (by decide) (.refl _ _)

theorem dropHold_frame : OnlyChanges [.matrix, .events] s (dropHold s) := by
  unfold dropHold
  dsimp only
  split
  · exact .after (post_frame _ _ _) (by decide) <| .after (setLmd_frame _ _) (by decide) (.refl _ _)
  · exact (setLmd_frame s _).mono (by decide)

theorem enterRunCheck_frame : OnlyChanges [.power, .events, .gauges, .matrix, .ports, .recorder] s (enterRunCheck s) := by
  have hup : OnlyChanges [.power, .events, .gauges, .matrix, .ports, .recorder] s
      (holdInternal (mapChannels Channel.onRunCheck
        (enterPower .runCheck (s.setPwc { s.pwc with selfCheck := .running Config.selfCheckPeriod })))) :=
    .after (holdInternal_frame _) (by decide) <| .after (mapChannels_frame _ _) (by decide) <|
      .after (enterPower_frame _ _) (by decide) <| .after (setPwc_frame _ _) (by decide) (.refl _ _)
  unfold enterRunCheck
  split
  · exact .after (awaken_frame _) (by decide) hup
  · exact hup

theorem leaveCycle_frame :
    OnlyChanges [.power, .gauges, .events, .matrix, .chimes, .lamps, .ports, .recorder] s (leaveCycle s) := by
  have hoff (w : PowerState) : OnlyChanges [.power, .gauges, .events, .matrix, .chimes, .lamps, .ports, .recorder] s
      (silenceChimes (dropHold (darken (enterPower w
        (mapChannels Channel.onIgnitionOff (s.setPwc { s.pwc with selfCheck := .stopped })))))) :=
    .after (setCu_frame _ _) (by decide) <| .after (dropHold_frame _) (by decide) <|
      .after (setLmd_frame _ _) (by decide) <| .after (enterPower_frame _ _) (by decide) <|
      .after (mapChannels_frame _ _) (by decide) <| .after (setPwc_frame _ _) (by decide) (.refl _ _)
  unfold leaveCycle
  dsimp only
  split
  · refine .after (quiesce_frame _) (by decide) <| .after (judgeTone_frame _) (by decide) ?_
    split
    · exact .after (formGaugeAny_frame _ _) (by decide) (hoff _)
    · exact hoff _
  · refine .after (judgeTone_frame _) (by decide) ?_
    split
    · exact .after (formGaugeAny_frame _ _) (by decide) (hoff _)
    · exact hoff _

theorem ignitionOn_frame : OnlyChanges [.power, .events, .gauges, .matrix, .ports, .recorder] s (ignitionOn s) := by
  have hset := (setPwc_frame s { s.pwc with ignition := true }).mono
    (B := [.power, .events, .gauges, .matrix, .ports, .recorder]) (by decide)
  unfold ignitionOn
  split
  · exact hset.trans (enterRunCheck_frame _)
  · exact hset.trans (enterRunCheck_frame _)
  all_goals exact hset

theorem ignitionOff_frame :
    OnlyChanges [.power, .gauges, .events, .matrix, .chimes, .lamps, .ports, .recorder] s (ignitionOff s) := by
  have hset := (setPwc_frame s { s.pwc with ignition := false }).mono
    (B := [.power, .gauges, .events, .matrix, .chimes, .lamps, .ports, .recorder]) (by decide)
  unfold ignitionOff
  split
  · exact hset.trans (leaveCycle_frame _)
  · exact hset.trans (leaveCycle_frame _)
  all_goals exact hset

theorem postSignalChange_frame (i : Fin 8) (before after : Channel) :
    OnlyChanges [.events] s (postSignalChange i before after s) := by
  unfold postSignalChange
  split
  · exact post_frame s _ _
  · split
    · exact post_frame s _ _
    · exact .refl _ _

theorem applyChannel_frame (k : ChannelConfig) :
    OnlyChanges [.gauges, .window, .lamps, .chimes, .events, .power, .ports, .recorder] s (applyChannel k s) :=
  .after (powerConditions_frame _) (by decide) <| .after (formGaugeAny_frame _ _) (by decide) <|
    .after (handSpeed_frame _ _) (by decide) <| .after (postSignalChange_frame _ _ _ _) (by decide) <|
    .after (setGe_frame _ _) (by decide) (.refl _ _)

theorem moveAll_frame : OnlyChanges [.gauges, .events] s (moveAll s) :=
  .after (postAll_frame _ _ _) (by decide) <| .after (mapChannels_frame _ _) (by decide) (.refl _ _)

theorem motionInterval_frame :
    OnlyChanges [.gauges, .power, .lamps, .chimes, .events, .ports, .recorder] s (motionInterval s) := by
  have hset := (setGe_frame s { s.ge with motionTime := 0 }).mono
    (B := [.gauges, .power, .lamps, .chimes, .events, .ports, .recorder]) (by decide)
  unfold motionInterval
  dsimp only
  split
  · exact hset
  · exact .after (powerConditions_frame _) (by decide) <| .after (moveAll_frame _) (by decide) hset

theorem selfCheckExpires_frame :
    OnlyChanges [.power, .lamps, .chimes, .events, .ports, .recorder] s (selfCheckExpires s) :=
  .after (powerConditions_frame _) (by decide) <| .after (setPwc_frame _ _) (by decide) (.refl _ _)

theorem supplyFalls_frame : OnlyChanges [.power, .gauges, .chimes, .events] s (supplyFalls s) := by
  unfold supplyFalls
  split
  · exact .refl _ _
  · exact .after (post_frame _ _ _) (by decide) <| .after (setCu_frame _ _) (by decide) <|
      .after (mapChannels_frame _ _) (by decide) <| .after (setPwc_frame _ _) (by decide) (.refl _ _)

theorem supplyReturns_frame : OnlyChanges [.power, .chimes, .events] s (supplyReturns s) := by
  unfold supplyReturns
  split
  · exact .after (post_frame _ _ _) (by decide) <| .after (setCu_frame _ _) (by decide) <|
      .after (setPwc_frame _ _) (by decide) (.refl _ _)
  · exact .refl _ _

end cycle

/-! ### Inputs -/

section inputs
variable (s : State)

theorem handActive_frame (r : InputRecord) :
    OnlyChanges [.power, .gauges, .events, .matrix, .chimes, .lamps, .ports, .recorder] s (handActive r s) := by
  unfold handActive
  split
  · split
    · exact (ignitionOn_frame s).mono (by decide)
    · exact ignitionOff_frame s
  · exact (lampUpdate_frame s _).mono (by decide)
  all_goals exact .refl _ _

/-- The input record that an edge leaves. -/
def InputRecord.edged (r : InputRecord) : InputRecord := ({ r with debounced := r.raw, wait := 0 } : InputRecord).formActive

/-- R158, R162: an edge up to its posting; a changed active state is handed after it. -/
def edgeTold (i : Fin 12) (s : State) : State :=
  let t := s.setInputs (s.inputs.set i (s.inputs.get i).edged)
  if (s.inputs.get i).edged.postsEdge (s.inputs.get i).edged.debounced then post .discreteEdge i.val t else t

theorem edge_eq (i : Fin 12) : edge i s =
    if (s.inputs.get i).edged.active = (s.inputs.get i).active then edgeTold i s
    else handActive (s.inputs.get i).edged (edgeTold i s) := rfl

theorem edgeTold_frame (i : Fin 12) : OnlyChanges [.inputs, .events] s (edgeTold i s) := by
  unfold edgeTold
  dsimp only
  split
  · exact .after (post_frame _ _ _) (by decide) <| .after (setInputs_frame _ _) (by decide) (.refl _ _)
  · exact (setInputs_frame s _).mono (by decide)

theorem edge_frame (i : Fin 12) :
    OnlyChanges [.inputs, .power, .gauges, .events, .matrix, .chimes, .lamps, .ports, .recorder] s (edge i s) := by
  rw [edge_eq]
  split
  · exact (edgeTold_frame s i).mono (by decide)
  · exact .after (handActive_frame _ _) (by decide) <| (edgeTold_frame s i).mono (by decide)

/-- R157: a sample stored and counted in every input, before the edges it completes. -/
def storeSample (mv : Tab Int 12) (s : State) : State :=
  (s.setPins { s.pins with inputs := mv }).setInputs (s.inputs.mapIdx fun i r => r.sample (mv.get i))

theorem sampleInputs_eq (mv : Tab Int 12) : sampleInputs mv s =
    inSomeOrder ((storeSample mv s).inputs.indices InputRecord.waited) (forEach edge) (storeSample mv s) := rfl

theorem storeSample_frame (mv : Tab Int 12) : OnlyChanges [.inputs, .leads] s (storeSample mv s) := by
  refine .after (setInputs_frame _ _) (by decide) ?_
  intro b hb
  cases b <;> simp_all [Block.same, State.spi]

theorem sampleInputs_frame (mv : Tab Int 12) :
    OnlyChanges [.inputs, .leads, .power, .gauges, .events, .matrix, .chimes, .lamps, .ports, .recorder] s
      (sampleInputs mv s) :=
  .after (inSomeOrder_frame (forEach_frame fun i t => edge_frame t i) _ _) (by decide) <|
    (storeSample_frame s mv).mono (by decide)

theorem applyInput_frame (k : InputConfig) : OnlyChanges [.inputs, .lamps, .chimes, .events] s (applyInput k s) := by
  unfold applyInput
  dsimp only
  split
  · exact (setInputs_frame s _).mono (by decide)
  · exact .after (lampUpdate_frame _ _) (by decide) <| .after (setInputs_frame _ _) (by decide) (.refl _ _)

/-- R189: a measurement stored with the wait it leaves, before the supply change it completes. -/
def storeBattery (mv wait : Nat) (s : State) : State :=
  (s.setPins { s.pins with battery := mv }).setPwc { s.pwc with supplyWait := wait }

/-- R189: the wait that a measurement leaves. -/
def waitAfter (mv : Nat) (s : State) : Nat := if counts s.pwc.supplyLow mv then s.pwc.supplyWait + 1 else 0

theorem measure_eq (mv : Nat) : measure mv s =
    if Config.supplyWaitPeriod ≤ waitAfter mv s then
      (if s.pwc.supplyLow then supplyReturns (storeBattery mv (waitAfter mv s) s)
       else supplyFalls (storeBattery mv (waitAfter mv s) s))
    else storeBattery mv (waitAfter mv s) s := rfl

theorem storeBattery_frame (mv wait : Nat) : OnlyChanges [.leads, .power] s (storeBattery mv wait s) := by
  refine .after (setPwc_frame _ _) (by decide) ?_
  intro b hb
  cases b <;> simp_all [Block.same, State.spi]

theorem measure_frame (mv : Nat) : OnlyChanges [.leads, .power, .gauges, .chimes, .events] s (measure mv s) := by
  rw [measure_eq]
  split
  · split
    · exact .after (supplyReturns_frame _) (by decide) <| (storeBattery_frame s _ _).mono (by decide)
    · exact .after (supplyFalls_frame _) (by decide) <| (storeBattery_frame s _ _).mono (by decide)
  · exact (storeBattery_frame s _ _).mono (by decide)

end inputs

/-! ### Lamp matrix -/

section matrix
variable (s : State)

theorem modifyHold_frame (f : Hold → Hold) : OnlyChanges [.matrix] s (modifyHold f s) := setLmd_frame s _

theorem grantPortS_frame : OnlyChanges [.matrix, .events] s (grantPortS s) :=
  .after (post_frame _ _ _) (by decide) <| .after (modifyHold_frame _ _) (by decide) (.refl _ _)

theorem requestHold_frame : OnlyChanges [.matrix, .events] s (requestHold s) := by
  unfold requestHold
  dsimp only
  split
  · exact .refl _ _
  · split
    · exact grantPortS_frame s
    · exact (modifyHold_frame s _).mono (by decide)

theorem releaseHold_frame : OnlyChanges [.matrix] s (releaseHold s) := by
  unfold releaseHold
  split
  · exact modifyHold_frame s _
  · split
    · exact modifyHold_frame s _
    · exact .refl _ _

theorem grantPending_frame : OnlyChanges [.matrix, .events] s (grantPending s) := by
  unfold grantPending
  split
  · exact grantPortS_frame s
  · exact .refl _ _

theorem endUnheld_frame : OnlyChanges [.matrix, .events] s (endUnheld s) := by
  unfold endUnheld
  dsimp only
  split
  · exact .after (post_frame _ _ _) (by decide) <| .after (modifyHold_frame _ _) (by decide) (.refl _ _)
  · exact .refl _ _

theorem scanFrameStart_frame : OnlyChanges [.matrix, .events] s (scanFrameStart s) :=
  .after (setLmd_frame _ _) (by decide) <| .after (setLmd_frame _ _) (by decide) <|
    .after (endUnheld_frame _) (by decide) <| .after (grantPending_frame _) (by decide) <|
    .after (setLmd_frame _ _) (by decide) (.refl _ _)

theorem readLamp_frame (draws : Tab Bool 8) (n : Fin 48) :
    OnlyChanges [.matrix, .lamps, .chimes, .events] s (readLamp draws n s) := by
  unfold readLamp
  dsimp only
  split
  · exact (setLmd_frame s _).mono (by decide)
  · exact .after (lampUpdate_frame _ _) (by decide) <| .after (post_frame _ _ _) (by decide) <|
      .after (setLmd_frame _ _) (by decide) (.refl _ _)

theorem sensed_frame (row : Nat) (draws : Tab Bool 8) : OnlyChanges [.leads] s (s.setPins (s.pins.sensed row draws)) := by
  intro b hb
  cases b <;> simp_all [Block.same, Pins.sensed, State.spi]

theorem rowSlotEnd_frame (draws : Tab Bool 8) :
    OnlyChanges [.matrix, .leads, .lamps, .chimes, .events] s (rowSlotEnd draws s) := by
  have hread := fun t n => readLamp_frame t draws n
  unfold rowSlotEnd
  split
  · exact .after (sensed_frame _ _ _) (by decide) <| .after (setLmd_frame _ _) (by decide) <|
      .after (inSomeOrder_frame (forEach_frame fun n t => hread t n) _ _) (by decide) <|
      (forEach_frame (fun n t => hread t n) _ s).mono (by decide)
  · exact .refl _ _

end matrix

/-! ### Recorder link -/

section recorder
variable (s : State)

theorem returnLink_frame : OnlyChanges [.recorder, .lamps, .chimes, .events] s (returnLink s) := by
  unfold returnLink
  split
  · exact .refl _ _
  · exact .after (lampUpdate_frame _ _) (by decide) <| .after (post_frame _ _ _) (by decide) <|
      .after (setRlu_frame _ _) (by decide) (.refl _ _)

/-- R115, R117: a valid frame before its contents: the link is LIVE, and its supervision restarts. -/
def linkTaken (s : State) : State := restartLink (returnLink (setAssembly .hunt s))

theorem validFrame_eq (contents : State → State) : validFrame contents s = contents (linkTaken s) := rfl

theorem linkTaken_frame : OnlyChanges [.recorder, .lamps, .chimes, .events] s (linkTaken s) :=
  .after (setRlu_frame _ _) (by decide) <| .after (returnLink_frame _) (by decide) <|
    .after (setRlu_frame _ _) (by decide) (.refl _ _)

theorem loseLink_frame :
    OnlyChanges [.recorder, .gauges, .window, .lamps, .chimes, .events, .drivers] s (loseLink s) :=
  .after (setAau_frame _ _) (by decide) <| .after (silenceSource_frame _ fun t => lampUpdate_frame t _) (by decide) <|
    .after (post_frame _ _ _) (by decide) <| .after (setRlu_frame _ _) (by decide) (.refl _ _)

theorem cadence_frame : OnlyChanges [.recorder] s (cadence s) := (setRlu_frame s _).trans (txDue_frame _ _)

theorem transmitted_frame : OnlyChanges [.recorder] s (transmitted s) := by
  unfold transmitted
  split
  · exact setRlu_frame s _
  · exact (setRlu_frame s _).trans (txStart_frame _ _)

end recorder

/-! ### Drivers and clock -/

section drivers
variable (s : State)

theorem setRecord_frame (slot : Slot) (r : DriverRecord) : OnlyChanges [.drivers] s (setRecord slot r s) := by
  cases slot <;> exact setAau_frame s _

theorem modifyRecord_frame (slot : Slot) (f : DriverRecord → DriverRecord) :
    OnlyChanges [.drivers] s (modifyRecord slot f s) := setRecord_frame s slot _

theorem announceWarn_frame (slot : Slot) (w : WarnState) : OnlyChanges [.chimes, .events] s (announceWarn slot w s) := by
  cases w
  · exact .refl _ _
  all_goals exact .after (chimeRequest_frame _ _ _ _) (by decide) <| (post_frame s _ _).mono (by decide)

theorem formWarn_frame (slot : Slot) : OnlyChanges [.drivers, .lamps, .chimes, .events] s (formWarn slot s) := by
  unfold formWarn
  split
  · exact .after (lampUpdate_frame _ _) (by decide) <| .after (announceWarn_frame _ _ _) (by decide) <|
      .after (modifyRecord_frame _ _ _) (by decide) (.refl _ _)
  · exact .refl _ _

theorem creditSlot_frame (stamp : Nat) (c : Slot × Activity) :
    OnlyChanges [.drivers, .lamps, .chimes, .events] s (creditSlot stamp c s) := by
  have htold (b : Bool) (r : DriverRecord) : OnlyChanges [.drivers, .lamps, .chimes, .events] s
      (if b then post .breakQualified (slotNumber c.1) (setRecord c.1 r s) else setRecord c.1 r s) := by
    split
    · exact .after (post_frame _ _ _) (by decide) <| .after (setRecord_frame _ _ _) (by decide) (.refl _ _)
    · exact (setRecord_frame _ _ _).mono (by decide)
  refine .after (modifyRecord_frame _ _ _) (by decide) ?_
  split
  · exact htold _ _
  · exact .after (formWarn_frame _ _) (by decide) (htold _ _)

theorem creditMinute_frame (stamp : Nat) :
    OnlyChanges [.drivers, .lamps, .chimes, .events] s (creditMinute stamp s) := by
  refine .after (inSomeOrder_frame (forEach_frame fun c t => creditSlot_frame t stamp c) _ _) (by decide) ?_
  split
  · exact (post_frame s _ _).mono (by decide)
  · exact .refl _ _

theorem slotActivity_frame (c : Slot × ActivityArg) :
    OnlyChanges [.drivers, .lamps, .chimes, .events] s (slotActivity c s) := by
  have hset := fun f => (modifyRecord_frame s c.1 f).mono (B := [.drivers, .lamps, .chimes, .events]) (by decide)
  unfold slotActivity
  dsimp only
  split
  · split
    · split
      · split
        · exact .after (post_frame _ _ _) (by decide) (hset _)
        · exact hset _
      · exact .after (lampUpdate_frame _ _) (by decide) <| .after (post_frame _ _ _) (by decide) (hset _)
    · exact .after (lampUpdate_frame _ _) (by decide) <| .after (post_frame _ _ _) (by decide) (hset _)
  · exact .refl _ _

theorem adopt_frame (slot : Slot) (arg : SummaryArg) (k : SummaryCase) :
    OnlyChanges [.drivers, .lamps, .chimes, .events] s (adopt slot arg k s) := by
  have hpost (b : Bool) (kind : EventKind) (n : Nat) (t : State) :
      OnlyChanges [.drivers, .lamps, .chimes, .events] t (if b then post kind n t else t) := by
    split
    · exact (post_frame _ _ _).mono (by decide)
    · exact .refl _ _
  refine .after (modifyRecord_frame _ _ _) (by decide) <| .after (post_frame _ _ _) (by decide) <|
    .after (formWarn_frame _ _) (by decide) ?_
  have hplaced (r : DriverRecord) (b : Bool) := OnlyChanges.after (setRecord_frame _ slot r) (by decide)
    (hpost b .recorderInconsistent (slotNumber slot) s)
  have htaken := hplaced ((((s.aau.record slot).takeSummary arg).confirm (minuteStamp s.cc.now)).settleMinute k)
    (decide (((s.aau.record slot).takeSummary arg).daily < ((s.aau.record slot).takeSummary arg).continuous))
  simp only [decide_eq_true_eq] at htaken
  split
  · exact htaken.trans (hpost _ _ _ _)
  · exact htaken

theorem slotSummary_frame (c : Slot × SummaryArg) :
    OnlyChanges [.drivers, .lamps, .chimes, .events] s (slotSummary c s) := by
  unfold slotSummary
  dsimp only
  split
  · split
    · exact (post_frame s _ _).mono (by decide)
    · exact adopt_frame s _ _ _
  · exact .refl _ _

theorem rewarn_frame (slot : Slot) : OnlyChanges [.drivers, .lamps, .chimes, .events] s (rewarn slot s) := by
  unfold rewarn
  split
  · exact .after (modifyRecord_frame _ _ _) (by decide) (formWarn_frame s slot)
  · exact .refl _ _

theorem setLead_frame (n : Nat) : OnlyChanges [.drivers, .lamps, .chimes, .events] s (setLead n s) :=
  .after (inSomeOrder_frame (forEach_frame fun slot t => rewarn_frame t slot) _ _) (by decide) <|
    .after (setAau_frame _ _) (by decide) (.refl _ _)

theorem loadClock_frame (t : DateTime) (b : Bool) : OnlyChanges [.clock, .drivers, .events] s (loadClock t b s) := by
  unfold loadClock
  dsimp only
  split
  · exact .after (post_frame _ _ _) (by decide) <| .after (setAau_frame _ _) (by decide) <|
      .after (setCc_frame _ _) (by decide) (.refl _ _)
  · exact .after (setAau_frame _ _) (by decide) <| .after (setCc_frame _ _) (by decide) (.refl _ _)

theorem tickAt_frame (p : Port) (t : Ticks) : OnlyChanges [.events] s (tickAt p t s) := by
  unfold tickAt
  split
  · exact postAt_frame p s _ _
  · exact .refl _ _

theorem handTicks_frame (t : Ticks) : OnlyChanges [.drivers, .lamps, .chimes, .events] s (handTicks t s) := by
  unfold handTicks
  dsimp only
  split
  · exact .after (creditMinute_frame _ _) (by decide) <| .after (setAau_frame _ _) (by decide) (.refl _ _)
  · exact (setAau_frame s _).mono (by decide)

end drivers

end Sys2Proof.Machine
end

section
/-! SUPPORT. What a step can do, said once: every step is a run of single operations of the rules, each with the blocks it may
write and with what its checks have made sure of. A property of the state that each operation keeps is kept by every step. -/
namespace Sys2Proof.Machine

/-! ### The operations -/

/-- What a command does to a part that is out of reset, one operation of the rules at a time. -/
inductive Act : List Block → State → State → Prop
  | choose {s} (n : Nat) : Act [] s (s.setChoices n)
  -- ports and events
  | begin {s} (p : Port) : Act [.lamps, .chimes, .events, .ports, .spi] s (beginFrame p s)
  | shiftOut {s} (p : Port) (n : Option Nat) : Act [.spi] s (shiftOut p n s)
  | respond {s} (p : Port) (r : Response) : Act [.responses] s (respond p r s)
  | clearCauses {s} : Act [.power] s (s.setPwc { s.pwc with causes := .empty })
  | post {s} (k : EventKind) {n : Nat} (hn : n ≤ 255) : Act [.events] s (post k n s)
  | postAt {s} (p : Port) (k : EventKind) {n : Nat} (hn : n ≤ 255) : Act [.events] s (postAt p k n s)
  | removeEvent {s} (p : Port) (k : Fin 26) :
    Act [.events] s (modifyEvents p (fun e => e.modify k EventRecord.removed) s)
  | setLevel {s} {p : Port} {k : Fin 26} {n : Nat} (hn : n ≤ 3) (hfree : levelFixed p k = false) :
    Act [.events] s (modifyEvents p (fun e => e.modify k (EventRecord.withLevel n)) s)
  | openWindow {s} (h : tooFast s = false) : Act [.window] s (s.setWindow true)
  | closeWindow {s} : Act [.gauges, .window] s (closeWindow s)
  | setPeriods {s} {d e : Nat} (hd : 5 ≤ d ∧ d ≤ 200) (he : 5 ≤ e ∧ e ≤ 100) :
    Act [.ports] s (setPeriod .s e (setPeriod .d d s))
  | silencePort {s} (p : Port) : Act [.gauges, .window, .lamps, .chimes, .events, .ports] s (silencePort p s)
  -- gauges
  | deliver {s} {c : Fin 8 → Bool} {a : Source} {v : Nat} (hlive : sourceLive s a = true) (hv : v ≤ 65535)
      (hc : ∀ i, c i = true → (s.ge.channels.get i).enabled = true ∧ (s.ge.channels.get i).lists a = true) :
    Act [.gauges, .window, .lamps, .chimes, .events] s (deliver c a v s)
  | applyChannel {s} {args : ChannelArgs} {k : ChannelConfig} (hw : s.window = true) (hk : channelConfigOf args = some k)
      (hrest : k.enabled = true → (s.ge.channels.get k.channel).state = .unhomed ∨
        (s.ge.channels.get k.channel).state = .parked)
      (hcurve : ∀ q ∈ (s.ge.channels.get k.channel).curve, q.a ≤ k.sweepLimit) :
    Act [.gauges, .window, .lamps, .chimes, .events, .power, .ports, .recorder] s (applyChannel k s)
  | loadCurve {s} {i : Fin 8} {curve : List Point} (h : curvePasses (s.ge.channels.get i).sweepLimit curve = true) :
    Act [.gauges] s (modifyChannel i (fun c => { c with curve, pendingCurve := none }) s)
  | dropPending {s} (i : Fin 8) : Act [.gauges] s (modifyChannel i Channel.dropPending s)
  | keepPending {s} (i : Fin 8) (q : PendingCurve) (hw : s.window = true) :
    Act [.gauges] s (modifyChannel i (fun c => { c with pendingCurve := some q }) s)
  | filterAll {s} : Act [.gauges] s (filterAll s)
  | motionInterval {s} : Act [.gauges, .power, .lamps, .chimes, .events, .ports, .recorder] s (motionInterval s)
  -- lamps
  | writeLamps {s} {p : Port} {pairs : List (Fin 48 × Option LampState)} (hlive : (s.port p).live = true)
      (hmay : ∀ q ∈ pairs, mayWrite p s q.1 = true) :
    Act [.lamps, .chimes, .events] s (lampUpdate (storePairs p pairs) s)
  | configureLamp {s} {k : LampConfig} (hk : fixedClass k.lamp = none ∨ fixedClass k.lamp = some k.cls) :
    Act [.lamps, .chimes, .events] s (configureLamp k s)
  | handRecorder {s} {n : Fin 48} (v : LampState) (hn : n = 3 ∨ n = 4) (hlive : s.rlu.live = true) :
    Act [.lamps, .chimes, .events] s (handRecorder n v s)
  -- matrix
  | setDimming {s} {n : Nat} (hn : n ≤ 15) : Act [.matrix] s (s.setLmd { s.lmd with dimming := n })
  | setFloor {s} {n : Nat} (hn : 4 ≤ n ∧ n ≤ 16) : Act [.matrix] s (s.setLmd { s.lmd with floorRequested := n })
  | requestHold {s} (hc : inCycle s = true) : Act [.matrix, .events] s (requestHold s)
  | releaseHold {s} : Act [.matrix] s (releaseHold s)
  | dropInternal {s} : Act [.matrix] s (modifyHold Hold.dropInternal s)
  | dropPortS {s} : Act [.matrix] s (modifyHold Hold.dropPortS s)
  | scanFrameStart {s} : Act [.matrix, .events] s (scanFrameStart s)
  | rowSlotEnd {s} (draws : Tab Bool 8) : Act [.matrix, .leads, .lamps, .chimes, .events] s (rowSlotEnd draws s)
  -- chimes
  | chime {s} (d : Sound) {n : Nat} (r : Origin) (hn : n ≤ 3) : Act [.chimes, .events] s (chimeRequest d n r s).1
  | cancelChimes {s} (r : Origin) : Act [.chimes] s (s.setCu (s.cu.cancel r))
  | endPlay {s} (h : s.cu.playing.isSome = true) : Act [.chimes] s (s.setCu s.cu.endPlay)
  | endGap {s} (h : s.cu.gap.isSome = true) : Act [.chimes] s (s.setCu s.cu.endGap)
  -- clock and drivers
  | loadClock {s} {t : DateTime} (b : Bool) (ht : t.legal = true) (hr : s.cc.running = true) :
    Act [.clock, .drivers, .events] s (loadClock t b s)
  | setOffset {s} {q : Int} (hq : -48 ≤ q ∧ q ≤ 56) : Act [.clock] s (s.setCc { s.cc with localOffset := q })
  | setTick {s} (k : TickPeriod) (p : Port) : Act [.clock] s (s.setCc (s.cc.withTick k p))
  | tally {s} : Act [.drivers] s (tallySecond s)
  | discardTallies {s} : Act [.drivers] s (discardTallies s)
  | creditSlot {s} (stamp : Nat) (c : Slot × Activity) : Act [.drivers, .lamps, .chimes, .events] s (creditSlot stamp c s)
  | slotActivity {s} (c : Slot × ActivityArg) : Act [.drivers, .lamps, .chimes, .events] s (slotActivity c s)
  | slotSummary {s} (c : Slot × SummaryArg) : Act [.drivers, .lamps, .chimes, .events] s (slotSummary c s)
  | setLead {s} {n : Nat} (hn : n ≤ 60) : Act [.drivers, .lamps, .chimes, .events] s (setLead n s)
  | basisExpires {s} (slot : Slot) : Act [.drivers] s (modifyRecord slot DriverRecord.basisExpires s)
  -- recorder link
  | setAssembly {s} (a : Assembly) : Act [.recorder] s (setAssembly a s)
  | linkTaken {s} : Act [.recorder, .lamps, .chimes, .events] s (linkTaken s)
  | modifyVehicle {s} (f : VehicleRecord → VehicleRecord) : Act [.recorder] s (modifyVehicle f s)
  | loseLink {s} : Act [.recorder, .gauges, .window, .lamps, .chimes, .events, .drivers] s (loseLink s)
  | cadence {s} (h : s.rlu.cadence.isSome = true) : Act [.recorder] s (cadence s)
  | transmitted {s} : Act [.recorder] s (transmitted s)
  -- inputs and power
  | applyInput {s} {args : InputArgs} {k : InputConfig} (hk : inputConfigOf args = some k) (h0 : k.input ≠ 0) :
    Act [.inputs, .lamps, .chimes, .events] s (applyInput k s)
  | edge {s} (i : Fin 12) :
    Act [.inputs, .power, .gauges, .events, .matrix, .chimes, .lamps, .ports, .recorder] s (edge i s)
  | sampleInputs {s} (mv : Tab Int 12) :
    Act [.inputs, .leads, .power, .gauges, .events, .matrix, .chimes, .lamps, .ports, .recorder] s (sampleInputs mv s)
  | selfCheckExpires {s} (h : s.pwc.selfCheck.isRunning = true) :
    Act [.power, .lamps, .chimes, .events, .ports, .recorder] s (selfCheckExpires s)
  | supplyFalls {s} : Act [.power, .gauges, .chimes, .events] s (supplyFalls s)
  | supplyReturns {s} : Act [.power, .chimes, .events] s (supplyReturns s)
  | measure {s} (mv : Nat) : Act [.leads, .power, .gauges, .chimes, .events] s (measure mv s)

/-- The blocks that a reset puts at their reset values (R190). -/
def resetBlocks : List Block :=
  [.gauges, .lamps, .matrix, .chimes, .clock, .recorder, .drivers, .inputs, .events, .ports, .responses, .window, .power,
    .reset, .spi]

/-- The blocks that hold a timer, and the commands found due. -/
def tickBlocks : List Block :=
  [.gauges, .matrix, .chimes, .clock, .recorder, .drivers, .ports, .power, .reset, .due, .queue]

/-- What a command does to a part in or out of reset, and the passing of a millisecond. -/
inductive Always : List Block → State → State → Prop
  | queue {s} (l : List Instr) : Always [.queue] s (s.setPending l)
  | due {s} (l : List Instr) : Always [.due] s (s.setDue l)
  -- the crystal, which no pin or command reset stops (R97)
  | zeroPrescaler {s} (hw : clockWorks s = true) : Always [.clock] s (s.setCc { s.cc with prescaler := 0 })
  | holdRange {s} (hw : clockWorks s = true) (h : s.cc.atEnd = true) : Always [.clock] s (s.setCc { s.cc with rangeHold := true })
  | advance {s} (hw : clockWorks s = true) (hr : s.cc.running = true) (h : s.cc.atEnd = false) :
    Always [.clock] s (s.setCc s.cc.advanced)
  | stop {s} (hw : clockWorks s = true) : Always [.clock] s (s.setCc s.cc.stop)
  | setMonitor {s} {m : Monitor} (hw : clockWorks s = true) (hs : s.cc.monitor ≠ .running) (hm : m ≠ .running) :
    Always [.clock] s (setMonitor m s)
  | recover {s} (hw : clockWorks s = true) : Always [.clock] s (s.setCc s.cc.recover)
  -- resets
  | countFault {s} (h : isOut s = false) : Always [.reset] s (s.setRst { s.rst with clockFaults := s.rst.clockFaults + 1 })
  | beginCause {s} (c : Cause) : Always resetBlocks s (beginCause c s)
  | commandReset {s} : Always resetBlocks s (commandReset s)
  | startHold {s} (h : isOut s = false) : Always [.reset] s (s.setRst { s.rst with progress := .hold Config.resetHold })
  | comeOut {s} (h : isOut s = false) : Always [.reset, .events, .recorder] s (comeOut s)
  | tick {s} : Always tickBlocks s (tick s)

/-- R190: an operation of the first kind writes its blocks alone. -/
theorem Act.frame {W : List Block} {s t : State} (h : Act W s t) : OnlyChanges W s t := by
  cases h with
  | choose n => exact setChoices_frame s n
  | begin p => exact beginFrame_frame p s
  | shiftOut p n => exact shiftOut_frame p s n
  | respond p r => exact respond_frame p s r
  | clearCauses => exact setPwc_frame s _
  | post k _ => exact post_frame s k _
  | postAt p k _ => exact postAt_frame p s k _
  | removeEvent p k => exact modifyEvents_frame p s _
  | setLevel _ _ => exact modifyEvents_frame _ s _
  | openWindow _ => exact setWindow_frame s _
  | closeWindow => exact closeWindow_frame s
  | setPeriods _ _ => exact (setPeriod_frame .d s _).trans (setPeriod_frame .s _ _)
  | silencePort p => exact silencePort_frame s p
  | deliver _ _ _ => exact gaugeChange_frame s _ _
  | applyChannel _ _ _ _ => exact applyChannel_frame s _
  | loadCurve _ => exact setGe_frame s _
  | dropPending i => exact setGe_frame s _
  | keepPending i q _ => exact setGe_frame s _
  | filterAll => exact setGe_frame s _
  | motionInterval => exact motionInterval_frame s
  | writeLamps _ _ => exact lampUpdate_frame s _
  | configureLamp _ => exact lampUpdate_frame s _
  | handRecorder _ _ _ => exact lampUpdate_frame s _
  | setDimming _ => exact setLmd_frame s _
  | setFloor _ => exact setLmd_frame s _
  | requestHold _ => exact requestHold_frame s
  | releaseHold => exact releaseHold_frame s
  | dropInternal => exact setLmd_frame s _
  | dropPortS => exact setLmd_frame s _
  | scanFrameStart => exact scanFrameStart_frame s
  | rowSlotEnd draws => exact rowSlotEnd_frame s draws
  | chime d r _ => exact chimeRequest_frame s d _ r
  | cancelChimes r => exact setCu_frame s _
  | endPlay _ => exact setCu_frame s _
  | endGap _ => exact setCu_frame s _
  | loadClock b _ _ => exact loadClock_frame s _ b
  | setOffset _ => exact setCc_frame s _
  | setTick k p => exact setCc_frame s _
  | tally => exact setAau_frame s _
  | discardTallies => exact setAau_frame s _
  | creditSlot stamp c => exact creditSlot_frame s stamp c
  | slotActivity c => exact slotActivity_frame s c
  | slotSummary c => exact slotSummary_frame s c
  | setLead _ => exact setLead_frame s _
  | basisExpires slot => exact modifyRecord_frame s slot _
  | setAssembly a => exact setRlu_frame s _
  | linkTaken => exact linkTaken_frame s
  | modifyVehicle f => exact setRlu_frame s _
  | loseLink => exact loseLink_frame s
  | cadence _ => exact cadence_frame s
  | transmitted => exact transmitted_frame s
  | applyInput _ _ => exact applyInput_frame s _
  | edge i => exact edge_frame s i
  | sampleInputs mv => exact sampleInputs_frame s mv
  | selfCheckExpires _ => exact selfCheckExpires_frame s
  | supplyFalls => exact supplyFalls_frame s
  | supplyReturns => exact supplyReturns_frame s
  | measure mv => exact measure_frame s mv

theorem heldBlocks_frame (c : Cause) (s : State) : OnlyChanges resetBlocks s (heldBlocks c s) := by
  intro b hb
  cases b <;> simp [resetBlocks] at hb
  case leads => exact ⟨rfl, rfl, rfl⟩
  case due => exact rfl
  case queue => exact rfl

/-- R192: once the reset is over, coming out of it posts events and sends the STANDBY frame. -/
theorem comeOut_frame_out (s : State) :
    OnlyChanges [.events, .recorder] (s.setRst { s.rst with progress := .out, clockFaults := 0 }) (comeOut s) := by
  unfold comeOut
  exact .after (txDue_frame _ _) (by decide) <| .after (forEach_frame (fun _ t => post_frame t _ _) _ _) (by decide) <|
    .after (post_frame _ _ _) (by decide) (.refl _ _)

theorem comeOut_frame (s : State) : OnlyChanges [.reset, .events, .recorder] s (comeOut s) :=
  .after (comeOut_frame_out s) (by decide) ((setRst_frame s _).mono (by decide))

theorem queueDue_frame (timers measures : List Instr) (s : State) :
    OnlyChanges [.due, .queue] s (queueDue timers measures s) :=
  .after (setDue_frame _ _) (by decide) <| .after (setChoices_frame _ _) (by decide) <|
    .after (setPending_frame _ _) (by decide) (.refl _ _)

theorem queueFrameStart_frame (s : State) : OnlyChanges [.due, .queue] s (queueFrameStart s) := by
  unfold queueFrameStart
  split
  · exact .after (setDue_frame _ _) (by decide) <| .after (setChoices_frame _ _) (by decide) <|
      .after (setPending_frame _ _) (by decide) (.refl _ _)
  · exact .refl _ _

/-- Log 2: on a part out of reset a millisecond moves the timers on, and queues commands. -/
theorem tick_frame_out {s : State} (h : isOut s = true) : OnlyChanges [.due, .queue] (passOut s) (tick s) := by
  unfold tick
  rw [if_pos h]
  exact .after (queueFrameStart_frame _) (by decide) (queueDue_frame _ _ _)

/-- Log 2: in a reset a millisecond moves the hold and the crystal on, and queues commands. -/
theorem tick_frame_held {s : State} (h : isOut s = false) : OnlyChanges [.due, .queue] (passHeld s) (tick s) := by
  unfold tick
  rw [if_neg (by simp [h])]
  exact queueDue_frame _ _ _

theorem passOut_port (p : Port) (s : State) : (passOut s).port p = (s.port p).pass := by cases p <;> rfl

theorem passOut_frame (s : State) :
    OnlyChanges [.gauges, .matrix, .chimes, .clock, .recorder, .drivers, .ports, .power] s (passOut s) := by
  intro b hb
  cases b <;> simp at hb
  case events => exact fun p => by rw [passOut_port]; rfl
  case responses => exact fun p => by rw [passOut_port]; rfl
  case leads => exact ⟨rfl, rfl, rfl⟩
  case spi => exact fun p => by cases p <;> rfl
  all_goals exact rfl

theorem passHeld_port (p : Port) (s : State) : (passHeld s).port p = s.port p := by cases p <;> rfl

theorem passHeld_frame (s : State) : OnlyChanges [.clock, .reset] s (passHeld s) := by
  intro b hb
  cases b <;> simp at hb
  case events => exact fun p => by rw [passHeld_port]
  case ports => exact fun p => by rw [passHeld_port]; exact ⟨rfl, rfl, rfl, rfl⟩
  case responses => exact fun p => by rw [passHeld_port]
  case leads => exact ⟨rfl, rfl, rfl⟩
  case spi => exact fun p => by cases p <;> rfl
  all_goals exact rfl

theorem tick_frame_reset {s : State} (h : isOut s = false) : OnlyChanges [.clock, .reset, .due, .queue] s (tick s) :=
  .after (tick_frame_held h) (by decide) ((passHeld_frame s).mono (by decide))

theorem tick_frame (s : State) : OnlyChanges tickBlocks s (tick s) := by
  cases h : isOut s
  · exact (tick_frame_reset h).mono (by decide)
  · exact .after (tick_frame_out h) (by decide) ((passOut_frame s).mono (by decide))

theorem Always.frame {W : List Block} {s t : State} (h : Always W s t) : OnlyChanges W s t := by
  cases h with
  | queue l => exact setPending_frame s l
  | due l => exact setDue_frame s l
  | zeroPrescaler _ => exact setCc_frame s _
  | holdRange _ _ => exact setCc_frame s _
  | advance _ _ _ => exact setCc_frame s _
  | stop _ => exact setCc_frame s _
  | setMonitor _ _ _ => exact setCc_frame s _
  | recover _ => exact setCc_frame s _
  | countFault _ => exact setRst_frame s _
  | beginCause c => exact .after (setRst_frame _ _) (by decide) (heldBlocks_frame c s)
  | commandReset => exact .after (setRst_frame _ _) (by decide) (heldBlocks_frame .command s)
  | startHold _ => exact setRst_frame s _
  | comeOut _ => exact comeOut_frame s
  | tick => exact tick_frame s

/-- R190: an operation of the first kind leaves the part out of reset. -/
theorem Act.isOut_eq {W : List Block} {s t : State} (h : Act W s t) : isOut t = isOut s := by
  have hreset : .reset ∉ W := by cases h <;> decide
  have hrst : t.rst = s.rst := h.frame .reset hreset
  simp [isOut, hrst]

/-! ### Runs of operations -/

/-- One operation after another on a part out of reset. -/
inductive Acts : State → State → Prop
  | refl (s : State) : Acts s s
  | act {W : List Block} {s t u : State} (h : Acts s t) (a : Act W t u) : Acts s u

/-- One operation after another, those of the first kind out of reset alone. -/
inductive Runs : State → State → Prop
  | refl (s : State) : Runs s s
  | acts {s t u : State} (h : Runs s t) (hout : isOut t = true) (a : Acts t u) : Runs s u
  | always {s t u : State} (h : Runs s t) {W : List Block} (a : Always W t u) : Runs s u

section runs
variable {W : List Block} {s t u : State}

theorem Act.acts (a : Act W s t) : Acts s t := .act (.refl s) a

theorem Acts.isOut_eq (h : Acts s t) : isOut t = isOut s := by
  induction h with
  | refl => rfl
  | act _ a ih => exact a.isOut_eq.trans ih

theorem Acts.trans (h : Acts s t) (h' : Acts t u) : Acts s u := by
  induction h' with
  | refl => exact h
  | act _ a ih => exact .act (ih h) a

theorem Acts.forEach {α : Type} {act : α → State → State} (h : ∀ a s, Acts s (act a s)) (l : List α) (s : State) :
    Acts s (forEach act l s) := by
  induction l generalizing s with
  | nil => exact .refl s
  | cons a l ih => exact (h a s).trans (ih _)

theorem Acts.inSomeOrder {α : Type} {act : α → State → State} (h : ∀ a s, Acts s (act a s)) (l : List α) (s : State) :
    Acts s (inSomeOrder l (Machine.forEach act) s) :=
  (Act.choose _).acts.trans (Acts.forEach h _ _)

theorem Acts.runs (h : Acts s t) (hout : isOut s = true) : Runs s t := .acts (.refl s) hout h

theorem Always.runs (h : Always W s t) : Runs s t := .always (.refl s) h

theorem Runs.trans (h : Runs s t) (h' : Runs t u) : Runs s u := by
  induction h' with
  | refl => exact h
  | acts _ hout a ih => exact ih.acts hout a
  | always _ a ih => exact ih.always a

end runs

/-! ### What each kind of command runs -/

section kinds
variable {s : State}

/-- R1: every event argument fits a byte. -/
theorem portSource_code_le (p : Port) : (portSource p).code ≤ 255 := by cases p <;> decide
theorem slotNumber_le (slot : Slot) : slotNumber slot ≤ 255 := by cases slot <;> decide

theorem sourceLive_portSource (p : Port) (s : State) : sourceLive s (portSource p) = (s.port p).live := by
  cases p <;> rfl

/-- R170, R172: the source of a taken frame is LIVE. -/
theorem beginFrame_live (p : Port) (s : State) : ((beginFrame p s).port p).live = true := by
  unfold beginFrame restartTimer returnSource
  split <;> split <;> simp_all [reformLoss]

theorem isOut_beginFrame (p : Port) (s : State) : isOut (beginFrame p s) = isOut s := (Act.begin p).isOut_eq

/-- R170: a taken frame, from what its request runs. -/
theorem takenFrame_runs {p : Port} {code : Byte} {request : State → Reply}
    (h : ∀ b, isOut b = true → (b.port p).live = true → Acts b (request b).state) :
    Runs s (takenFrame p code request s) := by
  unfold takenFrame
  split
  · next hout =>
    have hbegin := (Act.begin (s := s) p).acts
    exact (((hbegin.trans (h _ (by rwa [isOut_beginFrame]) (beginFrame_live p s)))).trans (Act.respond p _).acts).runs hout
  · exact .refl s

theorem whenOut_runs {act : State → State} (h : Acts s (act s)) : Runs s (whenOut act s) := by
  unfold whenOut
  split
  · next hout => exact h.runs hout
  · exact .refl s

/-- Log 3: a timer command acts only while its timer runs. -/
theorem timed_runs {c : Instr} {running out : Bool} {act : State → State} (hout : out = true → running = true)
    (h : ∀ l, running = true → Runs (s.setDue l) (act (s.setDue l))) : Runs s (timed c running out act s) := by
  unfold timed
  split
  · next htakes =>
    refine (Always.due _).runs.trans (h _ ?_)
    unfold takesPlace at htakes
    split at htakes
    · exact hout htakes
    · exact htakes
  · exact (Always.due _).runs

/-- R174 and others: a Port S command that needs the config window changes nothing where its checks refuse it. -/
theorem ifConfigurable_acts {p : Port} {act : Reply} (h : p = .s → s.window = true → Acts s act.state) :
    Acts s (ifConfigurable p s act).state := by
  cases p with
  | d => exact .refl s
  | s =>
    simp only [ifConfigurable]
    split
    · next hw => exact h rfl hw
    · exact .refl s

theorem ifPortS_acts {p : Port} {act : Reply} (h : Acts s act.state) : Acts s (ifPortS p s act).state := by
  cases p with
  | d => exact .refl s
  | s => exact h

theorem ifPortD_acts {p : Port} {act : Reply} (h : Acts s act.state) : Acts s (ifPortD p s act).state := by
  cases p with
  | d => exact h
  | s => exact .refl s

end kinds

/-! ### What the requests of the ports run -/

section requests
variable {s : State}

theorem fetchReply_acts (p : Port) : Acts s (fetchReply p s).state := by
  unfold fetchReply
  split
  · exact .refl s
  · exact (Act.removeEvent p _).acts

theorem setEventLevelReply_acts (p : Port) (kind level : Byte) : Acts s (setEventLevelReply p kind level s).state := by
  unfold setEventLevelReply
  split
  · exact .refl s
  · split
    · exact .refl s
    · next hlevel =>
      split
      · exact .refl s
      · next hfixed => exact (Act.setLevel (by omega) (by simpa using hfixed)).acts

theorem openConfigReply_acts (p : Port) : Acts s (openConfigReply p s).state := by
  refine ifPortS_acts ?_
  split
  · exact .refl s
  · next h => exact (Act.openWindow (by simpa using h)).acts

theorem clamp_bounds {lo hi : Nat} (h : lo ≤ hi) (n : Nat) : lo ≤ clamp lo hi n ∧ clamp lo hi n ≤ hi := by
  unfold clamp
  omega

theorem setValueReply_acts (p : Port) (channel : Byte) (value : BitVec 16) (hlive : (s.port p).live = true) :
    Acts s (setValueReply p channel value s).state := by
  unfold setValueReply
  split
  · exact .refl s
  · next i _ =>
    dsimp only
    split
    · exact .refl s
    · next hen =>
      split
      · exact .refl s
      · next hlists =>
        refine (Act.deliver (by rwa [sourceLive_portSource]) (by have := value.isLt; omega) fun j hj => ?_).acts
        have hji : j = i := by simpa using hj
        subst hji
        exact ⟨by simpa using hen, by simpa using hlists⟩

theorem setChannelReply_acts (p : Port) (args : ChannelArgs) : Acts s (setChannelReply p args s).state := by
  refine ifConfigurable_acts fun _ hw => ?_
  split
  · exact .refl s
  · next k hk =>
    unfold changeChannel
    dsimp only
    split
    · exact .refl s
    · next hrest =>
      split
      · exact .refl s
      · next hcurve =>
        refine (Act.applyChannel hw hk (fun hen => ?_) fun q hq => ?_).acts
        · simpa [hen, or_iff_not_imp_left] using hrest
        · simp only [List.any_eq_true, decide_eq_true_eq, not_exists, not_and, Nat.not_lt] at hcurve
          exact hcurve q hq

theorem offerCurve_acts (i : Fin 8) (curve : List Point) : Acts s (offerCurve i curve s).state := by
  unfold offerCurve
  split
  · next h => exact (Act.loadCurve h).acts
  · exact (Act.dropPending i).acts

theorem loadCurvePart0Reply_acts (p : Port) (ch part : BitVec 4) (n : Byte) (pts : Tab PointArg 5) :
    Acts s (loadCurvePart0Reply p ch part n pts s).state := by
  refine ifConfigurable_acts fun _ hw => ?_
  split
  · exact .refl s
  · split
    · exact .refl s
    · split
      · exact .refl s
      · dsimp only
        split
        · exact offerCurve_acts _ _
        · exact (Act.keepPending _ _ hw).acts

theorem loadCurvePart1Reply_acts (p : Port) (ch : BitVec 4) (pts : Tab PointArg 4) :
    Acts s (loadCurvePart1Reply p ch pts s).state := by
  refine ifConfigurable_acts fun _ _ => ?_
  split
  · exact .refl s
  · split
    · exact .refl s
    · exact offerCurve_acts _ _

theorem writeLampsReply_acts (p : Port) (count : Byte) (pairs : Tab LampPair 8) (hlive : (s.port p).live = true) :
    Acts s (writeLampsReply p count pairs s).state := by
  unfold writeLampsReply
  split
  · exact .refl s
  · split
    · next hmay => exact (Act.writeLamps hlive (by simpa using hmay)).acts
    · exact .refl s

theorem setLampConfigReply_acts (p : Port) (lamp cls d sc r : Byte) :
    Acts s (setLampConfigReply p lamp cls d sc r s).state := by
  refine ifConfigurable_acts fun _ _ => ?_
  split
  · exact .refl s
  · split
    · next hk => exact (Act.configureLamp (by simpa using hk)).acts
    · exact .refl s

theorem lampTestReply_acts (p : Port) (action : Nat) {act : State → State} (h : inCycle s = true → Acts s (act s)) :
    Acts s (lampTestReply p action act s).state := by
  refine ifPortS_acts ?_
  split
  · exact .refl s
  · split
    · exact .refl s
    · next hc => exact h (by simpa using hc)

theorem requestChimeReply_acts (p : Port) (sound priority : Byte) : Acts s (requestChimeReply p sound priority s).state := by
  unfold requestChimeReply
  split
  · exact .refl s
  · split
    · exact (Act.chime _ _ (by omega)).acts
    · exact .refl s

theorem setTimeReply_acts (t : DateTime) : Acts s (setTimeReply t s).state := by
  unfold setTimeReply
  split
  · exact .refl s
  · next hlegal =>
    split
    · exact .refl s
    · next hrun =>
      split
      · exact .refl s
      · exact (Act.loadClock false (by simpa using hlegal) (by simpa using hrun)).acts

theorem setTickReply_acts (p : Port) (period : Byte) : Acts s (setTickReply p period s).state := by
  unfold setTickReply
  split
  · exact .refl s
  · exact (Act.setTick _ p).acts

theorem setInputReply_acts (p : Port) (args : InputArgs) : Acts s (setInputReply p args s).state := by
  refine ifConfigurable_acts fun _ _ => ?_
  split
  · exact .refl s
  · next k hk =>
    split
    · exact .refl s
    · next h0 => exact (Act.applyInput hk h0).acts

theorem readDriverReply_acts (slot part : Byte) : Acts s (readDriverReply slot part s).state := by
  unfold readDriverReply
  split <;> exact .refl s

theorem readChannelReply_acts (channel part : Byte) : Acts s (readChannelReply channel part s).state := by
  unfold readChannelReply
  split <;> exact .refl s

theorem readHistoryReply_acts (slot start : Byte) : Acts s (readHistoryReply slot start s).state := by
  unfold readHistoryReply
  split
  · split <;> exact .refl s
  · exact .refl s

theorem readLampsReply_acts (start : Byte) : Acts s (readLampsReply start s).state := by
  unfold readLampsReply
  split <;> exact .refl s

end requests

/-! ### What the recorder's frames run -/

section recorder
variable {s : State}

theorem returnLink_live (s : State) : (returnLink s).rlu.live = true := by
  unfold returnLink
  split
  · assumption
  · simp

theorem linkTaken_live (s : State) : (linkTaken s).rlu.live = true := returnLink_live _

theorem deliver_rlu (c : Fin 8 → Bool) (a : Source) (v : Nat) (s : State) : (deliver c a v s).rlu = s.rlu := by
  simp [deliver]

theorem overspeedContents_acts (fast before : Bool) (hlive : s.rlu.live = true) :
    Acts s (overspeedContents fast before s) := by
  unfold overspeedContents
  have hlamp : Acts s (handRecorder 4 (if fast = true then .on else .off) s) :=
    (Act.handRecorder _ (.inr rfl) hlive).acts
  dsimp only
  split
  · exact hlamp.act (Act.chime .single .recorder (n := 2) (by decide))
  · exact hlamp

theorem speedContents_acts {speed : Nat} (hv : speed ≤ 65535) (fast motion : Bool) (hlive : s.rlu.live = true) :
    Acts s (speedContents speed fast motion s) := by
  refine (((Act.deliver (a := .recorder) hlive hv fun i hi => ?_).acts).act (Act.modifyVehicle _)).trans
    (overspeedContents_acts _ _ ?_)
  · simpa using hi
  · simpa [modifyVehicle, deliver_rlu] using hlive

theorem timeContents_acts (t : DateTime) (valid : Bool) : Acts s (timeContents t valid s) := by
  unfold timeContents
  split
  · next h =>
    simp only [loadsFrame, Bool.and_eq_true] at h
    exact (Act.loadClock true h.1.2 h.1.1.1).acts
  · exact .refl s

theorem frameContents_acts (i : Instr) (hlive : s.rlu.live = true) : Acts s (frameContents i s) := by
  cases i
  case speedFrame v fast motion => exact speedContents_acts (by have := v.isLt; omega) fast motion hlive
  case timeFrame t valid => exact timeContents_acts _ valid
  case activityFrame a b => exact .inSomeOrder (fun c t => (Act.slotActivity c).acts) _ s
  case summaryFrame a b => exact .inSomeOrder (fun c t => (Act.slotSummary c).acts) _ s
  case distanceFrame odometer trip =>
    exact (Act.modifyVehicle fun v => { v with
      odometer := odometer.toNat, trip := trip.toNat, heldDistance := false }).acts
  case noticeFrame level code =>
    exact ((Act.modifyVehicle _).acts).act (Act.handRecorder _ (.inl rfl) hlive)
  all_goals exact .refl s

theorem validFrame_acts (i : Instr) : Acts s (validFrame (frameContents i) s) :=
  (Act.linkTaken.acts).trans (frameContents_acts i (linkTaken_live s))

theorem receive_acts (char : Byte) (framingError : Bool) : Acts s (receive char framingError s) := by
  unfold receive
  split
  · exact (Act.setAssembly _).acts
  · split
    · exact validFrame_acts _
    · exact (Act.setAssembly _).acts

theorem discardFrame_acts (char : Byte) (framingError : Bool) : Acts s (discardFrame char framingError s) := by
  unfold discardFrame
  split
  · exact .refl s
  all_goals exact (Act.setAssembly _).acts

end recorder

/-! ### What the clock and the resets run -/

section clock
variable {s : State}

theorem clockWorks_of_isOut (h : isOut s = true) : clockWorks s = true := by simp [clockWorks, h]

theorem tickAt_acts (p : Port) (t : Ticks) : Acts s (tickAt p t s) := by
  unfold tickAt
  split
  · exact (Act.postAt p _ (by cases s.cc.tick p <;> decide)).acts
  · exact .refl s

theorem creditMinute_acts (stamp : Nat) : Acts s (creditMinute stamp s) := by
  unfold creditMinute
  dsimp only
  split
  · exact ((Act.post _ (by decide)).acts).trans (.inSomeOrder (fun c t => (Act.creditSlot stamp c).acts) _ _)
  · exact .inSomeOrder (fun c t => (Act.creditSlot stamp c).acts) _ _

theorem handTicks_acts (t : Ticks) : Acts s (handTicks t s) := by
  unfold handTicks
  dsimp only
  split
  · exact (Act.tally.acts).trans (creditMinute_acts _)
  · exact Act.tally.acts

theorem advanceOut_runs (hout : isOut s = true) (hr : s.cc.running = true) : Runs s (advanceOut s) := by
  unfold advanceOut
  split
  · next hend =>
    split
    · exact .refl s
    · exact ((Always.holdRange (clockWorks_of_isOut hout) hend).runs).acts hout (Act.post _ (by decide)).acts
  · next hend =>
    exact ((Always.advance (clockWorks_of_isOut hout) hr (by simpa using hend)).runs).acts hout
      (((tickAt_acts .d _).trans (tickAt_acts .s _)).trans (handTicks_acts _))

theorem secondAdvance_runs (hr : s.cc.running = true) : Runs s (secondAdvance s) := by
  unfold secondAdvance
  dsimp only
  split
  · next hout => exact ((Always.zeroPrescaler (clockWorks_of_isOut hout)).runs).trans (advanceOut_runs hout hr)
  · split
    · next hw =>
      refine ((Always.zeroPrescaler hw).runs).trans ?_
      generalize hs' : s.setCc { s.cc with prescaler := 0 } = s'
      have hw' : clockWorks s' = true := by rw [← hs']; exact hw
      have hr' : s'.cc.running = true := by rw [← hs']; exact hr
      unfold Clock.advancedHeld
      split
      · next hend => exact (Always.holdRange hw' hend).runs
      · next hend => exact (Always.advance hw' hr' (by simpa using hend)).runs
    · exact .refl s

theorem oscillatorStop_runs : Runs s (oscillatorStop s) := by
  unfold oscillatorStop
  split
  · next h =>
    simp only [Bool.and_eq_true] at h
    have hstop := (Always.stop h.2).runs
    dsimp only
    split
    · next hout => exact hstop.acts hout (((Act.post _ (by decide)).acts).act Act.discardTallies)
    · next hout => exact hstop.always (Always.countFault (show isOut s = false by simpa using hout))
  · exact .refl s

theorem edgeReturn_runs : Runs s (edgeReturn s) := by
  unfold edgeReturn
  split
  · next h =>
    simp only [Bool.and_eq_true, decide_eq_true_eq] at h
    exact (Always.setMonitor h.2 (by simp [h.1]) (by simp)).runs
  · exact .refl s

theorem recoveryAbandoned_runs : Runs s (recoveryAbandoned s) := by
  unfold recoveryAbandoned
  split
  · next h =>
    simp only [Bool.and_eq_true] at h
    exact (Always.setMonitor h.2 (fun e => by simp [e, Monitor.isRecovering] at h) (by simp)).runs
  · exact .refl s

theorem oscillatorRecovery_runs : Runs s (oscillatorRecovery s) := by
  unfold oscillatorRecovery
  split
  · next h => exact (Always.recover h).runs
  · exact .refl s

theorem resetPart_runs (p : Port) : Runs s (whenOut (resetPart p) s) := by
  unfold whenOut
  split
  · next hout =>
    cases p with
    | d => exact takenFrame_runs fun b _ _ => .refl b
    | s => exact (((Act.begin .s).acts).runs hout).always Always.commandReset
  · exact .refl s

theorem causeEnds_runs : Runs s (causeEnds s) := by
  unfold causeEnds
  split
  · next h =>
    simp only [Bool.and_eq_true, decide_eq_true_eq] at h
    exact (Always.startHold (by simp [isOut, h.1])).runs
  · exact .refl s

theorem isOut_of_isHold (h : s.rst.progress.isHold = true) : isOut s = false := by
  unfold isOut
  cases hp : s.rst.progress <;> simp_all [ResetProgress.isHold]

end clock

/-! ### Every step is a run -/

theorem isSome_of_ranOut {t : Option Nat} (h : ranOut t = true) : t.isSome = true := by
  cases t <;> simp_all [ranOut]

/-- Every command runs operations. -/
theorem exec_runs {c : Instr} {s t : State} (h : exec c s = .next t) : Runs s t := by
  cases c <;> cases h
  case nop p => exact takenFrame_runs fun b _ _ => .refl b
  case unknownCommand p code => exact takenFrame_runs fun b _ _ => .refl b
  case badFrame p => exact whenOut_runs (((Act.shiftOut p _).acts).act (Act.respond p _))
  case readStatus p => exact takenFrame_runs fun b _ _ => .refl b
  case clearResetCause p => exact takenFrame_runs fun b _ _ => Act.clearCauses.acts
  case fetchEvent p => exact takenFrame_runs fun b _ _ => fetchReply_acts p
  case setEventLevel p kind level => exact takenFrame_runs fun b _ _ => setEventLevelReply_acts p kind level
  case openConfig p => exact takenFrame_runs fun b _ _ => openConfigReply_acts p
  case closeConfig p => exact takenFrame_runs fun b _ _ => ifPortS_acts Act.closeWindow.acts
  case setSupervision p d e =>
    exact takenFrame_runs fun b _ _ => ifConfigurable_acts fun _ _ =>
      (Act.setPeriods (clamp_bounds (by decide) _) (clamp_bounds (by decide) _)).acts
  case resetPart p => exact resetPart_runs p
  case setValue p channel value => exact takenFrame_runs fun b _ hlive => setValueReply_acts p channel value hlive
  case readChannel p channel part => exact takenFrame_runs fun b _ _ => readChannelReply_acts channel part
  case setChannel p args => exact takenFrame_runs fun b _ _ => setChannelReply_acts p args
  case loadCurvePart0 p ch part n pts => exact takenFrame_runs fun b _ _ => loadCurvePart0Reply_acts p ch part n pts
  case loadCurvePart1 p ch pts => exact takenFrame_runs fun b _ _ => loadCurvePart1Reply_acts p ch pts
  case writeLamps p count pairs => exact takenFrame_runs fun b _ hlive => writeLampsReply_acts p count pairs hlive
  case setLampConfig p lamp cls d sc r => exact takenFrame_runs fun b _ _ => setLampConfigReply_acts p lamp cls d sc r
  case readLamps p start => exact takenFrame_runs fun b _ _ => readLampsReply_acts start
  case setDimming p level => exact takenFrame_runs fun b _ _ => ifPortD_acts (Act.setDimming (by omega)).acts
  case setSafetyFloor p floor =>
    exact takenFrame_runs fun b _ _ => ifConfigurable_acts fun _ _ => (Act.setFloor (clamp_bounds (by decide) _)).acts
  case lampTestRequest p action =>
    exact takenFrame_runs fun b _ _ => lampTestReply_acts p _ fun hc => (Act.requestHold hc).acts
  case lampTestRelease p => exact takenFrame_runs fun b _ _ => lampTestReply_acts p _ fun _ => Act.releaseHold.acts
  case requestChime p sound priority => exact takenFrame_runs fun b _ _ => requestChimeReply_acts p sound priority
  case cancelChimes p => exact takenFrame_runs fun b _ _ => (Act.cancelChimes _).acts
  case readVehicle p => exact takenFrame_runs fun b _ _ => .refl b
  case readDriver p slot part => exact takenFrame_runs fun b _ _ => readDriverReply_acts slot part
  case readHistory p slot start => exact takenFrame_runs fun b _ _ => readHistoryReply_acts slot start
  case setDriveWarning p lead => exact takenFrame_runs fun b _ _ => ifPortD_acts (Act.setLead (by omega)).acts
  case readTime p => exact takenFrame_runs fun b _ _ => .refl b
  case setTime p time => exact takenFrame_runs fun b _ _ => setTimeReply_acts _
  case setLocalOffset p q =>
    exact takenFrame_runs fun b _ _ => ifPortD_acts (Act.setOffset (by unfold offsetOfByte; omega)).acts
  case setTick p period => exact takenFrame_runs fun b _ _ => setTickReply_acts p period
  case setInput p args => exact takenFrame_runs fun b _ _ => setInputReply_acts p args
  case readInputs p => exact takenFrame_runs fun b _ _ => .refl b
  case supervisionTimerExpiry p => exact timed_runs isSome_of_ranOut fun l _ => whenOut_runs (Act.silencePort p).acts
  case speedFrame v fast motion => exact whenOut_runs (validFrame_acts (.speedFrame v fast motion))
  case timeFrame time valid => exact whenOut_runs (validFrame_acts (.timeFrame time valid))
  case activityFrame a b => exact whenOut_runs (validFrame_acts (.activityFrame a b))
  case summaryFrame a b => exact whenOut_runs (validFrame_acts (.summaryFrame a b))
  case distanceFrame odometer trip => exact whenOut_runs (validFrame_acts (.distanceFrame odometer trip))
  case noticeFrame level code => exact whenOut_runs (validFrame_acts (.noticeFrame level code))
  case recorderFrameDiscarded char e => exact whenOut_runs (discardFrame_acts char e)
  case gapTimeout =>
    refine timed_runs (fun h => ?_) fun l _ => whenOut_runs (Act.setAssembly _).acts
    simp only [RecorderLink.gapOut, Bool.and_eq_true] at h
    exact h.1
  case linkSupervisionExpiry => exact timed_runs isSome_of_ranOut fun l _ => whenOut_runs Act.loseLink.acts
  case statusCadence => exact timed_runs isSome_of_ranOut fun l h => whenOut_runs (Act.cadence (s := s.setDue l) h).acts
  case transmitComplete =>
    refine timed_runs (fun h => ?_) fun l _ => whenOut_runs Act.transmitted.acts
    unfold RecorderLink.sent at h
    split at h <;> simp_all
  case filterUpdate => exact timed_runs (fun _ => rfl) fun l _ => whenOut_runs Act.filterAll.acts
  case motionInterval => exact timed_runs (fun _ => rfl) fun l _ => whenOut_runs Act.motionInterval.acts
  case scanFrameStart => exact timed_runs (fun _ => rfl) fun l _ => whenOut_runs Act.scanFrameStart.acts
  case rowSlotEnd draws => exact whenOut_runs (Act.rowSlotEnd draws).acts
  case internalTimerExpiry => exact timed_runs isSome_of_ranOut fun l _ => whenOut_runs Act.dropInternal.acts
  case portSTimerExpiry => exact timed_runs isSome_of_ranOut fun l _ => whenOut_runs Act.dropPortS.acts
  case chimeEnd =>
    refine timed_runs (fun h => ?_) fun l h => whenOut_runs (Act.endPlay (s := s.setDue l) h).acts
    unfold ChimeUnit.playedOut at h
    split at h <;> simp_all
  case gapEnd => exact timed_runs isSome_of_ranOut fun l h => whenOut_runs (Act.endGap (s := s.setDue l) h).acts
  case secondAdvance =>
    refine timed_runs (fun h => ?_) fun l h => secondAdvance_runs h
    simp only [Clock.secondOut, Bool.and_eq_true] at h
    exact h.1
  case oscillatorStop => exact oscillatorStop_runs
  case oscillatorEdgeReturn => exact edgeReturn_runs
  case recoveryAbandoned => exact recoveryAbandoned_runs
  case oscillatorRecovery =>
    refine timed_runs (fun h => ?_) fun l _ => oscillatorRecovery_runs
    cases hm : s.cc.monitor <;> simp_all [Monitor.recovered, Monitor.isRecovering]
  case basisTimerExpiry slot => exact timed_runs isSome_of_ranOut fun l _ => whenOut_runs (Act.basisExpires slot).acts
  case debounceComplete input =>
    refine whenOut_runs ?_
    split
    · exact .refl s
    · exact (Act.edge input).acts
  case selfCheckTimerExpiry =>
    refine timed_runs (fun h => ?_) fun l h => whenOut_runs (Act.selfCheckExpires (s := s.setDue l) h).acts
    simp only [decide_eq_true_eq] at h
    simp [h, SelfCheck.isRunning]
  case supplyLowEntered => exact whenOut_runs Act.supplyFalls.acts
  case supplyLowLeft => exact whenOut_runs Act.supplyReturns.acts
  case powerOnReset => exact (Always.beginCause .powerOn).runs
  case pinReset => exact (Always.beginCause .pin).runs
  case resetCauseEnd => exact causeEnds_runs
  case resetHoldEnd =>
    refine timed_runs (fun h => ?_) fun l h => (Always.comeOut (s := s.setDue l) (isOut_of_isHold h)).runs
    simp only [decide_eq_true_eq] at h
    simp [h, ResetProgress.isHold]
  case characterReceived char e => exact whenOut_runs (receive_acts char e)
  case inputSample mv => exact whenOut_runs (Act.sampleInputs mv).acts
  case vbsMeasurement mv => exact whenOut_runs (Act.measure mv).acts

theorem step_runs {s t : State} (h : step s = .next t) : Runs s t := by
  unfold step at h
  split at h
  · exact ((Always.queue _).runs).trans (exec_runs h)
  · cases h
    exact Always.tick.runs

/-! ### Properties that every step keeps -/

/-- Every operation keeps a property. -/
structure Kept (P : State → Prop) : Prop where
  act : ∀ {W : List Block} {s t : State}, isOut s = true → Act W s t → P s → P t
  always : ∀ {W : List Block} {s t : State}, Always W s t → P s → P t

section kept
variable {P : State → Prop} {s t : State}

theorem Kept.acts (hP : Kept P) (h : Acts s t) (hout : isOut s = true) (hs : P s) : P t := by
  induction h with
  | refl => exact hs
  | act h a ih => exact hP.act (h.isOut_eq.trans hout) a (ih hout hs)

theorem Kept.runs (hP : Kept P) (h : Runs s t) (hs : P s) : P t := by
  induction h with
  | refl => exact hs
  | acts _ hout a ih => exact hP.acts a hout ih
  | always _ a ih => exact hP.always a ih

/-- What every operation keeps, every step keeps. -/
theorem Kept.step (hP : Kept P) (h : step s = .next t) (hs : P s) : P t := hP.runs (step_runs h) hs

end kept

/-- A property reads the blocks listed alone. -/
def ReadsOnly (blocks : List Block) (P : State → Prop) : Prop :=
  ∀ s t : State, (∀ b ∈ blocks, b.same s t) → P s → P t

/-- An operation that writes none of the blocks that a property reads keeps it. -/
theorem ReadsOnly.keeps {R W : List Block} {P : State → Prop} {s t : State} (hP : ReadsOnly R P) (h : OnlyChanges W s t)
    (hdisj : ∀ b ∈ R, b ∉ W) (hs : P s) : P t := hP s t (fun b hb => h b (hdisj b hb)) hs

end Sys2Proof.Machine
end

section
/-! SUPPORT. Events: which kinds each operation of the model may post. An operation changes the event tables by postings alone,
so a kind that it does not post stands in both tables as it stood. -/
namespace Sys2Proof.Machine

/-! ### Postings -/

/-- R180: one posting recorded in an event table. -/
def recordPosting (e : Tab EventRecord 26) (x : EventKind × Nat) : Tab EventRecord 26 :=
  e.modify x.1.number (EventRecord.posted x.2)

/-- Both event tables of t are those of s after the postings listed. -/
def Posts (l : List (EventKind × Nat)) (s t : State) : Prop :=
  ∀ q, (t.port q).events = l.foldl recordPosting (s.port q).events

/-- Both event tables of t are those of s after some postings of the kinds listed, each with an argument of one byte. -/
def Tells (kinds : List EventKind) (s t : State) : Prop :=
  ∃ l : List (EventKind × Nat), Posts l s t ∧ ∀ x ∈ l, x.1 ∈ kinds ∧ x.2 ≤ 255

theorem EventKind.number_inj {k k' : EventKind} (h : k.number = k'.number) : k = k' := by
  cases k <;> cases k' <;> first | rfl | exact absurd h (by decide)

section tells
variable {A B : List EventKind} {s t u : State}

theorem Posts.trans {l l' : List (EventKind × Nat)} (h : Posts l s t) (h' : Posts l' t u) : Posts (l ++ l') s u := by
  intro q
  rw [h' q, h q, List.foldl_append]

theorem posts_post (k : EventKind) (n : Nat) (s : State) : Posts [(k, n)] s (post k n s) := by
  intro q
  rw [post_port]
  rfl

theorem Tells.of_events (kinds : List EventKind) (h : ∀ q, (t.port q).events = (s.port q).events) : Tells kinds s t :=
  ⟨[], h, by simp⟩

theorem Tells.of_frame {blocks : List Block} (kinds : List EventKind) (h : OnlyChanges blocks s t) (he : .events ∉ blocks) :
    Tells kinds s t := .of_events kinds (h .events he)

theorem Tells.refl (kinds : List EventKind) (s : State) : Tells kinds s s := .of_events kinds fun _ => rfl

theorem Tells.mono (h : Tells A s t) (hAB : ∀ k ∈ A, k ∈ B) : Tells B s t := by
  obtain ⟨l, hl, hall⟩ := h
  exact ⟨l, hl, fun x hx => ⟨hAB _ (hall x hx).1, (hall x hx).2⟩⟩

theorem Tells.trans (h : Tells A s t) (h' : Tells A t u) : Tells A s u := by
  obtain ⟨l, hl, hall⟩ := h
  obtain ⟨l', hl', hall'⟩ := h'
  refine ⟨l ++ l', hl.trans hl', fun x hx => ?_⟩
  rcases List.mem_append.1 hx with hx | hx
  · exact hall x hx
  · exact hall' x hx

/-- An operation that posts fewer kinds, after what came before it. -/
theorem Tells.after (h' : Tells B t u) (hBA : ∀ k ∈ B, k ∈ A) (h : Tells A s t) : Tells A s u := h.trans (h'.mono hBA)

/-- An operation that posts nothing, after what came before it. -/
theorem Tells.quiet {blocks : List Block} (h' : OnlyChanges blocks t u) (he : .events ∉ blocks) (h : Tells A s t) :
    Tells A s u := h.trans (.of_frame A h' he)

theorem post_tells (k : EventKind) {n : Nat} (hn : n ≤ 255) (s : State) : Tells [k] s (post k n s) :=
  ⟨[(k, n)], posts_post k n s, by simp [hn]⟩

theorem forEach_tells {α : Type} {act : α → State → State} (l : List α) (h : ∀ a ∈ l, ∀ s, Tells A s (act a s)) (s : State) :
    Tells A s (forEach act l s) := by
  induction l generalizing s with
  | nil => exact .refl _ _
  | cons a l ih =>
    exact (h a List.mem_cons_self s).trans (ih (fun b hb => h b (List.mem_cons_of_mem a hb)) _)

theorem inSomeOrder_tells {α : Type} {act : α → State → State} (l : List α) (h : ∀ a ∈ l, ∀ s, Tells A s (act a s))
    (s : State) : Tells A s (inSomeOrder l (forEach act) s) :=
  (Tells.of_frame A (setChoices_frame s _) (by simp)).trans
    (forEach_tells _ (fun a ha => h a ((arrange_perm _ _).mem_iff.1 ha)) _)

theorem postAll_tells (k : EventKind) (l : List Nat) (hl : ∀ n ∈ l, n ≤ 255) (s : State) : Tells [k] s (postAll k l s) :=
  inSomeOrder_tells l (fun n hn t => post_tells k (hl n hn) t) s

/-! ### What stands, and what has been posted once -/

theorem get_foldl_recordPosting_other {k : EventKind} (l : List (EventKind × Nat)) (h : ∀ x ∈ l, x.1 ≠ k)
    (e : Tab EventRecord 26) : (l.foldl recordPosting e).get k.number = e.get k.number := by
  induction l generalizing e with
  | nil => rfl
  | cons x l ih =>
    have hne : k.number ≠ x.1.number := fun e => h x List.mem_cons_self (EventKind.number_inj e).symm
    rw [List.foldl_cons, ih fun y hy => h y (List.mem_cons_of_mem x hy), recordPosting, Tab.get_modify_other _ _ hne]

/-- A kind that is not among those posted stands as it stood. -/
theorem Tells.notPosted {k : EventKind} (h : Tells A s t) (hk : k ∉ A) : NotPosted k s t := by
  obtain ⟨l, hl, hall⟩ := h
  intro q
  rw [hl q]
  refine get_foldl_recordPosting_other l (fun x hx e => hk ?_) _
  rw [← e]
  exact (hall x hx).1

theorem NotPosted.refl (k : EventKind) (s : State) : NotPosted k s s := fun _ => rfl

theorem NotPosted.trans {k : EventKind} (h : NotPosted k s t) (h' : NotPosted k t u) : NotPosted k s u :=
  fun q => (h' q).trans (h q)

theorem NotPosted.of_frame {blocks : List Block} {k : EventKind} (h : OnlyChanges blocks s t) (he : .events ∉ blocks) :
    NotPosted k s t := fun q => by rw [h .events he q]

theorem posted_post (k : EventKind) (n : Nat) (s : State) : Posted k n s (post k n s) := by
  intro q
  rw [post_port]
  exact Tab.get_modify_same _ _ _

theorem notPosted_post {k k' : EventKind} (h : k' ≠ k) (n : Nat) (s : State) : NotPosted k' s (post k n s) := by
  intro q
  rw [post_port]
  exact Tab.get_modify_other _ _ fun e => h (EventKind.number_inj e)

theorem Posted.trans_notPosted {k : EventKind} {n : Nat} (h : Posted k n s t) (h' : NotPosted k t u) : Posted k n s u :=
  fun q => (h' q).trans (h q)

theorem NotPosted.trans_posted {k : EventKind} {n : Nat} (h : NotPosted k s t) (h' : Posted k n t u) : Posted k n s u :=
  fun q => by rw [h' q, h q]

end tells

/-! ### The shared operations -/

section ops
variable (s : State)

theorem classCode_le (r : Origin) : r.classCode ≤ 255 := by cases r <;> simp [Origin.classCode]

theorem chimeRequest_tells (d : Sound) (n : Nat) (r : Origin) : Tells [.chimeDropped] s (chimeRequest d n r s).1 := by
  unfold chimeRequest
  split
  · split
    · exact .after (post_tells _ (classCode_le _) _) (by decide) <| .quiet (setCu_frame _ _) (by decide) (.refl _ _)
    · exact .of_frame _ (setCu_frame _ _) (by decide)
  · exact .refl _ _

theorem judgeTone_tells (kinds : List EventKind) : Tells kinds s (judgeTone s) := .of_frame _ (judgeTone_frame s) (by decide)

theorem lampUpdate_tells (c : Fin 48 → Lamp → Lamp) : Tells [.chimeDropped] s (lampUpdate c s) := by
  refine .after (judgeTone_tells _ [.chimeDropped]) (by decide) <|
    .after (inSomeOrder_tells _ (fun n _ t => chimeRequest_tells t _ _ _) _) (by decide) ?_
  exact .of_events _ fun q => by rw [State.setLamps_port]

theorem formGaugeAny_tells (l : List (Fin 48)) : Tells [.chimeDropped] s (formGaugeAny l s) := by
  unfold formGaugeAny
  split
  · exact .refl _ _
  · exact lampUpdate_tells s _

theorem fin8_le {l : List (Fin 8)} : ∀ n ∈ l.map (·.val), n ≤ 255 := by
  intro n hn
  obtain ⟨i, _, rfl⟩ := List.mem_map.1 hn
  omega

theorem gaugeSelect_tells (c : Fin 8 → Bool) (f : Channel → Channel) :
    Tells [.gaugeNoSignal, .gaugeSignalRestored] s (gaugeSelect c f s) :=
  .quiet (handSpeed_frame _ _) (by decide) <| .after (postAll_tells _ _ fin8_le _) (by decide) <|
    .after (postAll_tells _ _ fin8_le _) (by decide) <| .quiet (setGe_frame _ _) (by decide) (.refl _ _)

theorem gaugeChange_tells (c : Fin 8 → Bool) (f : Channel → Channel) :
    Tells [.gaugeNoSignal, .gaugeSignalRestored, .chimeDropped] s (gaugeChange c f s) :=
  .after (formGaugeAny_tells _ _) (by decide) <| (gaugeSelect_tells s c f).mono (by decide)

theorem withGaugeUpdate_tells {l : List (Fin 48)} {other : State → State} (h : ∀ s, Tells [.chimeDropped] s (other s)) :
    Tells [.chimeDropped] s (withGaugeUpdate l other s) := by
  have hchoice : Tells [.chimeDropped] s (s.setChoices (s.choices + 1)) := .of_frame _ (setChoices_frame s _) (by decide)
  unfold withGaugeUpdate
  split
  · split
    · exact (hchoice.trans (lampUpdate_tells _ _)).trans (h _)
    · exact (hchoice.trans (h _)).trans (lampUpdate_tells _ _)
  · exact h s

theorem silenceSource_tells {a : Source} {other : State → State} (h : ∀ s, Tells [.chimeDropped] s (other s)) :
    Tells [.gaugeNoSignal, .gaugeSignalRestored, .chimeDropped] s (silenceSource a other s) :=
  .after (withGaugeUpdate_tells _ h) (by decide) <| (gaugeSelect_tells s _ _).mono (by decide)

theorem silencePort_tells (p : Port) :
    Tells [.sourceSilent, .gaugeNoSignal, .gaugeSignalRestored, .chimeDropped] s (silencePort p s) := by
  refine .after (silenceSource_tells _ fun t => lampUpdate_tells t _) (by decide) ?_
  have htold : Tells [.sourceSilent, .gaugeNoSignal, .gaugeSignalRestored, .chimeDropped] s
      (post .sourceSilent (portSource p).code (s.setPort p { s.port p with live := false, timer := none })) :=
    .after (post_tells _ (portSource_code_le p) _) (by decide) <| .quiet (setLive_frame p s _ _) (by decide) (.refl _ _)
  cases p with
  | d => exact htold
  | s => exact .quiet (closeWindow_frame _) (by decide) htold

theorem returnSource_tells (p : Port) : Tells [.sourceRestored, .chimeDropped] s (returnSource p s) := by
  unfold returnSource
  split
  · exact .refl _ _
  · exact .after (lampUpdate_tells _ _) (by decide) <| .after (post_tells _ (portSource_code_le p) _) (by decide) <|
      .quiet (setLive_frame p s _ _) (by decide) (.refl _ _)

theorem beginFrame_tells (p : Port) : Tells [.sourceRestored, .chimeDropped] s (beginFrame p s) :=
  .quiet (restartTimer_frame p _) (by decide) <| .after (returnSource_tells _ p) (by decide) <|
    .quiet (clearFresh_frame p _) (by decide) <| .quiet (shiftOut_frame p _ _) (by decide) (.refl _ _)

end ops

/-! ### The ignition cycle and the inputs -/

section cycle
variable (s : State)

theorem enterPower_tells (w : PowerState) : Tells [.powerState] s (enterPower w s) :=
  .after (post_tells _ (by cases w <;> decide) _) (by decide) <| .quiet (setPwc_frame _ _) (by decide) (.refl _ _)

theorem runEntry_tells : Tells [.powerState, .chimeDropped] s (runEntry s) :=
  .quiet (judgeTone_frame _) (by decide) <| .after (formGaugeAny_tells _ _) (by decide) <|
    .after (enterPower_tells _ _) (by decide) <| .quiet (setPwc_frame _ _) (by decide) (.refl _ _)

theorem parkingDone_tells : Tells [.powerState] s (parkingDone s) :=
  .quiet (quiesce_frame _) (by decide) (enterPower_tells s _)

theorem powerConditions_tells : Tells [.powerState, .chimeDropped] s (powerConditions s) := by
  unfold powerConditions
  split
  · split
    · exact runEntry_tells s
    · exact .refl _ _
  · split
    · exact (parkingDone_tells s).mono (by decide)
    · exact .refl _ _
  all_goals exact .refl _ _

theorem holdInternal_tells : Tells [.holdGranted] s (holdInternal s) :=
  .after (post_tells _ (by decide) _) (by decide) <| .quiet (setLmd_frame _ _) (by decide) (.refl _ _)

theorem dropHold_tells : Tells [.holdEnded] s (dropHold s) := by
  unfold dropHold
  dsimp only
  split
  · exact .after (post_tells _ (by decide) _) (by decide) <| .quiet (setLmd_frame _ _) (by decide) (.refl _ _)
  · exact .of_frame _ (setLmd_frame s _) (by decide)

theorem enterRunCheck_tells : Tells [.powerState, .holdGranted] s (enterRunCheck s) := by
  have hup : Tells [.powerState, .holdGranted] s
      (holdInternal (mapChannels Channel.onRunCheck
        (enterPower .runCheck (s.setPwc { s.pwc with selfCheck := .running Config.selfCheckPeriod })))) :=
    .after (holdInternal_tells _) (by decide) <| .quiet (mapChannels_frame _ _) (by decide) <|
      .after (enterPower_tells _ _) (by decide) <| .quiet (setPwc_frame _ _) (by decide) (.refl _ _)
  unfold enterRunCheck
  split
  · exact .quiet (awaken_frame _) (by decide) hup
  · exact hup

theorem leaveCycle_tells : Tells [.powerState, .holdEnded, .chimeDropped] s (leaveCycle s) := by
  have hoff (w : PowerState) : Tells [.powerState, .holdEnded, .chimeDropped] s
      (silenceChimes (dropHold (darken (enterPower w
        (mapChannels Channel.onIgnitionOff (s.setPwc { s.pwc with selfCheck := .stopped })))))) :=
    .quiet (setCu_frame _ _) (by decide) <| .after (dropHold_tells _) (by decide) <|
      .quiet (setLmd_frame _ _) (by decide) <| .after (enterPower_tells _ _) (by decide) <|
      .quiet (mapChannels_frame _ _) (by decide) <| .quiet (setPwc_frame _ _) (by decide) (.refl _ _)
  unfold leaveCycle
  dsimp only
  split
  · refine .quiet (quiesce_frame _) (by decide) <| .quiet (judgeTone_frame _) (by decide) ?_
    split
    · exact .after (formGaugeAny_tells _ _) (by decide) (hoff _)
    · exact hoff _
  · refine .quiet (judgeTone_frame _) (by decide) ?_
    split
    · exact .after (formGaugeAny_tells _ _) (by decide) (hoff _)
    · exact hoff _

theorem ignitionOn_tells : Tells [.powerState, .holdGranted] s (ignitionOn s) := by
  have hset : Tells [.powerState, .holdGranted] s (s.setPwc { s.pwc with ignition := true }) :=
    .of_frame _ (setPwc_frame s _) (by decide)
  unfold ignitionOn
  split
  · exact hset.trans (enterRunCheck_tells _)
  · exact hset.trans (enterRunCheck_tells _)
  all_goals exact hset

theorem ignitionOff_tells : Tells [.powerState, .holdEnded, .chimeDropped] s (ignitionOff s) := by
  have hset : Tells [.powerState, .holdEnded, .chimeDropped] s (s.setPwc { s.pwc with ignition := false }) :=
    .of_frame _ (setPwc_frame s _) (by decide)
  unfold ignitionOff
  split
  · exact hset.trans (leaveCycle_tells _)
  · exact hset.trans (leaveCycle_tells _)
  all_goals exact hset

theorem handActive_tells (r : InputRecord) :
    Tells [.powerState, .holdGranted, .holdEnded, .chimeDropped] s (handActive r s) := by
  unfold handActive
  split
  · split
    · exact (ignitionOn_tells s).mono (by decide)
    · exact (ignitionOff_tells s).mono (by decide)
  · exact (lampUpdate_tells s _).mono (by decide)
  all_goals exact .refl _ _

theorem edgeTold_tells (i : Fin 12) : Tells [.discreteEdge] s (edgeTold i s) := by
  unfold edgeTold
  dsimp only
  split
  · exact .after (post_tells _ (by omega) _) (by decide) <| .quiet (setInputs_frame _ _) (by decide) (.refl _ _)
  · exact .of_frame _ (setInputs_frame s _) (by decide)

theorem edge_tells (i : Fin 12) :
    Tells [.discreteEdge, .powerState, .holdGranted, .holdEnded, .chimeDropped] s (edge i s) := by
  rw [edge_eq]
  split
  · exact (edgeTold_tells s i).mono (by decide)
  · exact .after (handActive_tells _ _) (by decide) <| (edgeTold_tells s i).mono (by decide)

theorem sampleInputs_tells (mv : Tab Int 12) :
    Tells [.discreteEdge, .powerState, .holdGranted, .holdEnded, .chimeDropped] s (sampleInputs mv s) :=
  .after (inSomeOrder_tells _ (fun i _ t => edge_tells t i) _) (by decide) <|
    .quiet (storeSample_frame s mv) (by decide) (.refl _ _)

theorem applyInput_tells (k : InputConfig) : Tells [.chimeDropped] s (applyInput k s) := by
  unfold applyInput
  dsimp only
  split
  · exact .of_frame _ (setInputs_frame s _) (by decide)
  · exact .after (lampUpdate_tells _ _) (by decide) <| .quiet (setInputs_frame _ _) (by decide) (.refl _ _)

theorem postSignalChange_tells (i : Fin 8) (before after : Channel) :
    Tells [.gaugeNoSignal, .gaugeSignalRestored] s (postSignalChange i before after s) := by
  unfold postSignalChange
  split
  · exact (post_tells _ (by omega) _).mono (by decide)
  · split
    · exact (post_tells _ (by omega) _).mono (by decide)
    · exact .refl _ _

theorem applyChannel_tells (k : ChannelConfig) :
    Tells [.gaugeNoSignal, .gaugeSignalRestored, .chimeDropped, .powerState] s (applyChannel k s) :=
  .after (powerConditions_tells _) (by decide) <| .after (formGaugeAny_tells _ _) (by decide) <|
    .quiet (handSpeed_frame _ _) (by decide) <| .after (postSignalChange_tells _ _ _ _) (by decide) <|
    .quiet (setGe_frame _ _) (by decide) (.refl _ _)

theorem moveAll_tells : Tells [.homingDone] s (moveAll s) :=
  .after (postAll_tells _ _ fin8_le _) (by decide) <| .quiet (mapChannels_frame _ _) (by decide) (.refl _ _)

theorem motionInterval_tells : Tells [.homingDone, .powerState, .chimeDropped] s (motionInterval s) := by
  have hset : Tells [.homingDone, .powerState, .chimeDropped] s (s.setGe { s.ge with motionTime := 0 }) :=
    .of_frame _ (setGe_frame s _) (by decide)
  unfold motionInterval
  dsimp only
  split
  · exact hset
  · exact .after (powerConditions_tells _) (by decide) <| .after (moveAll_tells _) (by decide) hset

theorem selfCheckExpires_tells : Tells [.powerState, .chimeDropped] s (selfCheckExpires s) :=
  .after (powerConditions_tells _) (by decide) <| .quiet (setPwc_frame _ _) (by decide) (.refl _ _)

theorem supplyFalls_tells : Tells [.supplyLow] s (supplyFalls s) := by
  unfold supplyFalls
  split
  · exact .refl _ _
  · exact .after (post_tells _ (by decide) _) (by decide) <| .quiet (setCu_frame _ _) (by decide) <|
      .quiet (mapChannels_frame _ _) (by decide) <| .quiet (setPwc_frame _ _) (by decide) (.refl _ _)

theorem supplyReturns_tells : Tells [.supplyLow] s (supplyReturns s) := by
  unfold supplyReturns
  split
  · exact .after (post_tells _ (by decide) _) (by decide) <| .quiet (setCu_frame _ _) (by decide) <|
      .quiet (setPwc_frame _ _) (by decide) (.refl _ _)
  · exact .refl _ _

theorem measure_tells (mv : Nat) : Tells [.supplyLow] s (measure mv s) := by
  have hstore (n : Nat) : Tells [.supplyLow] s (storeBattery mv n s) := .of_frame _ (storeBattery_frame s mv n) (by decide)
  rw [measure_eq]
  split
  · split
    · exact (hstore _).trans (supplyReturns_tells _)
    · exact (hstore _).trans (supplyFalls_tells _)
  · exact hstore _

end cycle

/-! ### The lamp matrix -/

section matrix
variable (s : State)

theorem grantPortS_tells : Tells [.holdGranted] s (grantPortS s) :=
  .after (post_tells _ (by decide) _) (by decide) <| .quiet (modifyHold_frame _ _) (by decide) (.refl _ _)

theorem requestHold_tells : Tells [.holdGranted] s (requestHold s) := by
  unfold requestHold
  dsimp only
  split
  · exact .refl _ _
  · split
    · exact grantPortS_tells s
    · exact .of_frame _ (modifyHold_frame s _) (by decide)

theorem grantPending_tells : Tells [.holdGranted] s (grantPending s) := by
  unfold grantPending
  split
  · exact grantPortS_tells s
  · exact .refl _ _

theorem endUnheld_tells : Tells [.holdEnded] s (endUnheld s) := by
  unfold endUnheld
  dsimp only
  split
  · exact .after (post_tells _ (by decide) _) (by decide) <| .quiet (modifyHold_frame _ _) (by decide) (.refl _ _)
  · exact .refl _ _

theorem scanFrameStart_tells : Tells [.holdGranted, .holdEnded] s (scanFrameStart s) :=
  .quiet (setLmd_frame _ _) (by decide) <| .quiet (setLmd_frame _ _) (by decide) <|
    .after (endUnheld_tells _) (by decide) <| .after (grantPending_tells _) (by decide) <|
    .quiet (setLmd_frame _ _) (by decide) (.refl _ _)

theorem handFault_tells (n : Fin 48) : Tells [.lampOpen, .lampRestored, .chimeDropped] s (handFault n s) := by
  refine .after (lampUpdate_tells _ _) (by decide) ?_
  refine (post_tells _ (by omega) s).mono ?_
  split <;> decide

theorem readLamp_tells (draws : Tab Bool 8) (n : Fin 48) :
    Tells [.lampOpen, .lampRestored, .chimeDropped] s (readLamp draws n s) := by
  unfold readLamp
  dsimp only
  split
  · exact .of_frame _ (setLmd_frame s _) (by decide)
  · exact .after (handFault_tells _ _) (by decide) <| .quiet (setLmd_frame _ _) (by decide) (.refl _ _)

theorem rowSlotEnd_tells (draws : Tab Bool 8) : Tells [.lampOpen, .lampRestored, .chimeDropped] s (rowSlotEnd draws s) := by
  unfold rowSlotEnd
  split
  · exact .quiet (sensed_frame _ _ _) (by decide) <| .quiet (setLmd_frame _ _) (by decide) <|
      .after (inSomeOrder_tells _ (fun n _ t => readLamp_tells t draws n) _) (by decide) <|
      forEach_tells _ (fun n _ t => readLamp_tells t draws n) s
  · exact .refl _ _

end matrix

/-! ### The recorder link and the drivers -/

section recorder
variable (s : State)

theorem returnLink_tells : Tells [.sourceRestored, .chimeDropped] s (returnLink s) := by
  unfold returnLink
  split
  · exact .refl _ _
  · exact .after (lampUpdate_tells _ _) (by decide) <| .after (post_tells _ (by decide) _) (by decide) <|
      .quiet (setRlu_frame _ _) (by decide) (.refl _ _)

theorem linkTaken_tells : Tells [.sourceRestored, .chimeDropped] s (linkTaken s) :=
  .quiet (setRlu_frame _ _) (by decide) <| .after (returnLink_tells _) (by decide) <|
    .quiet (setRlu_frame _ _) (by decide) (.refl _ _)

theorem loseLink_tells : Tells [.sourceSilent, .gaugeNoSignal, .gaugeSignalRestored, .chimeDropped] s (loseLink s) :=
  .quiet (setAau_frame _ _) (by decide) <| .after (silenceSource_tells _ fun t => lampUpdate_tells t _) (by decide) <|
    .after (post_tells _ (by decide) _) (by decide) <| .quiet (setRlu_frame _ _) (by decide) (.refl _ _)

theorem announceWarn_tells (slot : Slot) (w : WarnState) :
    Tells [.drivePrewarn, .driveLimit, .chimeDropped] s (announceWarn slot w s) := by
  cases w
  · exact .refl _ _
  all_goals exact .after (chimeRequest_tells _ _ _ _) (by decide) <| (post_tells _ (slotNumber_le slot) s).mono (by decide)

theorem formWarn_tells (slot : Slot) : Tells [.drivePrewarn, .driveLimit, .chimeDropped] s (formWarn slot s) := by
  unfold formWarn
  split
  · exact .after (lampUpdate_tells _ _) (by decide) <| .after (announceWarn_tells _ _ _) (by decide) <|
      .quiet (modifyRecord_frame _ _ _) (by decide) (.refl _ _)
  · exact .refl _ _

theorem creditSlot_tells (stamp : Nat) (c : Slot × Activity) :
    Tells [.breakQualified, .drivePrewarn, .driveLimit, .chimeDropped] s (creditSlot stamp c s) := by
  have htold (b : Bool) (r : DriverRecord) : Tells [.breakQualified, .drivePrewarn, .driveLimit, .chimeDropped] s
      (if b then post .breakQualified (slotNumber c.1) (setRecord c.1 r s) else setRecord c.1 r s) := by
    split
    · exact .after (post_tells _ (slotNumber_le _) _) (by decide) <| .quiet (setRecord_frame _ _ _) (by decide) (.refl _ _)
    · exact .of_frame _ (setRecord_frame _ _ _) (by decide)
  refine .quiet (modifyRecord_frame _ _ _) (by decide) ?_
  split
  · exact htold _ _
  · exact .after (formWarn_tells _ _) (by decide) (htold _ _)

theorem slotActivity_tells (c : Slot × ActivityArg) :
    Tells [.activityChange, .cardChange, .chimeDropped] s (slotActivity c s) := by
  have hset (f : DriverRecord → DriverRecord) : Tells [.activityChange, .cardChange, .chimeDropped] s (modifyRecord c.1 f s) :=
    .of_frame _ (modifyRecord_frame s c.1 f) (by decide)
  unfold slotActivity
  dsimp only
  split
  · split
    · split
      · split
        · exact .after (post_tells _ (slotNumber_le _) _) (by decide) (hset _)
        · exact hset _
      · exact .after (lampUpdate_tells _ _) (by decide) <| .after (post_tells _ (slotNumber_le _) _) (by decide) (hset _)
    · exact .after (lampUpdate_tells _ _) (by decide) <| .after (post_tells _ (slotNumber_le _) _) (by decide) (hset _)
  · exact .refl _ _

theorem adopt_tells (slot : Slot) (arg : SummaryArg) (k : SummaryCase) :
    Tells [.recorderInconsistent, .breakQualified, .summaryAdopted, .drivePrewarn, .driveLimit, .chimeDropped] s
      (adopt slot arg k s) := by
  have hpost (b : Bool) (kind : EventKind) (t : State) : Tells [kind] t (if b then post kind (slotNumber slot) t else t) := by
    split
    · exact post_tells _ (slotNumber_le slot) _
    · exact .refl _ _
  refine .quiet (modifyRecord_frame _ _ _) (by decide) <| .after (post_tells _ (slotNumber_le slot) _) (by decide) <|
    .after (formWarn_tells _ _) (by decide) ?_
  have hplaced (r : DriverRecord) (b : Bool) := Tells.quiet (setRecord_frame _ slot r) (by decide)
    ((hpost b .recorderInconsistent s).mono (B := [.recorderInconsistent, .breakQualified, .summaryAdopted, .drivePrewarn,
      .driveLimit, .chimeDropped]) (by decide))
  have htaken := hplaced ((((s.aau.record slot).takeSummary arg).confirm (minuteStamp s.cc.now)).settleMinute k)
    (decide (((s.aau.record slot).takeSummary arg).daily < ((s.aau.record slot).takeSummary arg).continuous))
  simp only [decide_eq_true_eq] at htaken
  split
  · exact .after (hpost _ _ _) (by decide) htaken
  · exact htaken

theorem slotSummary_tells (c : Slot × SummaryArg) :
    Tells [.summaryStale, .recorderInconsistent, .breakQualified, .summaryAdopted, .drivePrewarn, .driveLimit,
      .chimeDropped] s (slotSummary c s) := by
  unfold slotSummary
  dsimp only
  split
  · split
    · exact (post_tells _ (slotNumber_le _) s).mono (by decide)
    · exact (adopt_tells s _ _ _).mono (by decide)
  · exact .refl _ _

theorem rewarn_tells (slot : Slot) : Tells [.drivePrewarn, .driveLimit, .chimeDropped] s (rewarn slot s) := by
  unfold rewarn
  split
  · exact .quiet (modifyRecord_frame _ _ _) (by decide) (formWarn_tells s slot)
  · exact .refl _ _

theorem setLead_tells (n : Nat) : Tells [.drivePrewarn, .driveLimit, .chimeDropped] s (setLead n s) :=
  .after (inSomeOrder_tells _ (fun slot _ t => rewarn_tells t slot) _) (by decide) <|
    .quiet (setAau_frame _ _) (by decide) (.refl _ _)

theorem loadClock_tells (t : DateTime) (b : Bool) : Tells [.timeStep] s (loadClock t b s) := by
  unfold loadClock
  dsimp only
  split
  · exact .after (post_tells _ (by cases b <;> decide) _) (by decide) <| .quiet (setAau_frame _ _) (by decide) <|
      .quiet (setCc_frame _ _) (by decide) (.refl _ _)
  · exact .quiet (setAau_frame _ _) (by decide) <| .quiet (setCc_frame _ _) (by decide) (.refl _ _)

end recorder

end Sys2Proof.Machine
end

section
/-! CERTIFICATE. The event tables under every step: an operation posts with an argument of one byte, removes an occurrence, or
gives a kind a level it may take, and each leaves the tables sound. -/
namespace Sys2Proof.Machine

/-! ### One record, one table -/

theorem EventRecord.sound_iff (r : EventRecord) : r.sound = true ↔
    r.level ≤ 3 ∧ r.count ≤ 255 ∧ r.argument ≤ 255 ∧ (r.level = 0 → r.count = 0) ∧ (r.count = 0 → r.argument = 0) := by
  simp [EventRecord.sound, and_assoc, Decidable.imp_iff_not_or]

theorem EventRecord.sound_posted {r : EventRecord} {n : Nat} (h : r.sound = true) (hn : n ≤ 255) :
    (r.posted n).sound = true := by
  rw [sound_iff] at h ⊢
  unfold posted
  split
  · exact h
  · next hlevel => exact ⟨h.1, Nat.min_le_left _ _, hn, fun e => absurd e hlevel, fun e => by simp at e⟩

@[simp] theorem EventRecord.posted_level (r : EventRecord) (n : Nat) : (r.posted n).level = r.level := by
  unfold posted
  split <;> rfl

theorem EventRecord.sound_removed {r : EventRecord} (h : r.sound = true) : r.removed.sound = true := by
  rw [sound_iff] at h ⊢
  simp [removed, h.1]

theorem EventRecord.sound_withLevel {r : EventRecord} {n : Nat} (h : r.sound = true) (hn : n ≤ 3) :
    (r.withLevel n).sound = true := by
  rw [sound_iff] at h
  unfold withLevel
  split
  · simp [sound_iff, hn]
  · next hlevel =>
    obtain ⟨-, hcount, hargument, -, hrest⟩ := h
    exact (sound_iff _).2 ⟨hn, hcount, hargument, fun e => absurd e hlevel, hrest⟩

/-- R179, R181: a port's table is sound, with the levels fixed at 3 that the port may not set. -/
def TableSound (p : Port) (e : Tab EventRecord 26) : Prop :=
  ∀ k, (e.get k).sound = true ∧ (levelFixed p k = true → (e.get k).level = 3)

section table
variable {p : Port} {e : Tab EventRecord 26}

/-- A change of one record keeps the table sound that keeps the record sound, and its level where the level is fixed. -/
theorem TableSound.modify (h : TableSound p e) {k : Fin 26} {f : EventRecord → EventRecord}
    (hf : ∀ r : EventRecord, r.sound = true → (f r).sound = true)
    (hlevel : levelFixed p k = true → ∀ r : EventRecord, (f r).level = r.level) : TableSound p (e.modify k f) := by
  intro j
  rw [Tab.get_modify]
  split
  · next hj =>
    subst hj
    exact ⟨hf _ (h j).1, fun hfix => (hlevel hfix _).trans ((h j).2 hfix)⟩
  · exact h j

theorem TableSound.recordPosting (h : TableSound p e) {x : EventKind × Nat} (hx : x.2 ≤ 255) :
    TableSound p (recordPosting e x) :=
  h.modify (fun _ hr => EventRecord.sound_posted hr hx) fun _ r => r.posted_level x.2

theorem TableSound.postings (h : TableSound p e) {l : List (EventKind × Nat)} (hl : ∀ x ∈ l, x.2 ≤ 255) :
    TableSound p (l.foldl Machine.recordPosting e) := by
  induction l generalizing e with
  | nil => exact h
  | cons x l ih =>
    exact ih (h.recordPosting (hl x List.mem_cons_self)) fun y hy => hl y (List.mem_cons_of_mem x hy)

end table

/-! ### The tables of a state -/

/-- Both event tables sound, and nothing pending in a reset. -/
def EventsSound (s : State) : Prop :=
  (∀ p, TableSound p (s.port p).events) ∧ (isOut s = false → ∀ p k, ((s.port p).events.get k).count = 0)

theorem kindsPending_eq_zero_iff (e : Tab EventRecord 26) : kindsPending e = 0 ↔ ∀ k, (e.get k).count = 0 := by
  simp only [kindsPending, List.length_eq_zero_iff, List.filter_eq_nil_iff, EventRecord.isPending, decide_eq_true_eq,
    ne_eq, not_not, Tab.mem_val_iff, forall_exists_index, forall_apply_eq_imp_iff]

theorem Port.forall_iff {P : Port → Prop} : (∀ p, P p) ↔ P .d ∧ P .s :=
  ⟨fun h => ⟨h .d, h .s⟩, fun h p => by cases p; exacts [h.1, h.2]⟩

theorem eventsSound_iff (s : State) : s.eventsSound = true ↔ EventsSound s := by
  simp only [State.eventsSound, EventsSound, TableSound, Port.forall_iff, Bool.and_eq_true, Bool.or_eq_true, Bool.not_eq_true',
    decide_eq_true_eq, Tab.all_iff, List.all_eq_true, List.mem_finRange, true_imp_iff, levelFixed, kindsPending_eq_zero_iff,
    State.port, forall_and]
  cases isOut s <;> simp [and_assoc, Decidable.imp_iff_not_or]

theorem eventsSound_readsOnly : ReadsOnly [.events, .reset] EventsSound := by
  intro s t hsame hs
  have hevents := hsame .events (by simp)
  have hreset : t.rst = s.rst := hsame .reset (by simp)
  have hout : isOut t = isOut s := by simp [isOut, hreset]
  exact ⟨fun p => by rw [hevents p]; exact hs.1 p, fun h p k => by rw [hevents p]; exact hs.2 (hout ▸ h) p k⟩

section changes
variable {s t : State}

theorem EventsSound.tables_of_tells {kinds : List EventKind} (hs : ∀ p, TableSound p (s.port p).events)
    (h : Tells kinds s t) (p : Port) : TableSound p (t.port p).events := by
  obtain ⟨l, hl, hall⟩ := h
  rw [hl p]
  exact (hs p).postings fun x hx => (hall x hx).2

/-- Postings out of reset keep the tables sound. -/
theorem EventsSound.of_tells {kinds : List EventKind} (hs : EventsSound s) (hout : isOut t = true) (h : Tells kinds s t) :
    EventsSound t :=
  ⟨EventsSound.tables_of_tells hs.1 h, fun hin => by rw [hout] at hin; cases hin⟩

theorem modifyEvents_port (p q : Port) (f : Tab EventRecord 26 → Tab EventRecord 26) (s : State) :
    ((modifyEvents p f s).port q).events = if q = p then f (s.port q).events else (s.port q).events := by
  cases p <;> cases q <;> rfl

/-- A change of one record out of reset, under the conditions of `TableSound.modify`. -/
theorem EventsSound.modify (hs : EventsSound s) (hout : isOut s = true) {p : Port} {k : Fin 26} {f : EventRecord → EventRecord}
    (hf : ∀ r : EventRecord, r.sound = true → (f r).sound = true)
    (hlevel : levelFixed p k = true → ∀ r : EventRecord, (f r).level = r.level) :
    EventsSound (modifyEvents p (fun e => e.modify k f) s) := by
  have hout' : isOut (modifyEvents p (fun e => e.modify k f) s) = true := by cases p <;> exact hout
  refine ⟨fun q => ?_, fun hin => by rw [hout'] at hin; cases hin⟩
  rw [modifyEvents_port]
  split
  · next h => subst h; exact (hs.1 q).modify hf hlevel
  · exact hs.1 q

/-- R179, R190: the tables held in a reset are sound and hold nothing. -/
theorem eventsSound_of_reset (h : ∀ p, (t.port p).events = (PortUnit.reset p).events) : EventsSound t := by
  have hrecord (p : Port) (k : Fin 26) :
      (t.port p).events.get k = { level := defaultLevel p k, count := 0, argument := 0 } := by
    rw [h p]
    exact Tab.get_ofFn _ k
  have hlevel (p : Port) (k : Fin 26) : defaultLevel p k ≤ 3 ∧ (levelFixed p k = true → defaultLevel p k = 3) := by
    cases p
    · exact ⟨by unfold defaultLevel; dsimp only; split <;> omega, fun e => by simp [levelFixed] at e⟩
    · simp only [defaultLevel, levelFixed]
      split <;> simp_all
  refine ⟨fun p k => ?_, fun _ p k => by rw [hrecord]⟩
  rw [hrecord]
  exact ⟨(EventRecord.sound_iff _).2 ⟨(hlevel p k).1, by simp⟩, (hlevel p k).2⟩

end changes

theorem comeOut_tells (s : State) :
    Tells [.resetReport, .clockFault] (s.setRst { s.rst with progress := .out, clockFaults := 0 }) (comeOut s) :=
  .quiet (txDue_frame _ _) (by decide) <|
    .after (forEach_tells _ (fun _ _ t => post_tells .clockFault (by decide) t) _) (by decide) <|
    (post_tells .resetReport (by cases reportedCause s.rst <;> decide) _).mono (by decide)

theorem isOut_comeOut (s : State) : isOut (comeOut s) = true := by
  have hrst : (comeOut s).rst = _ := comeOut_frame_out s .reset (by decide)
  simp [isOut, hrst]

theorem ResetProgress.pass_eq_out_iff (p : ResetProgress) : p.pass = .out ↔ p = .out := by cases p <;> simp [pass]

theorem isOut_tick (s : State) : isOut (tick s) = isOut s := by
  cases h : isOut s
  · have hrst : (tick s).rst = (passHeld s).rst := tick_frame_held h .reset (by decide)
    simpa [isOut, hrst, passHeld, ResetProgress.pass_eq_out_iff] using h
  · have hrst : (tick s).rst = s.rst := tick_frame_out h .reset (by decide)
    rw [isOut, hrst, ← isOut, h]

/-- R180 to R182: every operation keeps the event tables sound. -/
theorem eventsSound_kept : Kept EventsSound where
  act {W s t} hout a hs := by
    have hout' : isOut t = true := a.isOut_eq.trans hout
    by_cases hw : ∀ b ∈ [Block.events, .reset], b ∉ W
    · exact eventsSound_readsOnly.keeps a.frame hw hs
    · cases a <;> simp at hw
      case begin p => exact hs.of_tells hout' (beginFrame_tells s p)
      case post k n hn => exact hs.of_tells hout' (post_tells k hn s)
      case postAt p k n hn =>
        exact hs.modify (s := s) hout (fun _ hr => EventRecord.sound_posted hr hn) fun _ r => r.posted_level n
      case removeEvent p k => exact hs.modify hout (fun _ hr => EventRecord.sound_removed hr) fun _ r => rfl
      case setLevel p k n hn hfree =>
        exact hs.modify hout (fun _ hr => EventRecord.sound_withLevel hr hn) fun hfix => by simp [hfree] at hfix
      case silencePort p => exact hs.of_tells hout' (silencePort_tells s p)
      case deliver => exact hs.of_tells hout' (gaugeChange_tells s _ _)
      case applyChannel => exact hs.of_tells hout' (applyChannel_tells s _)
      case motionInterval => exact hs.of_tells hout' (motionInterval_tells s)
      case writeLamps => exact hs.of_tells hout' (lampUpdate_tells s _)
      case configureLamp => exact hs.of_tells hout' (lampUpdate_tells s _)
      case handRecorder => exact hs.of_tells hout' (lampUpdate_tells s _)
      case requestHold => exact hs.of_tells hout' (requestHold_tells s)
      case scanFrameStart => exact hs.of_tells hout' (scanFrameStart_tells s)
      case rowSlotEnd draws => exact hs.of_tells hout' (rowSlotEnd_tells s draws)
      case chime d n r hn => exact hs.of_tells hout' (chimeRequest_tells s d n r)
      case loadClock b _ _ => exact hs.of_tells hout' (loadClock_tells s _ b)
      case creditSlot stamp c => exact hs.of_tells hout' (creditSlot_tells s stamp c)
      case slotActivity c => exact hs.of_tells hout' (slotActivity_tells s c)
      case slotSummary c => exact hs.of_tells hout' (slotSummary_tells s c)
      case setLead => exact hs.of_tells hout' (setLead_tells s _)
      case linkTaken => exact hs.of_tells hout' (linkTaken_tells s)
      case loseLink => exact hs.of_tells hout' (loseLink_tells s)
      case applyInput => exact hs.of_tells hout' (applyInput_tells s _)
      case edge i => exact hs.of_tells hout' (edge_tells s i)
      case sampleInputs mv => exact hs.of_tells hout' (sampleInputs_tells s mv)
      case selfCheckExpires => exact hs.of_tells hout' (selfCheckExpires_tells s)
      case supplyFalls => exact hs.of_tells hout' (supplyFalls_tells s)
      case supplyReturns => exact hs.of_tells hout' (supplyReturns_tells s)
      case measure mv => exact hs.of_tells hout' (measure_tells s mv)
  always {W s t} a hs := by
    by_cases hw : ∀ b ∈ [Block.events, .reset], b ∉ W
    · exact eventsSound_readsOnly.keeps a.frame hw hs
    · cases a <;> simp at hw
      case countFault h => exact ⟨hs.1, fun _ => hs.2 h⟩
      case beginCause c => exact eventsSound_of_reset fun p => by cases p <;> rfl
      case commandReset => exact eventsSound_of_reset fun p => by cases p <;> rfl
      case startHold h => exact ⟨hs.1, fun _ => hs.2 h⟩
      case comeOut h =>
        have hset : OnlyChanges [.reset] s (s.setRst { s.rst with progress := .out, clockFaults := 0 }) := setRst_frame s _
        have htables := EventsSound.tables_of_tells
          (fun p => by rw [hset .events (by decide) p]; exact hs.1 p) (comeOut_tells s)
        exact ⟨htables, fun hin => by rw [isOut_comeOut] at hin; cases hin⟩
      case tick =>
        have hevents := (tick_frame s) .events (by decide)
        refine ⟨fun p => by rw [hevents p]; exact hs.1 p, fun hin p k => ?_⟩
        rw [hevents p]
        exact hs.2 (isOut_tick s ▸ hin) p k

end Sys2Proof.Machine
end

section
/-! SUPPORT. The passages of the ignition cycle (chapter 11): where each of them leads the power state, the channels, the timers
and the recorder link; and what it takes for a property to be kept by every one of them. -/
namespace Sys2Proof.Machine

/-! ### Which passage is taken -/

section conditions
variable {s : State}

theorem powerConditions_runCheck (h : s.pwc.state = .runCheck) (ht : s.pwc.selfCheck = .runOut) (hc : checkComplete s.ge = true) :
    powerConditions s = runEntry s := by simp [powerConditions, h, ht, hc]

theorem powerConditions_parking (h : s.pwc.state = .parking) (hc : parkingComplete s.ge = true) :
    powerConditions s = parkingDone s := by simp [powerConditions, h, hc]

theorem powerConditions_otherwise
    (hrun : ¬(s.pwc.state = .runCheck ∧ s.pwc.selfCheck = .runOut ∧ checkComplete s.ge = true))
    (hpark : ¬(s.pwc.state = .parking ∧ parkingComplete s.ge = true)) : powerConditions s = s := by
  unfold powerConditions
  split <;> simp_all

theorem not_inCycle_iff : inCycle s = false ↔ s.pwc.state = .standby ∨ s.pwc.state = .parking := by
  unfold inCycle
  cases s.pwc.state <;> simp

theorem inCycle_iff : inCycle s = true ↔ s.pwc.state = .runCheck ∨ s.pwc.state = .run := by
  unfold inCycle
  cases s.pwc.state <;> simp

theorem ignitionOn_off (h : inCycle s = false) :
    ignitionOn s = enterRunCheck (s.setPwc { s.pwc with ignition := true }) := by
  unfold ignitionOn
  rcases not_inCycle_iff.1 h with h | h <;> simp [h]

theorem ignitionOn_cycle (h : inCycle s = true) : ignitionOn s = s.setPwc { s.pwc with ignition := true } := by
  unfold ignitionOn
  rcases inCycle_iff.1 h with h | h <;> simp [h]

theorem ignitionOff_cycle (h : inCycle s = true) :
    ignitionOff s = leaveCycle (s.setPwc { s.pwc with ignition := false }) := by
  unfold ignitionOff
  rcases inCycle_iff.1 h with h | h <;> simp [h]

theorem ignitionOff_off (h : inCycle s = false) : ignitionOff s = s.setPwc { s.pwc with ignition := false } := by
  unfold ignitionOff
  rcases not_inCycle_iff.1 h with h | h <;> simp [h]

end conditions

/-! ### Where a passage leads -/

section passages
variable (s : State)

@[simp] theorem runEntry_pwc : (runEntry s).pwc = { s.pwc with selfCheck := .stopped, state := .run } := by
  simp [runEntry, enterPower]

@[simp] theorem parkingDone_pwc : (parkingDone s).pwc = { s.pwc with state := .standby } := by
  simp [parkingDone, enterPower]

@[simp] theorem enterRunCheck_pwc :
    (enterRunCheck s).pwc = { s.pwc with selfCheck := .running Config.selfCheckPeriod, state := .runCheck } := by
  unfold enterRunCheck
  dsimp only
  split <;> simp [enterPower]

/-- R187: the power state that is entered as the ignition goes off. -/
def offTarget : PowerState := offState (mapChannels Channel.onIgnitionOff s).ge

@[simp] theorem leaveCycle_pwc : (leaveCycle s).pwc = { s.pwc with selfCheck := .stopped, state := offTarget s } := by
  unfold leaveCycle
  dsimp only
  split <;> split <;> simp [enterPower] <;> rfl

theorem offTarget_eq : offTarget s = .parking ∨ offTarget s = .standby := by
  unfold offTarget offState
  split <;> simp

@[simp] theorem inCycle_runEntry : inCycle (runEntry s) = true := by simp [inCycle]
@[simp] theorem inCycle_parkingDone : inCycle (parkingDone s) = false := by simp [inCycle]
@[simp] theorem inCycle_enterRunCheck : inCycle (enterRunCheck s) = true := by simp [inCycle]
@[simp] theorem inCycle_leaveCycle : inCycle (leaveCycle s) = false := by
  rcases offTarget_eq s with h | h <;> simp [inCycle, h]

@[simp] theorem mapChannels_channels (f : Channel → Channel) :
    (mapChannels f s).ge.channels = s.ge.channels.map f := rfl

@[simp] theorem enterRunCheck_channels : (enterRunCheck s).ge.channels = s.ge.channels.map Channel.onRunCheck := by
  unfold enterRunCheck
  dsimp only
  split <;> simp

@[simp] theorem leaveCycle_channels : (leaveCycle s).ge.channels = s.ge.channels.map Channel.onIgnitionOff := by
  unfold leaveCycle
  dsimp only
  split <;> split <;> simp

end passages

/-! ### The parts of the two passages of the ignition -/

/-- R185: RUN_CHECK entered, but for what an entry from STANDBY brings besides. -/
def cycleBegun (s : State) : State :=
  holdInternal (mapChannels Channel.onRunCheck
    (enterPower .runCheck (s.setPwc { s.pwc with selfCheck := .running Config.selfCheckPeriod })))

/-- R187: the channels have acted on the ignition going off, the power state is left, and matrix, hold and chimes have stopped. -/
def cycleStopped (s : State) : State :=
  silenceChimes (dropHold (darken (enterPower (offTarget s)
    (mapChannels Channel.onIgnitionOff (s.setPwc { s.pwc with selfCheck := .stopped })))))

/-- R187: the cycle left, but for what an entry to STANDBY brings besides. -/
def cycleLeft (s : State) : State :=
  judgeTone (if s.pwc.state = .run then formAllGauge (cycleStopped s) else cycleStopped s)

section parts
variable (s : State)

theorem enterRunCheck_eq : enterRunCheck s = if s.pwc.state = .standby then awaken (cycleBegun s) else cycleBegun s := rfl

theorem leaveCycle_eq : leaveCycle s = if offTarget s = .standby then quiesce (cycleLeft s) else cycleLeft s := rfl

theorem cycleBegun_frame : OnlyChanges [.power, .gauges, .events, .matrix] s (cycleBegun s) :=
  .after (holdInternal_frame _) (by decide) <| .after (mapChannels_frame _ _) (by decide) <|
    .after (enterPower_frame _ _) (by decide) <| .after (setPwc_frame _ _) (by decide) (.refl _ _)

theorem cycleStopped_frame : OnlyChanges [.power, .gauges, .events, .matrix, .chimes] s (cycleStopped s) :=
  .after (setCu_frame _ _) (by decide) <| .after (dropHold_frame _) (by decide) <|
    .after (setLmd_frame _ _) (by decide) <| .after (enterPower_frame _ _) (by decide) <|
    .after (mapChannels_frame _ _) (by decide) <| .after (setPwc_frame _ _) (by decide) (.refl _ _)

theorem cycleLeft_frame : OnlyChanges [.power, .gauges, .events, .matrix, .chimes, .lamps] s (cycleLeft s) := by
  refine .after (judgeTone_frame _) (by decide) ?_
  split
  · exact .after (formGaugeAny_frame _ _) (by decide) ((cycleStopped_frame s).mono (by decide))
  · exact (cycleStopped_frame s).mono (by decide)

end parts

/-! ### The timers and the recorder link in a passage -/

section timers
variable (s : State)

theorem txDue_keeps (k : TxKind) : (txDue k s).rlu.live = s.rlu.live ∧ (txDue k s).rlu.timer = s.rlu.timer ∧
    (txDue k s).rlu.cadence = s.rlu.cadence := by
  unfold txDue
  split <;> exact ⟨rfl, rfl, rfl⟩

/-- R128: once a frame has fallen due the transmitter sends. -/
theorem txDue_sending (k : TxKind) : (txDue k s).rlu.sending.isSome = true := by
  unfold txDue
  split
  · rfl
  · next h => simpa [Option.isSome_iff_ne_none] using h

end timers

/-! ### What comes before the conditions of the Gauge Engine are acted on -/

/-- R22: a channel as a SET_CHANNEL leaves it. -/
def configured (k : ChannelConfig) (s : State) : Channel :=
  ((s.ge.channels.get k.channel).configure (inCycle s) k).reselect (sourceLive s)

/-- R22: the configured channel in its place, with its signal change posted and the vehicle speed handed on. -/
def channelTold (k : ChannelConfig) (s : State) : State :=
  handSpeed (vehicleSpeed s) (postSignalChange k.channel (s.ge.channels.get k.channel) (configured k s)
    (s.setGe { s.ge with channels := s.ge.channels.set k.channel (configured k s) }))

/-- R22: the same, with the gauge contributions formed again. -/
def channelShown (k : ChannelConfig) (s : State) : State :=
  formGaugeAny (configLamps (s.ge.channels.get k.channel) (configured k s)) (channelTold k s)

/-- R26, R35: the channels moved on, before the conditions are acted on. -/
def movedOn (s : State) : State := moveAll (s.setGe { s.ge with motionTime := 0 })

section before
variable (k : ChannelConfig) (s : State)

theorem applyChannel_eq : applyChannel k s = powerConditions (channelShown k s) := rfl

theorem motionInterval_eq :
    motionInterval s = if s.pwc.supplyLow then s.setGe { s.ge with motionTime := 0 } else powerConditions (movedOn s) := rfl

theorem channelTold_frame : OnlyChanges [.gauges, .window, .chimes, .events] s (channelTold k s) :=
  .after (handSpeed_frame _ _) (by decide) <| .after (postSignalChange_frame _ _ _ _) (by decide) <|
    .after (setGe_frame _ _) (by decide) (.refl _ _)

theorem channelShown_frame : OnlyChanges [.gauges, .window, .lamps, .chimes, .events] s (channelShown k s) :=
  .after (formGaugeAny_frame _ _) (by decide) ((channelTold_frame k s).mono (by decide))

theorem movedOn_frame : OnlyChanges [.gauges, .events] s (movedOn s) :=
  .after (moveAll_frame _) (by decide) ((setGe_frame s _).mono (by decide))

end before

/-! ### Properties that every passage keeps -/

/-- A property is kept by the four passages, each under the conditions it is taken under. -/
structure PassagesKeep (P : State → Prop) : Prop where
  flag : ∀ (s : State) (b : Bool), P s → P (s.setPwc { s.pwc with ignition := b })
  runEntry : ∀ s : State, s.pwc.state = .runCheck → P s → P (runEntry s)
  parkingDone : ∀ s : State, s.pwc.state = .parking → P s → P (parkingDone s)
  enterRunCheck : ∀ s : State, inCycle s = false → P s → P (enterRunCheck s)
  leaveCycle : ∀ s : State, inCycle s = true → P s → P (leaveCycle s)

section keep
variable {P : State → Prop} {s : State}

theorem PassagesKeep.powerConditions (hP : PassagesKeep P) (hs : P s) : P (powerConditions s) := by
  by_cases hrun : s.pwc.state = .runCheck ∧ s.pwc.selfCheck = .runOut ∧ checkComplete s.ge = true
  · rw [powerConditions_runCheck hrun.1 hrun.2.1 hrun.2.2]
    exact hP.runEntry s hrun.1 hs
  · by_cases hpark : s.pwc.state = .parking ∧ parkingComplete s.ge = true
    · rw [powerConditions_parking hpark.1 hpark.2]
      exact hP.parkingDone s hpark.1 hs
    · rwa [powerConditions_otherwise hrun hpark]

theorem PassagesKeep.ignitionOn (hP : PassagesKeep P) (hs : P s) : P (ignitionOn s) := by
  cases h : inCycle s
  · rw [ignitionOn_off h]
    exact hP.enterRunCheck _ h (hP.flag s true hs)
  · rw [ignitionOn_cycle h]
    exact hP.flag s true hs

theorem PassagesKeep.ignitionOff (hP : PassagesKeep P) (hs : P s) : P (ignitionOff s) := by
  cases h : inCycle s
  · rw [ignitionOff_off h]
    exact hP.flag s false hs
  · rw [ignitionOff_cycle h]
    exact hP.leaveCycle _ h (hP.flag s false hs)

/-- R158 to R162: an edge, where the lamps' own update of a LAMP input keeps the property too. -/
theorem PassagesKeep.edge (hP : PassagesKeep P) (htold : ∀ (i : Fin 12) (s : State), P s → P (edgeTold i s))
    (hform : ∀ (l : List (Fin 48)) (s : State), P s → P (formInputs l s)) (i : Fin 12) (hs : P s) : P (edge i s) := by
  rw [edge_eq]
  split
  · exact htold i s hs
  · unfold handActive
    split
    · split
      · exact hP.ignitionOn (htold i s hs)
      · exact hP.ignitionOff (htold i s hs)
    · exact hform _ _ (htold i s hs)
    · exact htold i s hs
    · exact htold i s hs

/-- R157, R158: a sample, where storing it and each edge it makes keep the property. -/
theorem sampleInputs_keeps (hchoose : ∀ (n : Nat) (s : State), P s → P (s.setChoices n))
    (hstore : ∀ (mv : Tab Int 12) (s : State), P s → P (storeSample mv s)) (hedge : ∀ (i : Fin 12) (s : State), P s → P (edge i s))
    (mv : Tab Int 12) (hs : P s) : P (sampleInputs mv s) := by
  rw [sampleInputs_eq]
  exact inSomeOrder_preserves P _ (fun s n => hchoose n s) (forEach_preserves P _ hedge) _ _ (hstore mv s hs)

end keep

end Sys2Proof.Machine
end

section
/-! CERTIFICATE. The supervision timers under every step: outside STANDBY a port's timer runs exactly while its source is LIVE, in
STANDBY none runs, and the recorder link's timer runs exactly while the link is LIVE. -/
namespace Sys2Proof.Machine

/-- R174: the longest supervision period of a port, in 10 ms. -/
def longestPeriod : Port → Nat
  | .d => 200
  | .s => 100

/-- R171, R173, R118, R127, R128: the timers as they stand while the part is awake, outside STANDBY, and while it is not. -/
structure TimersStand (awake : Bool) (s : State) : Prop where
  port : ∀ p, (s.port p).timer.isSome = ((s.port p).live && awake)
  link : s.rlu.timer.isSome = s.rlu.live
  cadence : s.rlu.cadence.isSome = awake
  sending : s.rlu.waiting = [] ∨ s.rlu.sending.isSome = true
  period : ∀ p, 5 ≤ (s.port p).period ∧ (s.port p).period ≤ longestPeriod p

/-- Outside STANDBY. -/
def isAwake (s : State) : Bool := s.pwc.state ≠ .standby

theorem isAwake_iff (s : State) : isAwake s = true ↔ s.pwc.state ≠ .standby := by simp [isAwake]

theorem timersSound_iff (s : State) : s.timersSound = true ↔ TimersStand (isAwake s) s := by
  constructor
  · intro h
    simp only [State.timersSound, Bool.and_eq_true, decide_eq_true_eq, Bool.or_eq_true] at h
    obtain ⟨⟨⟨⟨⟨⟨⟨⟨hd, hs⟩, hlink⟩, hcadence⟩, hsending⟩, hd5⟩, hd200⟩, hs5⟩, hs100⟩ := h
    exact ⟨Port.forall_iff.2 ⟨hd, hs⟩, hlink, Bool.eq_iff_iff.2 ((Iff.of_eq hcadence).trans (isAwake_iff s).symm), hsending, Port.forall_iff.2 ⟨⟨hd5, hd200⟩, hs5, hs100⟩⟩
  · rintro ⟨hport, hlink, hcadence, hsending, hperiod⟩
    simp only [State.timersSound, Bool.and_eq_true, decide_eq_true_eq, Bool.or_eq_true]
    exact ⟨⟨⟨⟨⟨⟨⟨⟨hport .d, hport .s⟩, hlink⟩, propext ((Bool.eq_iff_iff.1 hcadence).trans (isAwake_iff s))⟩, hsending⟩, (hperiod .d).1⟩, (hperiod .d).2⟩, (hperiod .s).1⟩,
      (hperiod .s).2⟩

theorem timersStand_readsOnly (a : Bool) : ReadsOnly [.ports, .recorder] (TimersStand a) := by
  intro s t hsame hs
  have hports := hsame .ports (by simp)
  have hrlu : t.rlu = s.rlu := hsame .recorder (by simp)
  refine ⟨fun p => ?_, ?_, ?_, ?_, fun p => ?_⟩
  · rw [(hports p).1, (hports p).2.1]; exact hs.port p
  · rw [hrlu]; exact hs.link
  · rw [hrlu]; exact hs.cadence
  · rw [hrlu]; exact hs.sending
  · rw [(hports p).2.2.1]; exact hs.period p

section changes
variable {a : Bool} {s t : State}

/-- The same timers, sources, cadence and transmitter. -/
theorem TimersStand.of_same (hs : TimersStand a s)
    (hport : ∀ p, (t.port p).timer = (s.port p).timer ∧ (t.port p).live = (s.port p).live ∧
      (t.port p).period = (s.port p).period)
    (hrlu : t.rlu.timer = s.rlu.timer ∧ t.rlu.live = s.rlu.live ∧ t.rlu.cadence = s.rlu.cadence ∧
      t.rlu.sending = s.rlu.sending ∧ t.rlu.waiting = s.rlu.waiting) : TimersStand a t := by
  obtain ⟨htimer, hlive, hcadence, hsending, hwaiting⟩ := hrlu
  refine ⟨fun p => ?_, ?_, ?_, ?_, fun p => ?_⟩
  · rw [(hport p).1, (hport p).2.1]; exact hs.port p
  · rw [htimer, hlive]; exact hs.link
  · rw [hcadence]; exact hs.cadence
  · rw [hsending, hwaiting]; exact hs.sending
  · rw [(hport p).2.2]; exact hs.period p

/-- An operation on other blocks leaves the timers. -/
theorem TimersStand.frame {blocks : List Block} (hs : TimersStand a s) (h : OnlyChanges blocks s t)
    (hdisj : ∀ b ∈ [Block.ports, .recorder], b ∉ blocks) : TimersStand a t := (timersStand_readsOnly a).keeps h hdisj hs

theorem TimersStand.cast {b : Bool} (hs : TimersStand a s) (h : a = b) : TimersStand b s := h ▸ hs

/-- The unit of one port replaced by one whose timer agrees with its source. -/
theorem TimersStand.setPort (hs : TimersStand a s) {p : Port} {u : PortUnit} (htimer : u.timer.isSome = (u.live && a))
    (hperiod : 5 ≤ u.period ∧ u.period ≤ longestPeriod p) : TimersStand a (s.setPort p u) := by
  refine ⟨fun q => ?_, ?_, ?_, ?_, fun q => ?_⟩
  · rw [State.setPort_port]
    split
    · exact htimer
    · exact hs.port q
  · simpa using hs.link
  · simpa using hs.cadence
  · simpa using hs.sending
  · rw [State.setPort_port]
    split
    · next h => exact h ▸ hperiod
    · exact hs.period q

end changes

/-! ### Frames from a port and from the recorder -/

section frames
variable {a : Bool} {s : State}

theorem returnSource_port (p q : Port) (s : State) :
    ((returnSource p s).port q).live = (decide (q = p) || (s.port q).live) ∧
      ((returnSource p s).port q).timer = (s.port q).timer ∧ ((returnSource p s).port q).period = (s.port q).period := by
  unfold returnSource
  split
  · next h =>
    refine ⟨?_, rfl, rfl⟩
    by_cases hq : q = p
    · subst hq; simp [h]
    · simp [hq]
  · rw [reformLoss_live, reformLoss_timer, reformLoss_period, post_live, post_timer, post_period, State.setPort_port]
    split <;> simp_all

theorem restartTimer_port (p q : Port) (s : State) :
    ((restartTimer p s).port q).live = (s.port q).live ∧
      ((restartTimer p s).port q).timer =
        (if q = p ∧ s.pwc.state ≠ .standby then some (10 * (s.port q).period) else (s.port q).timer) ∧
      ((restartTimer p s).port q).period = (s.port q).period := by
  unfold restartTimer
  split
  · next h => simp [h]
  · next h =>
    rw [State.setPort_port]
    by_cases hq : q = p
    · subst hq; simp [h]
    · simp [hq]

theorem clearFresh_port (p q : Port) (s : State) :
    ((clearFresh p s).port q).live = (s.port q).live ∧ ((clearFresh p s).port q).timer = (s.port q).timer ∧
      ((clearFresh p s).port q).period = (s.port q).period := by
  unfold clearFresh
  rw [State.setPort_port]
  split
  · next h => subst h; exact ⟨rfl, rfl, rfl⟩
  · exact ⟨rfl, rfl, rfl⟩

/-- R170 to R173: a taken frame leaves its source LIVE and, outside STANDBY, its timer at the full period. -/
theorem beginFrame_port (p q : Port) (s : State) :
    ((beginFrame p s).port q).live = (decide (q = p) || (s.port q).live) ∧
      ((beginFrame p s).port q).timer =
        (if q = p ∧ s.pwc.state ≠ .standby then some (10 * (s.port q).period) else (s.port q).timer) ∧
      ((beginFrame p s).port q).period = (s.port q).period := by
  unfold beginFrame
  obtain ⟨hlive, htimer, hperiod⟩ := restartTimer_port p q (returnSource p (clearFresh p (shiftOut p (some 192) s)))
  obtain ⟨hlive', htimer', hperiod'⟩ := returnSource_port p q (clearFresh p (shiftOut p (some 192) s))
  obtain ⟨hlive'', htimer'', hperiod''⟩ := clearFresh_port p q (shiftOut p (some 192) s)
  simp [hlive, htimer, hperiod, hlive', htimer', hperiod', hlive'', htimer'', hperiod'']

theorem TimersStand.beginFrame (hs : TimersStand (isAwake s) s) (p : Port) :
    TimersStand (isAwake (beginFrame p s)) (beginFrame p s) := by
  have hpwc : (Machine.beginFrame p s).pwc = s.pwc := by simp
  refine ⟨fun q => ?_, ?_, ?_, ?_, fun q => ?_⟩
  · obtain ⟨hlive, htimer, -⟩ := beginFrame_port p q s
    have hold := hs.port q
    rw [hlive, htimer, isAwake, hpwc]
    by_cases hq : q = p <;> by_cases hw : s.pwc.state = .standby <;> simp_all [isAwake]
  · simpa using hs.link
  · simpa [isAwake] using hs.cadence
  · simpa using hs.sending
  · rw [(beginFrame_port p q s).2.2]; exact hs.period q

theorem TimersStand.linkTaken (hs : TimersStand a s) : TimersStand a (linkTaken s) := by
  have hports := (linkTaken_frame s) .ports (by decide)
  have hreturn (s : State) : (returnLink s).rlu.cadence = s.rlu.cadence ∧ (returnLink s).rlu.waiting = s.rlu.waiting ∧
      (returnLink s).rlu.sending = s.rlu.sending := by
    unfold returnLink
    split <;> simp
  obtain ⟨hcadence, hwaiting, hsending⟩ := hreturn (setAssembly .hunt s)
  refine ⟨fun p => ?_, ?_, ?_, ?_, fun p => ?_⟩
  · rw [(hports p).1, (hports p).2.1]; exact hs.port p
  · rw [linkTaken_live]; rfl
  · exact (congrArg Option.isSome hcadence).trans hs.cadence
  · show (returnLink (setAssembly .hunt s)).rlu.waiting = [] ∨ (returnLink (setAssembly .hunt s)).rlu.sending.isSome = true
    rw [hwaiting, hsending]
    exact hs.sending
  · rw [(hports p).2.2.1]; exact hs.period p

/-- R171: a silenced port is not LIVE, and its timer is stopped. -/
theorem TimersStand.silencePort (hs : TimersStand a s) (p : Port) : TimersStand a (silencePort p s) := by
  have hset : TimersStand a (s.setPort p { s.port p with live := false, timer := none }) :=
    hs.setPort (by simp) (hs.period p)
  have htold := hset.frame (post_frame _ .sourceSilent (portSource p).code) (by decide)
  unfold Machine.silencePort
  cases p
  · exact htold.frame (silenceSource_frame _ fun t => lampUpdate_frame t _) (by decide)
  · exact (htold.frame (closeWindow_frame _) (by decide)).frame (silenceSource_frame _ fun t => lampUpdate_frame t _)
      (by decide)

/-- R118: a LOST link has its timer stopped. -/
theorem TimersStand.loseLink (hs : TimersStand a s) : TimersStand a (loseLink s) := by
  have hset : TimersStand a (s.setRlu { s.rlu with live := false, timer := none, vehicle := s.rlu.vehicle.hold }) :=
    ⟨fun p => by simpa using hs.port p, rfl, hs.cadence, hs.sending, fun p => by simpa using hs.period p⟩
  exact ((hset.frame (post_frame _ .sourceSilent Source.recorder.code) (by decide)).frame
    (silenceSource_frame _ fun t => lampUpdate_frame t _) (by decide)).frame (setAau_frame _ _) (by decide)

end frames

/-! ### The transmitter and the ignition cycle -/

section cycle
variable {a : Bool} {s : State}

/-- R128: a frame falls due, with the cadence as it is set before. -/
theorem timersStand_txDue (k : TxKind) {n : Option Nat} (hn : n.isSome = a)
    (hport : ∀ p, (s.port p).timer.isSome = ((s.port p).live && a)) (hlink : s.rlu.timer.isSome = s.rlu.live)
    (hperiod : ∀ p, 5 ≤ (s.port p).period ∧ (s.port p).period ≤ longestPeriod p) :
    TimersStand a (txDue k (s.setRlu { s.rlu with cadence := n })) := by
  obtain ⟨hlive, htimer, hcadence⟩ := txDue_keeps (s.setRlu { s.rlu with cadence := n }) k
  refine ⟨fun p => ?_, ?_, ?_, .inr (txDue_sending _ k), fun p => ?_⟩
  · simpa using hport p
  · rw [htimer, hlive]; exact hlink
  · rw [hcadence]; exact hn
  · simpa using hperiod p

theorem TimersStand.cadence_again (hs : TimersStand a s) (h : s.rlu.cadence.isSome = true) :
    TimersStand a (Machine.cadence s) :=
  timersStand_txDue .status (h.symm.trans hs.cadence) hs.port hs.link hs.period

theorem TimersStand.transmitted (hs : TimersStand a s) : TimersStand a (transmitted s) := by
  unfold Machine.transmitted
  split
  · next h =>
    exact ⟨fun p => by simpa using hs.port p, hs.link, hs.cadence, .inl h, fun p => by simpa using hs.period p⟩
  · exact ⟨fun p => by simpa using hs.port p, hs.link, hs.cadence, .inr rfl, fun p => by simpa using hs.period p⟩

theorem stopTimer_port (p q : Port) (s : State) :
    ((stopTimer p s).port q).timer = (if q = p then none else (s.port q).timer) ∧
      ((stopTimer p s).port q).live = (s.port q).live ∧ ((stopTimer p s).port q).period = (s.port q).period := by
  cases p <;> cases q <;> exact ⟨rfl, rfl, rfl⟩

theorem restartIfLive_port (p q : Port) (s : State) :
    ((restartIfLive p s).port q).timer =
        (if q = p ∧ (s.port q).live = true then some (10 * (s.port q).period) else (s.port q).timer) ∧
      ((restartIfLive p s).port q).live = (s.port q).live ∧
      ((restartIfLive p s).port q).period = (s.port q).period := by
  unfold restartIfLive
  split
  · next h =>
    rw [State.setPort_port]
    by_cases hq : q = p
    · subst hq; simp [h]
    · simp [hq]
  · next h =>
    refine ⟨?_, rfl, rfl⟩
    rw [if_neg]
    rintro ⟨rfl, hlive⟩
    exact h hlive

/-- R173: entering STANDBY stops both timers. -/
theorem quiesce_port (p : Port) (s : State) : ((quiesce s).port p).timer = none ∧
    ((quiesce s).port p).live = (s.port p).live ∧ ((quiesce s).port p).period = (s.port p).period := by
  unfold quiesce
  cases p <;> simp [stopTimer_port]

/-- R173: entering RUN_CHECK from STANDBY starts the timers of LIVE sources. -/
theorem awaken_port (p : Port) (s : State) : ((awaken s).port p).timer =
      (if (s.port p).live = true then some (10 * (s.port p).period) else (s.port p).timer) ∧
    ((awaken s).port p).live = (s.port p).live ∧ ((awaken s).port p).period = (s.port p).period := by
  unfold awaken
  cases p <;> simp [restartIfLive_port]

theorem TimersStand.quiesce (hs : TimersStand a s) : TimersStand false (quiesce s) := by
  refine timersStand_txDue .standby rfl (fun p => ?_) ?_ fun p => ?_
  · cases p <;> simp [stopTimer_port]
  · simpa using hs.link
  · simpa [stopTimer_port] using hs.period p

theorem TimersStand.awaken (hs : TimersStand a s) : TimersStand true (awaken s) := by
  refine timersStand_txDue .status rfl (fun p => ?_) ?_ fun p => ?_
  · have hport := hs.port p
    cases h : (s.port p).live <;> cases p <;> simp_all [restartIfLive_port]
  · simpa using hs.link
  · simpa [restartIfLive_port] using hs.period p

/-- R173: no passage of the ignition cycle but those through STANDBY bears on the timers. -/
theorem TimersStand.parkingDone (hs : TimersStand a s) : TimersStand (isAwake (parkingDone s)) (parkingDone s) :=
  ((hs.frame (enterPower_frame s .standby) (by decide)).quiesce).cast (by simp [isAwake])

theorem TimersStand.runEntry (hs : TimersStand true s) : TimersStand (isAwake (runEntry s)) (runEntry s) :=
  (hs.frame (runEntry_frame s) (by decide)).cast (by simp [isAwake])

theorem TimersStand.enterRunCheck (hs : TimersStand (isAwake s) s) :
    TimersStand (isAwake (enterRunCheck s)) (enterRunCheck s) := by
  have hawake : isAwake (Machine.enterRunCheck s) = true := by simp [isAwake]
  have hbegun := hs.frame (cycleBegun_frame s) (by decide)
  rw [hawake, enterRunCheck_eq]
  split
  · exact hbegun.awaken
  · next h => exact hbegun.cast (by simpa [isAwake] using h)

theorem TimersStand.leaveCycle (hs : TimersStand true s) : TimersStand (isAwake (leaveCycle s)) (leaveCycle s) := by
  have hawake : isAwake (Machine.leaveCycle s) = decide (offTarget s ≠ .standby) := by simp [isAwake]
  have hleft := hs.frame (cycleLeft_frame s) (by decide)
  rw [hawake, leaveCycle_eq]
  split
  · next h => exact hleft.quiesce.cast (by simp [h])
  · next h => exact hleft.cast (by simp [h])

end cycle

/-! ### Every step -/

/-- The timers stand as the power state asks. -/
def TimersSound (s : State) : Prop := TimersStand (isAwake s) s

section steps
variable {s t : State}

/-- An operation that writes no timer and leaves the power state. -/
theorem TimersSound.frame {blocks : List Block} (hs : TimersSound s) (h : OnlyChanges blocks s t)
    (hdisj : ∀ b ∈ [Block.ports, .recorder], b ∉ blocks) (hstate : t.pwc.state = s.pwc.state) : TimersSound t :=
  (TimersStand.frame hs h hdisj).cast (by rw [isAwake, isAwake, hstate])

theorem timersSound_readsOnly : ReadsOnly [.ports, .recorder, .power] TimersSound := by
  intro s t hsame hs
  have hpwc : t.pwc = s.pwc := hsame .power (by simp)
  exact (timersStand_readsOnly _ s t (fun b hb => hsame b (by simp at hb ⊢; tauto)) hs).cast (by rw [isAwake, isAwake, hpwc])

theorem timersSound_passages : PassagesKeep TimersSound where
  flag s b hs := TimersSound.frame hs (setPwc_frame s _) (by decide) rfl
  runEntry s h hs := TimersStand.runEntry (TimersStand.cast hs (by simp [isAwake, h]))
  parkingDone s _ hs := TimersStand.parkingDone hs
  enterRunCheck s _ hs := TimersStand.enterRunCheck hs
  leaveCycle s h hs := TimersStand.leaveCycle (TimersStand.cast hs (by rcases inCycle_iff.1 h with h | h <;> simp [isAwake, h]))

theorem supplyFalls_state (s : State) : (supplyFalls s).pwc.state = s.pwc.state := by
  unfold supplyFalls
  split <;> simp

theorem supplyReturns_state (s : State) : (supplyReturns s).pwc.state = s.pwc.state := by
  unfold supplyReturns
  split <;> simp

theorem measure_state (mv : Nat) (s : State) : (measure mv s).pwc.state = s.pwc.state := by
  rw [measure_eq]
  split
  · split
    · exact supplyReturns_state _
    · exact supplyFalls_state _
  · rfl

theorem timersSound_edge (i : Fin 12) (hs : TimersSound s) : TimersSound (edge i s) :=
  timersSound_passages.edge
    (fun i s hs => timersSound_readsOnly.keeps (edgeTold_frame s i) (by decide) hs)
    (fun l s hs => timersSound_readsOnly.keeps (lampUpdate_frame s _) (by decide) hs) i hs

/-- R1: a count down leaves a running timer running. -/
theorem isSome_countDown (n : Option Nat) : (countDown n).isSome = n.isSome := by cases n <;> rfl

/-- Log 2: a millisecond leaves running timers running, and stopped ones stopped. -/
theorem TimersSound.passOut (hs : TimersSound s) : TimersSound (passOut s) := by
  have hport (p : Port) : (Machine.passOut s).port p = (s.port p).pass := passOut_port p s
  refine ⟨fun p => ?_, ?_, ?_, ?_, fun p => ?_⟩
  · rw [hport]; exact (isSome_countDown _).trans (hs.port p)
  · exact (isSome_countDown _).trans hs.link
  · exact (isSome_countDown _).trans hs.cadence
  · exact hs.sending.imp id fun h => by simpa [Machine.passOut, RecorderLink.pass] using h
  · rw [hport]; exact hs.period p

theorem TimersSound.tick (hs : TimersSound s) : TimersSound (tick s) := by
  cases h : isOut s
  · exact timersSound_readsOnly.keeps (tick_frame_reset h) (by decide) hs
  · exact timersSound_readsOnly.keeps (tick_frame_out h) (by decide) hs.passOut

end steps

/-- R190: the timers held in a reset are stopped, with every source SILENT. -/
theorem timersSound_of_reset {s : State} (hd : s.portD = .reset .d) (hs : s.portS = .reset .s) (hr : s.rlu = .reset)
    (hw : s.pwc.state = .standby) : TimersSound s := by
  have hport (p : Port) : s.port p = .reset p := by cases p; exacts [hd, hs]
  have hawake : isAwake s = false := by simp [isAwake, hw]
  rw [TimersSound, hawake]
  refine ⟨fun p => by rw [hport]; rfl, by rw [hr]; rfl, by rw [hr]; rfl, by rw [hr]; exact .inl rfl, fun p => ?_⟩
  rw [hport]
  cases p <;> decide

/-- R192: coming out of a reset sends a frame, and starts no timer. -/
theorem TimersSound.comeOut {s : State} (hs : TimersSound s) : TimersSound (comeOut s) := by
  have htold (kind : TxKind) {t : State} (h : TimersSound t) : TimersSound (txDue kind t) := by
    have hset : t.setRlu { t.rlu with cadence := t.rlu.cadence } = t := rfl
    have hdue := timersStand_txDue kind h.cadence h.port h.link h.period
    rw [hset] at hdue
    exact hdue.cast (by simp [isAwake])
  have hreset := timersSound_readsOnly.keeps (setRst_frame s { s.rst with progress := .out, clockFaults := 0 }) (by decide) hs
  have hposted := timersSound_readsOnly.keeps (post_frame _ .resetReport (reportedCause s.rst).code) (by decide) hreset
  exact htold .standby (timersSound_readsOnly.keeps
    (forEach_frame (fun _ t => post_frame t .clockFault 0) (List.range s.rst.clockFaults) _) (by decide) hposted)

theorem timersSound_kept : Kept TimersSound where
  act {W s t} hout a hs := by
    by_cases hw : ∀ b ∈ [Block.ports, .recorder, .power], b ∉ W
    · exact timersSound_readsOnly.keeps a.frame hw hs
    · cases a <;> simp at hw
      case begin p => exact TimersStand.beginFrame hs p
      case clearCauses => exact TimersSound.frame hs (setPwc_frame s _) (by decide) rfl
      case setPeriods d e hd he =>
        exact ((TimersStand.setPort (p := .d) (u := { s.portD with period := d }) hs (hs.port .d) hd).setPort (p := .s)
          (u := { s.portS with period := e }) (hs.port .s) he)
      case silencePort p =>
        exact (TimersStand.silencePort hs p).cast (by rw [isAwake, isAwake, (silencePort_frame s p).pwc (by decide)])
      case applyChannel args k _ _ _ _ =>
        rw [applyChannel_eq]
        exact timersSound_passages.powerConditions (timersSound_readsOnly.keeps (channelShown_frame k s) (by decide) hs)
      case motionInterval =>
        rw [motionInterval_eq]
        split
        · exact timersSound_readsOnly.keeps (setGe_frame s _) (by decide) hs
        · exact timersSound_passages.powerConditions (timersSound_readsOnly.keeps (movedOn_frame s) (by decide) hs)
      case setAssembly x =>
        exact TimersStand.of_same hs (fun p => ⟨rfl, rfl, rfl⟩) ⟨rfl, rfl, rfl, rfl, rfl⟩
      case linkTaken =>
        exact (TimersStand.linkTaken hs).cast (by rw [isAwake, isAwake, (linkTaken_frame s).pwc (by decide)])
      case modifyVehicle f =>
        exact TimersStand.of_same hs (fun p => ⟨rfl, rfl, rfl⟩) ⟨rfl, rfl, rfl, rfl, rfl⟩
      case loseLink => exact (TimersStand.loseLink hs).cast (by rw [isAwake, isAwake, (loseLink_frame s).pwc (by decide)])
      case cadence h => exact (TimersStand.cadence_again hs h).cast (by rw [isAwake, isAwake, (cadence_frame s).pwc (by decide)])
      case transmitted => exact (TimersStand.transmitted hs).cast (by rw [isAwake, isAwake, (transmitted_frame s).pwc (by decide)])
      case edge i => exact timersSound_edge i hs
      case sampleInputs mv =>
        exact sampleInputs_keeps (fun n s hs => timersSound_readsOnly.keeps (setChoices_frame s n) (by decide) hs)
          (fun mv s hs => timersSound_readsOnly.keeps (storeSample_frame s mv) (by decide) hs)
          (fun i _ hs => timersSound_edge i hs) mv hs
      case selfCheckExpires =>
        exact timersSound_passages.powerConditions (TimersSound.frame hs (setPwc_frame s _) (by decide) rfl)
      case supplyFalls => exact TimersSound.frame hs (supplyFalls_frame s) (by decide) (supplyFalls_state s)
      case supplyReturns => exact TimersSound.frame hs (supplyReturns_frame s) (by decide) (supplyReturns_state s)
      case measure mv => exact TimersSound.frame hs (measure_frame s mv) (by decide) (measure_state mv s)
  always {W s t} a hs := by
    by_cases hw : ∀ b ∈ [Block.ports, .recorder, .power], b ∉ W
    · exact timersSound_readsOnly.keeps a.frame hw hs
    · cases a <;> simp [resetBlocks, tickBlocks] at hw
      case beginCause c => exact timersSound_of_reset rfl rfl rfl rfl
      case commandReset => exact timersSound_of_reset rfl rfl rfl rfl
      case comeOut => exact TimersSound.comeOut hs
      case tick => exact TimersSound.tick hs

/-- Settles O60: events are posted, removed and given levels as their rules say, and each timer follows its source. -/
theorem everyStepKeepsPortsSound : Obligations.EveryStepKeepsPortsSound := by
  intro s t h
  simp only [eventsSound_iff, timersSound_iff]
  exact ⟨eventsSound_kept.step h, timersSound_kept.step h⟩

end Sys2Proof.Machine
end

section
/-! CERTIFICATE. The clock under every step: each load, advance, stop and recovery leaves it on a legal date with the weekday of
that date. A part held in reset keeps every block but the clock at its reset values. -/
namespace Sys2Proof.Machine

/-! ### The clock -/

/-- R96, R99 to R101, R107: `State.clockSound`, of the clock alone. -/
structure Clock.Sound (c : Clock) : Prop where
  legal : c.now.legal = true
  weekday : c.weekday = weekdayOf c.now
  running : c.running = true ↔ c.monitor = .running
  rangeHold : c.rangeHold = true → c.now = .last
  stopped : c.running = false → c.isSet = false ∧ c.now = .epoch
  quality : c.byRecorder = true → c.isSet = true
  offset : -48 ≤ c.localOffset ∧ c.localOffset ≤ 56

theorem clockSound_iff (s : State) : s.clockSound = true ↔ s.cc.Sound := by
  constructor
  · intro h
    simp only [State.clockSound, Bool.and_eq_true, decide_eq_true_eq, Bool.or_eq_true, Bool.not_eq_true'] at h
    obtain ⟨⟨⟨⟨⟨⟨⟨hlegal, hweekday⟩, hrunning⟩, hhold⟩, hstopped⟩, hquality⟩, hlow⟩, hhigh⟩ := h
    exact ⟨hlegal, hweekday, Iff.of_eq hrunning, fun h => hhold.resolve_left (by simp [h]),
      fun h => hstopped.resolve_left (by simp [h]), fun h => hquality.resolve_right (by simp [h]), hlow, hhigh⟩
  · rintro ⟨hlegal, hweekday, hrunning, hhold, hstopped, hquality, hlow, hhigh⟩
    simp only [State.clockSound, Bool.and_eq_true, decide_eq_true_eq, Bool.or_eq_true, Bool.not_eq_true']
    refine ⟨⟨⟨⟨⟨⟨⟨hlegal, hweekday⟩, propext hrunning⟩, ?_⟩, ?_⟩, ?_⟩, hlow⟩, hhigh⟩
    · cases h : s.cc.rangeHold
      · exact .inl rfl
      · exact .inr (hhold h)
    · cases h : s.cc.running
      · exact .inr (hstopped h)
      · exact .inl rfl
    · cases h : s.cc.byRecorder
      · exact .inr rfl
      · exact .inl (hquality h)

theorem clockSound_readsOnly : ReadsOnly [.clock] fun s => s.cc.Sound := by
  intro s t hsame hs
  have hcc : t.cc = s.cc := hsame .clock (by simp)
  show t.cc.Sound
  rwa [hcc]

theorem Clock.sound_reset : Clock.reset.Sound :=
  ⟨by decide, by decide, by decide, by decide, by decide, by decide, by decide⟩

section clock
variable {c : Clock}

/-- R97: what a pin or command reset leaves of the clock. -/
theorem Clock.Sound.keep (h : c.Sound) : c.keep.Sound := { h with offset := by simp [Clock.keep] }

theorem Clock.Sound.load (h : c.Sound) {t : DateTime} (b : Bool) (ht : t.legal = true) (hr : c.running = true) :
    (c.load t b).Sound where
  legal := ht
  weekday := rfl
  running := h.running
  rangeHold h := by cases h
  stopped hs := absurd (hr.symm.trans hs) (by decide)
  quality _ := rfl
  offset := h.offset

theorem Clock.Sound.stop (h : c.Sound) : c.stop.Sound :=
  ⟨Clock.sound_reset.legal, Clock.sound_reset.weekday, by simp [Clock.stop], by simp [Clock.stop], by simp [Clock.stop],
    by simp [Clock.stop], h.offset⟩

theorem Clock.Sound.recover (h : c.Sound) : c.recover.Sound :=
  ⟨h.legal, h.weekday, by simp [Clock.recover], h.rangeHold, by simp [Clock.recover], h.quality, h.offset⟩

theorem Clock.Sound.setMonitor (h : c.Sound) {m : Monitor} (hc : c.monitor ≠ .running) (hm : m ≠ .running) :
    Clock.Sound { c with monitor := m } :=
  { h with running := ⟨fun hr => absurd (h.running.1 hr) hc, fun e => absurd e hm⟩ }

theorem Clock.Sound.pass (h : c.Sound) : c.pass.Sound := by
  unfold Clock.pass
  split
  · exact { h with }
  · next hr =>
    refine { h with running := ⟨fun e => absurd e hr, fun e => absurd (h.running.2 ?_) hr⟩ }
    cases hm : c.monitor <;> simp_all [Monitor.pass]

end clock

/-! ### The advance -/

/-- R100: the weekday of a date does not depend on the time of day. -/
theorem weekdayOf_congr {t u : DateTime} (h : t.year = u.year ∧ t.month = u.month ∧ t.day = u.day) :
    weekdayOf t = weekdayOf u := by simp [weekdayOf, dayCount, h.1, h.2.1, h.2.2]

theorem nextDay_time (t : DateTime) :
    (nextDay t).hour = t.hour ∧ (nextDay t).minute = t.minute ∧ (nextDay t).second = t.second := by
  unfold nextDay
  split_ifs <;> exact ⟨rfl, rfl, rfl⟩

/-- R100: the weekday of the next day. -/
theorem weekdayOf_nextDay {t : DateTime} (h : t.OnCalendar) : weekdayOf (nextDay t) = (weekdayOf t + 1) % 7 := by
  rw [weekdayOf, weekdayOf, h.dayCount_nextDay]
  omega

/-- R98, R99: an advance that leads to a legal date, with the weekday that its day carry gives. -/
structure DateTime.LedTo (t : DateTime) (r : DateTime × Ticks) : Prop where
  legal : r.1.legal = true
  weekday : weekdayOf r.1 = if r.2.day then (weekdayOf t + 1) % 7 else weekdayOf t

/-- R98, R99, R101: short of the end of its range an advance leads from a legal date to a legal date, with its weekday. -/
theorem advance_ledTo {t : DateTime} (h : t.legal = true) (hlast : t ≠ .last) : t.LedTo (advance t) := by
  obtain ⟨hdate, hhour, hminute, hsecond⟩ := (DateTime.legal_iff t).1 h
  have hsame (hour minute second : Nat) : DateTime.OnCalendar { t with hour, minute, second } := { hdate with }
  unfold advance
  split_ifs with h1 h2 h3
  · exact ⟨(DateTime.legal_iff _).2 ⟨hsame _ _ _, hhour, hminute, h1⟩, weekdayOf_congr ⟨rfl, rfl, rfl⟩⟩
  · exact ⟨(DateTime.legal_iff _).2 ⟨hsame _ _ _, hhour, h2, by simp⟩, weekdayOf_congr ⟨rfl, rfl, rfl⟩⟩
  · exact ⟨(DateTime.legal_iff _).2 ⟨hsame _ _ _, h3, by simp, by simp⟩, weekdayOf_congr ⟨rfl, rfl, rfl⟩⟩
  · have htime := nextDay_time { t with hour := 0, minute := 0, second := 0 }
    refine ⟨(DateTime.legal_iff _).2 ⟨(hsame 0 0 0).onCalendar_nextDay ?_, by simp [htime]⟩,
      weekdayOf_nextDay (hsame 0 0 0)⟩
    rintro ⟨hy, hm, hd⟩
    refine hlast ?_
    obtain ⟨y, m, d, hr, mn, sc⟩ := t
    simp only [DateTime.last, DateTime.mk.injEq]
    simp only at hy hm hd hhour hminute hsecond h1 h2 h3
    omega

theorem Clock.Sound.advanced {c : Clock} (h : c.Sound) (hr : c.running = true) (hend : c.atEnd = false) :
    c.advanced.Sound := by
  have hlast : c.now ≠ .last := by simpa [Clock.atEnd] using hend
  obtain ⟨hlegal, hweekday⟩ := advance_ledTo h.legal hlast
  exact { h with
    legal := hlegal
    weekday := by simp only [Clock.advanced, hweekday, h.weekday]
    rangeHold := fun e => absurd (h.rangeHold e) hlast
    stopped := fun e => absurd (hr.symm.trans e) (by decide) }

theorem clockSound_kept : Kept fun s => s.cc.Sound where
  act {W s t} hout a hs := by
    by_cases hw : ∀ b ∈ [Block.clock], b ∉ W
    · exact clockSound_readsOnly.keeps a.frame hw hs
    · cases a <;> simp at hw
      case loadClock time b ht hr =>
        have hcc : (loadClock time b s).cc = s.cc.load time b := by
          unfold loadClock
          dsimp only
          split <;> simp [discardTallies]
        rw [hcc]
        exact hs.load b ht hr
      case setOffset q hq => exact { hs with offset := hq }
      case setTick k p => cases p <;> exact { hs with }
  always {W s t} a hs := by
    by_cases hw : ∀ b ∈ [Block.clock], b ∉ W
    · exact clockSound_readsOnly.keeps a.frame hw hs
    · have hheld (c : Cause) : (heldBlocks c s).cc.Sound := by
        show Clock.Sound (if (causesWith c s).powerOn then .reset else s.cc.keep)
        split
        · exact Clock.sound_reset
        · exact hs.keep
      cases a <;> simp [resetBlocks, tickBlocks] at hw
      case zeroPrescaler => exact { hs with }
      case holdRange hend => exact { hs with rangeHold := fun _ => by simpa [Clock.atEnd] using hend }
      case advance hr hend => exact hs.advanced hr hend
      case stop => exact hs.stop
      case setMonitor => exact hs.setMonitor ‹s.cc.monitor ≠ .running› ‹_›
      case recover => exact hs.recover
      case beginCause c => exact hheld c
      case commandReset => exact hheld .command
      case tick =>
        cases h : isOut s
        · rw [(tick_frame_held h).cc (by decide)]
          show Clock.Sound (if s.rst.causes.powerOn then s.cc else s.cc.pass)
          split
          · exact hs
          · exact hs.pass
        · rw [(tick_frame_out h).cc (by decide)]
          exact hs.pass

/-! ### A part held in reset -/

/-- R190: what `State.heldSound` asks of a part that is held in reset. -/
structure HeldAtReset (s : State) : Prop where
  ge : s.ge = .reset
  lamps : s.lamps = .ofFn Lamp.reset
  lmd : s.lmd = .reset
  cu : s.cu = .reset
  rlu : s.rlu = .reset
  aau : s.aau = .reset
  inputs : s.inputs = .ofFn InputRecord.reset
  portD : s.portD = .reset .d
  portS : s.portS = .reset .s
  window : s.window = false
  pwc : s.pwc = .reset s.pwc.causes
  cc : s.rst.causes.powerOn = true → s.cc = .reset
  pins : s.pins = s.pins.cutOff

/-- R190: the property of every part, out of reset too. -/
def HeldSound (s : State) : Prop := isOut s = false → HeldAtReset s

theorem heldSound_iff (s : State) : s.heldSound = true ↔ HeldSound s := by
  unfold State.heldSound HeldSound
  cases h : isOut s
  · simp only [Bool.false_or, Bool.and_eq_true, decide_eq_true_eq, Bool.or_eq_true, Bool.not_eq_true', true_imp_iff]
    constructor
    · rintro ⟨⟨⟨⟨⟨⟨⟨⟨⟨⟨⟨⟨hge, hlamps⟩, hlmd⟩, hcu⟩, hrlu⟩, haau⟩, hinputs⟩, hd⟩, hs⟩, hwindow⟩, hpwc⟩, hcc⟩, hpins⟩
      exact ⟨hge, hlamps, hlmd, hcu, hrlu, haau, hinputs, hd, hs, hwindow, hpwc, fun h => hcc.resolve_left (by simp [h]), hpins⟩
    · rintro ⟨hge, hlamps, hlmd, hcu, hrlu, haau, hinputs, hd, hs, hwindow, hpwc, hcc, hpins⟩
      refine ⟨⟨⟨⟨⟨⟨⟨⟨⟨⟨⟨⟨hge, hlamps⟩, hlmd⟩, hcu⟩, hrlu⟩, haau⟩, hinputs⟩, hd⟩, hs⟩, hwindow⟩, hpwc⟩, ?_⟩, hpins⟩
      cases hp : s.rst.causes.powerOn
      · exact .inl rfl
      · exact .inr (hcc hp)
  · simp

theorem heldAtReset_heldBlocks (c : Cause) (s : State) (p : ResetProgress) :
    HeldAtReset ((heldBlocks c s).setRst { (heldBlocks c s).rst with progress := p }) where
  ge := rfl
  lamps := rfl
  lmd := rfl
  cu := rfl
  rlu := rfl
  aau := rfl
  inputs := rfl
  portD := rfl
  portS := rfl
  window := rfl
  pwc := rfl
  cc h := if_pos h
  pins := rfl

/-- In a reset the crystal is at work only where no power-on cause has made it (R97). -/
theorem HeldSound.setCc {s : State} (hs : HeldSound s) (hw : clockWorks s = true) (c : Clock) : HeldSound (s.setCc c) := by
  intro hin
  have hin' : isOut s = false := hin
  have hpower : s.rst.causes.powerOn = false := by simpa [clockWorks, hin'] using hw
  exact { hs hin' with cc := fun h => absurd (hpower.symm.trans h) (by decide) }

theorem heldSound_kept : Kept HeldSound where
  act hout a _ hin := absurd ((a.isOut_eq.trans hout).symm.trans hin) (by decide)
  always {W s t} a hs := by
    cases a
    case queue l => exact fun hin => { hs hin with }
    case due l => exact fun hin => { hs hin with }
    case zeroPrescaler hw => exact hs.setCc hw _
    case holdRange hw _ => exact hs.setCc hw _
    case advance hw _ _ => exact hs.setCc hw _
    case stop hw => exact hs.setCc hw _
    case setMonitor => exact hs.setCc ‹_› _
    case recover hw => exact hs.setCc hw _
    case countFault h => exact fun _ => { hs h with }
    case beginCause c => exact fun _ => heldAtReset_heldBlocks c s .cause
    case commandReset => exact fun _ => heldAtReset_heldBlocks .command s (.hold Config.resetHold)
    case startHold h => exact fun _ => { hs h with }
    case comeOut h => exact fun hin => absurd ((isOut_comeOut s).symm.trans hin) (by decide)
    case tick =>
      intro hin
      have hin' : isOut s = false := isOut_tick s ▸ hin
      have htick : tick s = queueDue (heldDue (passHeld s)) [] (passHeld s) := by simp [tick, hin']
      rw [htick]
      exact { hs hin' with
        cc := fun h => by
          have hpower : s.rst.causes.powerOn = true := h
          show (if s.rst.causes.powerOn then s.cc else s.cc.pass) = .reset
          rw [if_pos hpower]
          exact (hs hin').cc hpower }

end Sys2Proof.Machine
end

section
/-! SUPPORT. The driver records after each operation of chapter 8: one function of the record for each rule, and which record an
operation on a slot leaves alone. -/
namespace Sys2Proof.Machine

/-! ### One record replaced -/

section replace
variable (slot q : Slot) (r : DriverRecord) (f : DriverRecord → DriverRecord) (s : State)

theorem setRecord_record : (setRecord slot r s).aau.record q = if q = slot then r else s.aau.record q := by
  cases slot <;> cases q <;> rfl

@[simp] theorem setRecord_lead : (setRecord slot r s).aau.lead = s.aau.lead := by cases slot <;> rfl

theorem modifyRecord_record :
    (modifyRecord slot f s).aau.record q = if q = slot then f (s.aau.record q) else s.aau.record q := by
  rw [modifyRecord, setRecord_record]
  split
  · next h => rw [h]
  · rfl

@[simp] theorem modifyRecord_lead : (modifyRecord slot f s).aau.lead = s.aau.lead := setRecord_lead _ _ _

end replace

/-! ### The warning formed again (R143) -/

/-- R143: a record with its warning formed: that of a PRESENT record is judged again. -/
def DriverRecord.warned (lead : Nat) (r : DriverRecord) : DriverRecord := if r.card then { r with warn := r.warnOf lead } else r

/-- R155: a record judged again, with its generation where its warning changes. -/
def DriverRecord.rewarned (lead : Nat) (r : DriverRecord) : DriverRecord :=
  if r.card && r.warnOf lead ≠ r.warn then (r.warned lead).nextGeneration else r

section warn
variable (slot q : Slot) (s : State)

theorem warnChanges_iff : warnChanges slot s = true ↔
    (s.aau.record slot).card = true ∧ (s.aau.record slot).warnOf s.aau.lead ≠ (s.aau.record slot).warn := by
  simp [warnChanges]

theorem formWarn_record : (formWarn slot s).aau.record q =
    if q = slot then (s.aau.record q).warned s.aau.lead else s.aau.record q := by
  unfold formWarn
  split
  · next h =>
    dsimp only
    rw [handAccount_aau, (announceWarn_frame _ _ _).aau (by decide), modifyRecord_record]
    split
    · next hq => rw [DriverRecord.warned, hq, if_pos ((warnChanges_iff _ _).1 h).1]
    · rfl
  · next h =>
    split
    · next hq =>
      subst hq
      unfold DriverRecord.warned
      split
      · next hcard =>
        have hwarn : (s.aau.record q).warnOf s.aau.lead = (s.aau.record q).warn := by
          simpa [warnChanges_iff, hcard] using h
        rw [hwarn]
      · rfl
    · rfl

@[simp] theorem formWarn_lead : (formWarn slot s).aau.lead = s.aau.lead := by
  unfold formWarn
  split
  · dsimp only
    rw [handAccount_aau, (announceWarn_frame _ _ _).aau (by decide), modifyRecord_lead]
  · rfl

theorem rewarn_record : (rewarn slot s).aau.record q =
    if q = slot then (s.aau.record q).rewarned s.aau.lead else s.aau.record q := by
  unfold rewarn
  split
  · next h =>
    rw [modifyRecord_record, formWarn_record]
    split
    · next hq =>
      subst hq
      rw [DriverRecord.rewarned, if_pos (by simpa [warnChanges_iff] using h)]
    · rfl
  · next h =>
    split
    · next hq =>
      subst hq
      rw [DriverRecord.rewarned, if_neg (by simpa [warnChanges_iff] using h)]
    · rfl

@[simp] theorem rewarn_lead : (rewarn slot s).aau.lead = s.aau.lead := by
  unfold rewarn
  split <;> simp

end warn

/-! ### A minute credited (R140 to R142) -/

/-- R140, R141, R146: a record after steps 3 and 4 of a credit. -/
def DriverRecord.counted (a : Activity) (stamp : Nat) (unset : Bool) (r : DriverRecord) : DriverRecord :=
  { (if r.creditSkip then r else r.creditCounters a) with history := extendHistory a stamp unset r.history }

/-- R140 to R143, R146: a record after a credit. -/
def DriverRecord.credited (lead : Nat) (a : Activity) (stamp : Nat) (unset : Bool) (r : DriverRecord) : DriverRecord :=
  (if r.creditSkip then r.counted a stamp unset else (r.counted a stamp unset).warned lead).finishMinute a stamp

/-- R140, R141, R146: steps 3 and 4 of a credit of one slot, with BREAK_QUALIFIED. -/
def creditTold (stamp : Nat) (c : Slot × Activity) (s : State) : State :=
  let placed := setRecord c.1 ((s.aau.record c.1).counted c.2 stamp (!s.cc.isSet)) s
  if !(s.aau.record c.1).creditSkip && (s.aau.record c.1).creditQualifies c.2 then
    post .breakQualified (slotNumber c.1) placed
  else placed

section credit
variable (stamp : Nat) (c : Slot × Activity) (q : Slot) (s : State)

theorem creditSlot_eq : creditSlot stamp c s = modifyRecord c.1 (DriverRecord.finishMinute c.2 stamp)
    (if (s.aau.record c.1).creditSkip then creditTold stamp c s else formWarn c.1 (creditTold stamp c s)) := rfl

@[simp] theorem creditTold_aau : (creditTold stamp c s).aau =
    (setRecord c.1 ((s.aau.record c.1).counted c.2 stamp (!s.cc.isSet)) s).aau := by
  unfold creditTold
  dsimp only
  split <;> simp

theorem creditSlot_record : (creditSlot stamp c s).aau.record q =
    if q = c.1 then (s.aau.record q).credited s.aau.lead c.2 stamp (!s.cc.isSet) else s.aau.record q := by
  rw [creditSlot_eq, modifyRecord_record]
  by_cases hq : q = c.1
  · subst hq
    unfold DriverRecord.credited
    by_cases hskip : (s.aau.record c.1).creditSkip = true <;> simp [setRecord_record, formWarn_record, hskip]
  · by_cases hskip : (s.aau.record c.1).creditSkip = true <;> simp [setRecord_record, formWarn_record, hq, hskip]

@[simp] theorem creditSlot_lead : (creditSlot stamp c s).aau.lead = s.aau.lead := by
  rw [creditSlot_eq, modifyRecord_lead]
  split <;> simp

end credit

/-! ### Cards, activities and summaries (R131 to R134, R148 to R150) -/

/-- R131 to R134: a record after its byte of an ACTIVITY frame. -/
def DriverRecord.takeActivity (arg : ActivityArg) (stamp : Nat) (r : DriverRecord) : DriverRecord :=
  if activityActs r arg then
    if arg.card then (if r.card then r.changeActivity arg else r.insertCard arg stamp) else r.removeCard
  else r

/-- R149, R150: a record that has adopted a summary. -/
def DriverRecord.adopted (lead : Nat) (arg : SummaryArg) (stamp : Nat) (k : SummaryCase) (r : DriverRecord) : DriverRecord :=
  ((((r.takeSummary arg).confirm stamp).settleMinute k).warned lead).nextGeneration

/-- R148: a record after its part of a SUMMARY frame. -/
def DriverRecord.summarized (lead : Nat) (clockSet : Bool) (stamp : Nat) (arg : SummaryArg) (r : DriverRecord) :
    DriverRecord :=
  if summaryActs r arg then
    match summaryCase clockSet arg.asOf.toNat r.lastMinute with
    | .stale => r
    | k => r.adopted lead arg stamp k
  else r

/-- R149, R150: an adoption up to the warning: the record taken over, and the events of steps 4 and 6. -/
def summaryTold (slot : Slot) (arg : SummaryArg) (k : SummaryCase) (s : State) : State :=
  let taken := (s.aau.record slot).takeSummary arg
  let confirmed := taken.confirm (minuteStamp s.cc.now)
  let placed := setRecord slot (confirmed.settleMinute k)
    (if taken.daily < taken.continuous then post .recorderInconsistent (slotNumber slot) s else s)
  if (reapplied k confirmed).any confirmed.creditQualifies then post .breakQualified (slotNumber slot) placed else placed

section frames
variable (q : Slot) (s : State)

theorem slotActivity_record (c : Slot × ActivityArg) : (slotActivity c s).aau.record q =
    if q = c.1 then (s.aau.record q).takeActivity c.2 (minuteStamp s.cc.now) else s.aau.record q := by
  by_cases hq : q = c.1
  · subst hq
    unfold slotActivity DriverRecord.takeActivity
    dsimp only
    split_ifs <;> simp_all [modifyRecord_record]
  · unfold slotActivity
    dsimp only
    split_ifs <;> simp [modifyRecord_record, hq]

@[simp] theorem slotActivity_lead (c : Slot × ActivityArg) : (slotActivity c s).aau.lead = s.aau.lead := by
  unfold slotActivity
  dsimp only
  split_ifs <;> simp

theorem adopt_eq (slot : Slot) (arg : SummaryArg) (k : SummaryCase) : adopt slot arg k s =
    modifyRecord slot DriverRecord.nextGeneration
      (post .summaryAdopted (slotNumber slot) (formWarn slot (summaryTold slot arg k s))) := by
  unfold summaryTold adopt
  dsimp only
  cases reapplied k (((s.aau.record slot).takeSummary arg).confirm (minuteStamp s.cc.now)) with
  | none => rfl
  | some a => rfl

@[simp] theorem summaryTold_aau (slot : Slot) (arg : SummaryArg) (k : SummaryCase) : (summaryTold slot arg k s).aau =
    (setRecord slot ((((s.aau.record slot).takeSummary arg).confirm (minuteStamp s.cc.now)).settleMinute k) s).aau := by
  have htold (b : Bool) (kind : EventKind) (n : Nat) (t : State) : (if b then post kind n t else t).aau = t.aau := by
    split <;> simp
  unfold summaryTold
  dsimp only
  rw [htold]
  cases slot <;> simp [setRecord, apply_ite State.aau]

theorem adopt_record (slot : Slot) (arg : SummaryArg) (k : SummaryCase) : (adopt slot arg k s).aau.record q =
    if q = slot then (s.aau.record q).adopted s.aau.lead arg (minuteStamp s.cc.now) k else s.aau.record q := by
  rw [adopt_eq, modifyRecord_record, post_aau, formWarn_record, summaryTold_aau, setRecord_record, setRecord_lead]
  split
  · next hq => subst hq; rfl
  · rfl

@[simp] theorem adopt_lead (slot : Slot) (arg : SummaryArg) (k : SummaryCase) : (adopt slot arg k s).aau.lead = s.aau.lead := by
  rw [adopt_eq, modifyRecord_lead, post_aau, formWarn_lead, summaryTold_aau, setRecord_lead]

theorem slotSummary_record (c : Slot × SummaryArg) : (slotSummary c s).aau.record q =
    if q = c.1 then (s.aau.record q).summarized s.aau.lead s.cc.isSet (minuteStamp s.cc.now) c.2 else s.aau.record q := by
  by_cases hq : q = c.1
  · subst hq
    unfold slotSummary DriverRecord.summarized
    dsimp only
    rw [if_pos rfl]
    split
    · cases summaryCase s.cc.isSet c.2.asOf.toNat (s.aau.record c.1).lastMinute <;> simp [adopt_record]
    · rfl
  · unfold slotSummary
    dsimp only
    rw [if_neg hq]
    split
    · split <;> simp [adopt_record, hq]
    · rfl

@[simp] theorem slotSummary_lead (c : Slot × SummaryArg) : (slotSummary c s).aau.lead = s.aau.lead := by
  unfold slotSummary
  dsimp only
  split
  · split <;> simp
  · rfl

end frames

/-! ### Both slots -/

theorem tallySecond_record (q : Slot) (s : State) : (tallySecond s).aau.record q = (s.aau.record q).tally := by
  cases q <;> rfl

theorem discardTallies_record (q : Slot) (s : State) :
    (discardTallies s).aau.record q = { s.aau.record q with tallies := .zero } := by cases q <;> rfl

theorem basisLost_record (q : Slot) (s : State) : (basisLost s).aau.record q = (s.aau.record q).loseLink := by
  cases q <;> rfl

/-- R118: the link LOST, before the driver records act on it. -/
def linkSilenced (s : State) : State :=
  silenceSource .recorder discardRecorder (post .sourceSilent Source.recorder.code
    (s.setRlu { s.rlu with live := false, timer := none, vehicle := s.rlu.vehicle.hold }))

theorem loseLink_eq (s : State) : loseLink s = basisLost (linkSilenced s) := rfl

theorem linkSilenced_frame (s : State) :
    OnlyChanges [.recorder, .gauges, .window, .lamps, .chimes, .events] s (linkSilenced s) :=
  .after (silenceSource_frame _ fun t => lampUpdate_frame t _) (by decide) <|
    .after (post_frame _ _ _) (by decide) <| .after (setRlu_frame _ _) (by decide) (.refl _ _)

theorem loseLink_record (q : Slot) (s : State) : (loseLink s).aau.record q = (s.aau.record q).loseLink := by
  rw [loseLink_eq, basisLost_record, (linkSilenced_frame s).aau (by decide)]

@[simp] theorem loseLink_lead (s : State) : (loseLink s).aau.lead = s.aau.lead :=
  (rfl : _ = (linkSilenced s).aau.lead).trans (by rw [(linkSilenced_frame s).aau (by decide)])

@[simp] theorem DriverRecord.rewarned_rewarned (lead : Nat) (r : DriverRecord) :
    (r.rewarned lead).rewarned lead = r.rewarned lead := by
  unfold rewarned
  split
  · next h =>
    have hcard : r.card = true := by simp at h; exact h.1
    rw [if_neg]
    simp [warned, hcard, nextGeneration, warnOf]
  · next h => rfl

theorem forEach_rewarn_record (l : List Slot) (q : Slot) (s : State) :
    (forEach rewarn l s).aau.record q = (if q ∈ l then (s.aau.record q).rewarned s.aau.lead else s.aau.record q) := by
  induction l generalizing s with
  | nil => rfl
  | cons slot l ih =>
    rw [forEach_cons, ih, rewarn_record, rewarn_lead]
    by_cases hq : q = slot <;> by_cases hl : q ∈ l <;> simp [hq, hl]

theorem forEach_rewarn_lead (l : List Slot) (s : State) : (forEach rewarn l s).aau.lead = s.aau.lead :=
  forEach_keeps (fun s => s.aau.lead) rewarn rewarn_lead l s

/-- R155: both records are judged again under the new lead. -/
theorem setLead_record (n : Nat) (q : Slot) (s : State) :
    (setLead n s).aau.record q = (s.aau.record q).rewarned n := by
  have hq : (s.setAau { s.aau with lead := n }).aau.record q = s.aau.record q := by cases q <;> rfl
  unfold setLead
  dsimp only
  rw [inSomeOrder, forEach_rewarn_record]
  simp only [(arrange_perm _ _).mem_iff, List.mem_filter, State.setChoices_aau, hq]
  split
  · rfl
  · next h =>
    rw [DriverRecord.rewarned, if_neg]
    have hmem : q ∈ [Slot.one, Slot.two] := by cases q <;> simp
    intro hchange
    exact h ⟨hmem, (warnChanges_iff _ _).2 (by rw [hq]; simpa using hchange)⟩

@[simp] theorem setLead_lead (n : Nat) (s : State) : (setLead n s).aau.lead = n := by
  unfold setLead
  dsimp only
  rw [inSomeOrder, forEach_rewarn_lead]
  rfl

end Sys2Proof.Machine
end

section
/-! CERTIFICATE. The driver records under every step: each rule of chapter 8 keeps a record within its ranges, with the warning that
its counts give; and with the clock and the reset values, what every step keeps of them. -/
namespace Sys2Proof.Machine

/-! ### One record -/

/-- R146: an entry of a history list. -/
def HistoryEntry.inRange (e : HistoryEntry) : Prop := 1 ≤ e.duration ∧ e.duration ≤ 1440

/-- R146: neighbouring entries hold different activities. -/
def HistoryEntry.differs (e f : HistoryEntry) : Prop := e.activity ≠ f.activity

theorem historySound_iff (h : List HistoryEntry) :
    historySound h = true ↔ (∀ e ∈ h, e.inRange) ∧ h.IsChain HistoryEntry.differs := by
  match h with
  | [] => simp [historySound]
  | [e] => simp [historySound, HistoryEntry.inRange]
  | e :: f :: rest =>
    have ih := historySound_iff (f :: rest)
    simp only [historySound, Bool.and_eq_true, decide_eq_true_eq, ih, List.isChain_cons_cons, List.forall_mem_cons,
      HistoryEntry.differs, HistoryEntry.inRange]
    tauto

/-- R136: no tally above a minute. -/
structure Tallies.Bounded (t : Tallies) : Prop where
  unknown : t.unknown ≤ 60
  rest : t.rest ≤ 60
  available : t.available ≤ 60
  work : t.work ≤ 60
  drive : t.drive ≤ 60

/-- R130, R146, R149: a record within its ranges, whatever its warning. -/
structure DriverRecord.InRange (r : DriverRecord) : Prop where
  continuous : r.continuous ≤ r.daily
  daily : r.daily ≤ 1440
  restRun : r.restRun ≤ 1440
  limits : 60 ≤ r.contLimit ∧ r.contLimit ≤ 600 ∧ 60 ≤ r.dailyLimit ∧ r.dailyLimit ≤ 1440
  tallies : r.tallies.Bounded
  history : r.history.length ≤ 24 ∧ (∀ e ∈ r.history, e.inRange) ∧ r.history.IsChain HistoryEntry.differs
  basis : r.confirmed = r.basisTimer.isSome

/-- R143: a record with the warning that its counts give. -/
def DriverRecord.WarnFormed (lead : Nat) (r : DriverRecord) : Prop := r.warn = if r.card then r.warnOf lead else .none

theorem DriverRecord.sound_iff (lead : Nat) (r : DriverRecord) : r.sound lead = true ↔ r.InRange ∧ r.WarnFormed lead := by
  simp only [DriverRecord.sound, Bool.and_eq_true, decide_eq_true_eq, historySound_iff]
  constructor
  · rintro ⟨⟨⟨⟨⟨⟨⟨⟨⟨⟨⟨⟨⟨⟨⟨hcont, hdaily⟩, hrest⟩, hc⟩, hc'⟩, hd⟩, hd'⟩, ht1⟩, ht2⟩, ht3⟩, ht4⟩, ht5⟩, hlen⟩, hhist⟩, hwarn⟩, hbasis⟩
    exact ⟨⟨hcont, hdaily, hrest, ⟨hc, hc', hd, hd'⟩, ⟨ht1, ht2, ht3, ht4, ht5⟩, ⟨hlen, hhist⟩, hbasis⟩, hwarn⟩
  · rintro ⟨⟨hcont, hdaily, hrest, ⟨hc, hc', hd, hd'⟩, ⟨ht1, ht2, ht3, ht4, ht5⟩, ⟨hlen, hhist⟩, hbasis⟩, hwarn⟩
    exact ⟨⟨⟨⟨⟨⟨⟨⟨⟨⟨⟨⟨⟨⟨⟨hcont, hdaily⟩, hrest⟩, hc⟩, hc'⟩, hd⟩, hd'⟩, ht1⟩, ht2⟩, ht3⟩, ht4⟩, ht5⟩, hlen⟩, hhist⟩, hwarn⟩, hbasis⟩

/-! ### The parts of a credit -/

section credit
variable {r : DriverRecord}

theorem Tallies.bounded_zero : Tallies.zero.Bounded := ⟨by decide, by decide, by decide, by decide, by decide⟩

theorem Tallies.Bounded.addSecond {t : Tallies} (h : t.Bounded) (a : Activity) : (t.addSecond a).Bounded := by
  cases a
  · exact { h with unknown := Nat.min_le_left _ _ }
  · exact { h with rest := Nat.min_le_left _ _ }
  · exact { h with available := Nat.min_le_left _ _ }
  · exact { h with work := Nat.min_le_left _ _ }
  · exact { h with drive := Nat.min_le_left _ _ }

/-- R146: the history keeps its ranges, its order and its length as a minute is added. -/
theorem extendHistory_sound {h : List HistoryEntry} (a : Activity) (stamp : Nat) (unset : Bool)
    (hs : h.length ≤ 24 ∧ (∀ e ∈ h, e.inRange) ∧ h.IsChain HistoryEntry.differs) :
    (extendHistory a stamp unset h).length ≤ 24 ∧ (∀ e ∈ extendHistory a stamp unset h, e.inRange) ∧
      (extendHistory a stamp unset h).IsChain HistoryEntry.differs := by
  obtain ⟨hlen, hrange, hchain⟩ := hs
  unfold extendHistory
  split
  · next e he =>
    have hlast := List.dropLast_append_getLast? e he
    have hchain' := hchain
    rw [← hlast, List.isChain_append] at hchain'
    split
    · next hact =>
      refine ⟨?_, ?_, ?_⟩
      · rw [← hlast] at hlen
        simpa using hlen
      · intro x hx
        rcases List.mem_append.1 hx with hx | hx
        · exact hrange x (List.mem_of_mem_dropLast hx)
        · rw [List.mem_singleton.1 hx]
          exact ⟨by show 1 ≤ min 1440 (e.duration + 1); omega, Nat.min_le_left _ _⟩
      · rw [List.isChain_append]
        exact ⟨hchain'.1, .singleton _, fun x hx y hy => by
          have hxe : x.activity ≠ e.activity := hchain'.2.2 x hx e rfl
          cases hy
          exact hxe⟩
    · next hact =>
      have hrange' : ∀ x ∈ h ++ [(⟨a, stamp, unset, 1⟩ : HistoryEntry)], x.inRange := by
        intro x hx
        rcases List.mem_append.1 hx with hx | hx
        · exact hrange x hx
        · rw [List.mem_singleton.1 hx]
          exact ⟨Nat.le_refl 1, by simp⟩
      have hnext : (h ++ [(⟨a, stamp, unset, 1⟩ : HistoryEntry)]).IsChain HistoryEntry.differs := by
        rw [List.isChain_append]
        refine ⟨hchain, .singleton _, fun x hx y hy => ?_⟩
        cases hy
        rw [he] at hx
        cases hx
        exact hact
      dsimp only
      split
      · exact ⟨by simp; omega, fun x hx => hrange' x (List.mem_of_mem_drop hx), hnext.drop 1⟩
      · next hshort => exact ⟨by omega, hrange', hnext⟩
  · refine ⟨by simp, fun x hx => ?_, .singleton _⟩
    rw [List.mem_singleton.1 hx]
    exact ⟨Nat.le_refl 1, by simp⟩

theorem DriverRecord.InRange.endRestRun (h : r.InRange) : r.endRestRun.InRange := by
  unfold DriverRecord.endRestRun
  split
  · exact { h with restRun := Nat.zero_le _ }
  · exact h

theorem DriverRecord.InRange.creditRest (h : r.InRange) : r.creditRest.InRange := by
  have hrun : min 1440 (r.restRun + 1) ≤ 1440 := Nat.min_le_left _ _
  unfold DriverRecord.creditRest
  dsimp only
  split
  · exact { h with continuous := Nat.zero_le _, restRun := hrun }
  · split
    · exact { h with continuous := Nat.zero_le _, daily := Nat.zero_le _, restRun := hrun }
    · exact { h with restRun := hrun }

/-- R140, R141: step 3 of a credit keeps continuous at or below daily. -/
theorem DriverRecord.InRange.creditCounters (h : r.InRange) (a : Activity) : (r.creditCounters a).InRange := by
  cases a
  case drive =>
    refine DriverRecord.InRange.endRestRun { h with continuous := ?_, daily := Nat.min_le_left _ _ }
    have hcont := h.continuous
    show min 1440 (r.continuous + 1) ≤ min 1440 (r.daily + 1)
    omega
  case rest => exact h.creditRest
  all_goals exact h.endRestRun

theorem DriverRecord.InRange.warned (h : r.InRange) (lead : Nat) : (r.warned lead).InRange := by
  unfold DriverRecord.warned
  split
  · exact { h with }
  · exact h

theorem DriverRecord.InRange.counted (h : r.InRange) (a : Activity) (stamp : Nat) (unset : Bool) :
    (r.counted a stamp unset).InRange := by
  have hhist := extendHistory_sound a stamp unset h.history
  unfold DriverRecord.counted
  split
  · exact { h with history := hhist }
  · exact { h.creditCounters a with history := hhist }

end credit

/-! ### The warning -/

section warn
variable {r : DriverRecord} {lead : Nat}

/-- R143: what a warning is judged by: card, count, limit; an ABSENT record holds none. -/
theorem DriverRecord.WarnFormed.of_same {r' : DriverRecord} (h : r.WarnFormed lead)
    (hsame : r'.card = r.card ∧ r'.continuous = r.continuous ∧ r'.contLimit = r.contLimit ∧ r'.warn = r.warn) :
    r'.WarnFormed lead := by
  obtain ⟨hcard, hcont, hlimit, hwarn⟩ := hsame
  rw [WarnFormed, hwarn, hcard, warnOf, hcont, hlimit]
  exact h

theorem DriverRecord.warnFormed_warned (habsent : r.card = false → r.warn = .none) : (r.warned lead).WarnFormed lead := by
  unfold warned
  split
  · next h => exact (if_pos h).symm
  · next h =>
    rw [WarnFormed, if_neg h]
    exact habsent (by simpa using h)

theorem DriverRecord.WarnFormed.absent (h : r.WarnFormed lead) (hcard : r.card = false) : r.warn = .none := by
  simpa [WarnFormed, hcard] using h

end warn

/-! ### Both records -/

/-- A record as `DriverRecord.sound` asks. -/
structure DriverRecord.Sound (lead : Nat) (r : DriverRecord) : Prop where
  inRange : r.InRange
  warnFormed : r.WarnFormed lead

/-- Both records sound under a lead of at most 60. -/
structure DriversSound (s : State) : Prop where
  lead : s.aau.lead ≤ 60
  record : ∀ q, (s.aau.record q).Sound s.aau.lead

theorem driversSound_iff (s : State) : s.driversSound = true ↔ DriversSound s := by
  simp only [State.driversSound, Bool.and_eq_true, decide_eq_true_eq, DriverRecord.sound_iff]
  constructor
  · rintro ⟨⟨hlead, hone⟩, htwo⟩
    exact ⟨hlead, fun q => by cases q; exacts [⟨hone.1, hone.2⟩, ⟨htwo.1, htwo.2⟩]⟩
  · rintro ⟨hlead, hrecord⟩
    exact ⟨⟨hlead, (hrecord .one).inRange, (hrecord .one).warnFormed⟩, (hrecord .two).inRange, (hrecord .two).warnFormed⟩

theorem driversSound_readsOnly : ReadsOnly [.drivers] DriversSound := by
  intro s t hsame hs
  have haau : t.aau = s.aau := hsame .drivers (by simp)
  exact ⟨by rw [haau]; exact hs.lead, fun q => by rw [haau]; exact hs.record q⟩

section rules
variable {r : DriverRecord} {lead : Nat}

theorem DriverRecord.sound_reset (lead : Nat) : DriverRecord.reset.Sound lead :=
  ⟨⟨by decide, by decide, by decide, by decide, Tallies.bounded_zero, ⟨by decide, by simp [DriverRecord.reset],
    by simp [DriverRecord.reset]⟩, rfl⟩, rfl⟩

theorem DriverRecord.Sound.nextGeneration (h : r.Sound lead) : r.nextGeneration.Sound lead :=
  ⟨{ h.inRange with }, h.warnFormed.of_same ⟨rfl, rfl, rfl, rfl⟩⟩

theorem DriverRecord.Sound.tally (h : r.Sound lead) : r.tally.Sound lead := by
  unfold DriverRecord.tally
  split
  · exact ⟨{ h.inRange with tallies := h.inRange.tallies.addSecond _ }, h.warnFormed.of_same ⟨rfl, rfl, rfl, rfl⟩⟩
  · exact h

theorem DriverRecord.Sound.discard (h : r.Sound lead) : DriverRecord.Sound lead { r with tallies := .zero } :=
  ⟨{ h.inRange with tallies := Tallies.bounded_zero }, h.warnFormed.of_same ⟨rfl, rfl, rfl, rfl⟩⟩

theorem DriverRecord.Sound.loseLink (h : r.Sound lead) : r.loseLink.Sound lead := by
  unfold DriverRecord.loseLink
  dsimp only
  split
  · exact ⟨{ h.inRange with basis := rfl }, h.warnFormed.of_same ⟨rfl, rfl, rfl, rfl⟩⟩
  · exact ⟨{ h.inRange with basis := rfl }, h.warnFormed.of_same ⟨rfl, rfl, rfl, rfl⟩⟩

theorem DriverRecord.Sound.basisExpires (h : r.Sound lead) : r.basisExpires.Sound lead :=
  ⟨{ h.inRange with basis := rfl }, h.warnFormed.of_same ⟨rfl, rfl, rfl, rfl⟩⟩

theorem DriverRecord.Sound.pass (h : r.Sound lead) : r.pass.Sound lead :=
  ⟨{ h.inRange with basis := h.inRange.basis.trans (isSome_countDown _).symm }, h.warnFormed.of_same ⟨rfl, rfl, rfl, rfl⟩⟩

theorem DriverRecord.creditCounters_same (a : Activity) (r : DriverRecord) :
    (r.creditCounters a).card = r.card ∧ (r.creditCounters a).warn = r.warn := by
  cases a <;> simp only [creditCounters, creditDrive, creditRest, endRestRun] <;> split_ifs <;> exact ⟨rfl, rfl⟩

theorem DriverRecord.Sound.credited (h : r.Sound lead) (a : Activity) (stamp : Nat) (unset : Bool) :
    (r.credited lead a stamp unset).Sound lead := by
  have hcounted := h.inRange.counted a stamp unset
  unfold DriverRecord.credited
  split
  · next hskip =>
    refine ⟨{ hcounted with tallies := Tallies.bounded_zero }, h.warnFormed.of_same ?_⟩
    rw [DriverRecord.counted, if_pos hskip]
    exact ⟨rfl, rfl, rfl, rfl⟩
  · next hskip =>
    have hwarned := hcounted.warned lead
    refine ⟨{ hwarned with tallies := Tallies.bounded_zero }, ?_⟩
    refine (warnFormed_warned (r := r.counted a stamp unset) (lead := lead) fun hcard => ?_).of_same ⟨rfl, rfl, rfl, rfl⟩
    obtain ⟨hcard', hwarn⟩ := creditCounters_same a r
    simp only [DriverRecord.counted, hskip] at hcard ⊢
    exact hwarn.trans (h.warnFormed.absent (hcard'.symm.trans hcard))

theorem DriverRecord.Sound.rewarned {n : Nat} (h : r.Sound lead) : (r.rewarned n).Sound n := by
  unfold DriverRecord.rewarned
  split
  · exact Sound.nextGeneration ⟨h.inRange.warned n, warnFormed_warned h.warnFormed.absent⟩
  · next hkeep =>
    refine ⟨h.inRange, ?_⟩
    rw [WarnFormed]
    cases hcard : r.card
    · exact h.warnFormed.absent hcard
    · rw [if_pos rfl]
      by_contra hne
      exact hkeep (by simp [hcard, Ne.symm hne])

/-- R131 to R134: a card inserted, removed, or an activity changed. -/
theorem DriverRecord.Sound.takeActivity (hlead : lead ≤ 60) (h : r.Sound lead) (arg : ActivityArg) (stamp : Nat) :
    (r.takeActivity arg stamp).Sound lead := by
  have hreset := (DriverRecord.sound_reset lead).inRange
  unfold DriverRecord.takeActivity
  split
  · split
    · split
      · exact Sound.nextGeneration ⟨{ h.inRange with }, h.warnFormed.of_same ⟨rfl, rfl, rfl, rfl⟩⟩
      · refine ⟨{ hreset with }, ?_⟩
        have hnone : (r.insertCard arg stamp).warnOf lead = .none := by
          have hfar : ¬270 - lead ≤ 0 := by omega
          simp [DriverRecord.warnOf, DriverRecord.insertCard, DriverRecord.reset, hfar]
        exact hnone.symm
    · exact Sound.nextGeneration ⟨{ h.inRange with tallies := Tallies.bounded_zero }, rfl⟩
  · exact h

/-- R149: what a summary brings stands within the ranges, continuous at or below daily. -/
theorem DriverRecord.InRange.confirmed (h : r.InRange) (arg : SummaryArg) (stamp : Nat) :
    ((r.takeSummary arg).confirm stamp).InRange where
  continuous := Nat.min_le_right _ _
  daily := Nat.min_le_left _ _
  restRun := Nat.min_le_left _ _
  limits := ⟨(clamp_bounds (by decide) _).1, (clamp_bounds (by decide) _).2, clamp_bounds (by decide) _⟩
  tallies := h.tallies
  history := h.history
  basis := rfl

theorem DriverRecord.InRange.settleMinute (h : r.InRange) (k : SummaryCase) : (r.settleMinute k).InRange := by
  unfold DriverRecord.settleMinute
  dsimp only
  split
  · exact { h.creditCounters _ with }
  · exact { h with }

theorem DriverRecord.settleMinute_same (k : SummaryCase) (r : DriverRecord) :
    (r.settleMinute k).card = r.card ∧ (r.settleMinute k).warn = r.warn := by
  unfold settleMinute
  dsimp only
  split
  · exact creditCounters_same _ r
  · exact ⟨rfl, rfl⟩

theorem DriverRecord.Sound.adopted (h : r.Sound lead) (arg : SummaryArg) (stamp : Nat) (k : SummaryCase) :
    (r.adopted lead arg stamp k).Sound lead := by
  have hsettled := (h.inRange.confirmed arg stamp).settleMinute k
  obtain ⟨hcard, hwarn⟩ := settleMinute_same k ((r.takeSummary arg).confirm stamp)
  exact Sound.nextGeneration ⟨hsettled.warned lead, warnFormed_warned fun habsent =>
    hwarn.trans (h.warnFormed.absent (hcard.symm.trans habsent))⟩

theorem DriverRecord.Sound.summarized (h : r.Sound lead) (clockSet : Bool) (stamp : Nat) (arg : SummaryArg) :
    (r.summarized lead clockSet stamp arg).Sound lead := by
  unfold DriverRecord.summarized
  split
  · split
    · exact h
    · exact h.adopted arg stamp _
  · exact h

end rules

/-! ### Every step -/

/-- An operation that keeps the lead, and each record sound. -/
theorem DriversSound.of_records {s t : State} (hs : DriversSound s) (hlead : t.aau.lead = s.aau.lead)
    (h : ∀ q, (t.aau.record q).Sound s.aau.lead) : DriversSound t :=
  ⟨hlead ▸ hs.lead, fun q => hlead.symm ▸ h q⟩

/-- An operation on the record of one slot. -/
theorem DriversSound.of_slot {s t : State} (hs : DriversSound s) {slot : Slot} {r : Slot → DriverRecord}
    (hlead : t.aau.lead = s.aau.lead) (h : ∀ q, t.aau.record q = if q = slot then r q else s.aau.record q)
    (hr : (r slot).Sound s.aau.lead) : DriversSound t := by
  refine hs.of_records hlead fun q => ?_
  rw [h q]
  split
  · next hq => exact hq ▸ hr
  · exact hs.record q

theorem driversSound_reset : Accounting.reset.lead ≤ 60 ∧ ∀ q, (Accounting.reset.record q).Sound Accounting.reset.lead :=
  ⟨by decide, fun q => by cases q <;> exact DriverRecord.sound_reset _⟩

theorem driversSound_kept : Kept DriversSound where
  act {W s t} hout a hs := by
    by_cases hw : ∀ b ∈ [Block.drivers], b ∉ W
    · exact driversSound_readsOnly.keeps a.frame hw hs
    · cases a <;> simp at hw
      case loadClock time b ht hr =>
        have haau : (loadClock time b s).aau = (discardTallies s).aau := by
          unfold loadClock
          dsimp only
          split <;> simp [discardTallies]
        exact hs.of_records (by rw [haau]; rfl) fun q => by
          rw [haau, discardTallies_record]
          exact (hs.record q).discard
      case tally => exact hs.of_records rfl fun q => by rw [tallySecond_record]; exact (hs.record q).tally
      case discardTallies => exact hs.of_records rfl fun q => by rw [discardTallies_record]; exact (hs.record q).discard
      case creditSlot stamp c =>
        exact hs.of_slot (creditSlot_lead _ _ s) (fun q => creditSlot_record _ _ q s) ((hs.record c.1).credited _ _ _)
      case slotActivity c =>
        exact hs.of_slot (slotActivity_lead s _) (fun q => slotActivity_record q s c)
          ((hs.record c.1).takeActivity hs.lead _ _)
      case slotSummary c =>
        exact hs.of_slot (slotSummary_lead s _) (fun q => slotSummary_record q s c) ((hs.record c.1).summarized _ _ _)
      case setLead n hn =>
        exact ⟨by rw [setLead_lead]; exact hn, fun q => by rw [setLead_record, setLead_lead]; exact (hs.record q).rewarned⟩
      case basisExpires slot =>
        exact hs.of_slot (modifyRecord_lead ..) (fun q => modifyRecord_record slot q _ s) (hs.record slot).basisExpires
      case loseLink =>
        exact hs.of_records (loseLink_lead s) fun q => by rw [loseLink_record]; exact (hs.record q).loseLink
  always {W s t} a hs := by
    by_cases hw : ∀ b ∈ [Block.drivers], b ∉ W
    · exact driversSound_readsOnly.keeps a.frame hw hs
    · cases a <;> simp [resetBlocks, tickBlocks] at hw
      case beginCause => exact ⟨driversSound_reset.1, driversSound_reset.2⟩
      case commandReset => exact ⟨driversSound_reset.1, driversSound_reset.2⟩
      case tick =>
        cases h : isOut s
        · exact driversSound_readsOnly.keeps (tick_frame_reset h) (by decide) hs
        · have haau : (tick s).aau = s.aau.pass := (tick_frame_out h).aau (by decide)
          exact hs.of_records (by rw [haau]; rfl) fun q => by
            rw [haau]
            cases q
            exacts [(hs.record .one).pass, (hs.record .two).pass]

/-- Settles O59: the clock, the driver records and a part held in reset are each kept by every operation. -/
theorem everyStepKeepsAccountsSound : Obligations.EveryStepKeepsAccountsSound := by
  intro s t h
  simp only [clockSound_iff, driversSound_iff, heldSound_iff]
  exact ⟨clockSound_kept.step h, driversSound_kept.step h, heldSound_kept.step h⟩

end Sys2Proof.Machine
end

section
/-! CERTIFICATE. The lamp matrix under every step: its ranges, the plan of a frame that scans in RUN_CHECK and RUN alone, and a hold
that its holders keep. -/
namespace Sys2Proof.Machine

/-! ### The hold and the readings -/

/-- R77 to R81: `Hold.sound`, clause by clause. -/
structure Hold.Sound (cycle : Bool) (h : Hold) : Prop where
  internal : h.internal = h.internalTimer.isSome
  portS : h.portS = h.portSTimer.isSome
  kept : h.internal = true ∨ h.portS = true → h.active = true
  inCycle : h.active = true ∨ h.request = true → cycle = true
  request : h.request = true → h.internal = false ∧ h.portS = false

theorem Hold.sound_iff (cycle : Bool) (h : Hold) : h.sound cycle = true ↔ h.Sound cycle := by
  obtain ⟨internal, portS, request, active, ti, ts⟩ := h
  constructor
  · intro hs
    simp only [Hold.sound, Bool.and_eq_true, decide_eq_true_eq] at hs
    obtain ⟨⟨⟨⟨hi, hp⟩, hkept⟩, hcycle⟩, hrequest⟩ := hs
    refine ⟨hi, hp, ?_, ?_, ?_⟩ <;> revert hkept hcycle hrequest <;> cases internal <;> cases portS <;> cases request <;>
      cases active <;> cases cycle <;> simp
  · rintro ⟨hi, hp, hkept, hcycle, hrequest⟩
    simp only [Hold.sound, Bool.and_eq_true, decide_eq_true_eq]
    refine ⟨⟨⟨⟨hi, hp⟩, ?_⟩, ?_⟩, ?_⟩ <;> revert hkept hcycle hrequest <;> cases internal <;> cases portS <;> cases request <;>
      cases active <;> cases cycle <;> simp

section hold
variable {cycle : Bool} {h : Hold}

theorem Hold.sound_reset (cycle : Bool) : Hold.reset.Sound cycle := ⟨rfl, rfl, by simp [reset], by simp [reset], by simp [reset]⟩

theorem Hold.Sound.dropInternal (hs : h.Sound cycle) : h.dropInternal.Sound cycle :=
  { hs with
    internal := rfl
    kept := fun hk => hs.kept (.inr (hk.resolve_left (by simp [Hold.dropInternal])))
    request := fun hr => ⟨rfl, (hs.request hr).2⟩ }

theorem Hold.Sound.dropPortS (hs : h.Sound cycle) : h.dropPortS.Sound cycle :=
  { hs with
    portS := rfl
    kept := fun hk => hs.kept (.inl (hk.resolve_right (by simp [Hold.dropPortS])))
    request := fun hr => ⟨(hs.request hr).1, rfl⟩ }

/-- R79: a grant is given in RUN_CHECK and RUN alone. -/
theorem Hold.Sound.grantPortS (hs : h.Sound cycle) (hc : cycle = true) : h.grantPortS.Sound cycle :=
  { hs with
    portS := rfl
    kept := fun _ => rfl
    inCycle := fun _ => hc
    request := fun hr => by simp [Hold.grantPortS] at hr }

theorem Hold.Sound.withoutRequest (hs : h.Sound cycle) : Hold.Sound cycle { h with request := false } :=
  { hs with
    inCycle := fun hc => hs.inCycle (.inl (hc.resolve_right (by simp)))
    request := fun hr => by simp at hr }

/-- R79: a request waits where no one holds. -/
theorem Hold.Sound.withRequest (hs : h.Sound cycle) (hc : cycle = true) (hi : h.internal = false) (hp : h.portS = false) :
    Hold.Sound cycle { h with request := true } :=
  { hs with inCycle := fun _ => hc, request := fun _ => ⟨hi, hp⟩ }

/-- R80: a hold that no one keeps ends. -/
theorem Hold.Sound.ended (hs : h.Sound cycle) (hi : h.internal = false) (hp : h.portS = false) :
    Hold.Sound cycle { h with active := false } :=
  { hs with
    kept := fun hk => by rw [hi, hp] at hk; simp at hk
    inCycle := fun hc => hs.inCycle (.inr (hc.resolve_left (by simp))) }

theorem Hold.Sound.begun (hs : h.Sound false) {n : Nat} :
    Hold.Sound true { h with internal := true, active := true, internalTimer := some n } :=
  { hs with
    internal := rfl
    kept := fun _ => rfl
    inCycle := fun _ => rfl
    request := fun hr => absurd (hs.inCycle (.inr hr)) (by decide) }

theorem Hold.Sound.mono (hs : h.Sound cycle) {cycle' : Bool} (hc : cycle = true → cycle' = true) : h.Sound cycle' :=
  { hs with inCycle := fun h => hc (hs.inCycle h) }

end hold

theorem OpenRecord.sound_iff (r : OpenRecord) : r.sound = true ↔ r.low ≤ 3 ∧ r.good ≤ 3 ∧ (r.low = 0 ∨ r.good = 0) := by
  simp [OpenRecord.sound, and_assoc]

theorem OpenRecord.sound_read {r : OpenRecord} (ok : Bool) : (r.read ok).sound = true := by
  rw [sound_iff]
  unfold read
  split
  · exact ⟨Nat.zero_le _, Nat.min_le_left _ _, .inl rfl⟩
  · exact ⟨Nat.min_le_left _ _, Nat.zero_le _, .inr rfl⟩

/-! ### The matrix -/

/-- `State.matrixSound` of a matrix, in RUN_CHECK and RUN or outside them. -/
structure LampMatrix.Sound (cycle : Bool) (m : LampMatrix) : Prop where
  slot : m.slot ≤ 6
  slowTime : m.slowTime < 1000
  fastTime : m.fastTime < 250
  dimming : m.dimming ≤ 15
  floor : 4 ≤ m.floor ∧ m.floor ≤ 16
  floorRequested : 4 ≤ m.floorRequested ∧ m.floorRequested ≤ 16
  readings : ∀ n, (m.readings.get n).sound = true
  plan : ∀ n d, m.plan.get n = some d → 1 ≤ d ∧ d ≤ 16
  scanning : m.scanning = true → cycle = true
  dark : m.scanning = false → ∀ n, m.plan.get n = none
  hold : m.hold.Sound cycle

theorem matrixSound_iff (s : State) : s.matrixSound = true ↔ s.lmd.Sound (inCycle s) := by
  simp only [State.matrixSound, Bool.and_eq_true, Bool.or_eq_true, Bool.not_eq_true', decide_eq_true_eq, Tab.all_iff,
    Hold.sound_iff, Option.isNone_iff_eq_none]
  have hplan : (∀ n, (match s.lmd.plan.get n with | some d => decide (1 ≤ d) && decide (d ≤ 16) | none => true) = true) ↔
      ∀ n d, s.lmd.plan.get n = some d → 1 ≤ d ∧ d ≤ 16 := by
    refine forall_congr' fun n => ?_
    cases s.lmd.plan.get n <;> simp
  constructor
  · rintro ⟨⟨⟨⟨⟨⟨⟨⟨⟨⟨⟨⟨hslot, hslow⟩, hfast⟩, hdim⟩, hf⟩, hf'⟩, hr⟩, hr'⟩, hread⟩, hp⟩, hscan⟩, hdark⟩, hhold⟩
    exact ⟨hslot, hslow, hfast, hdim, ⟨hf, hf'⟩, ⟨hr, hr'⟩, hread, hplan.1 hp, fun h => hscan.resolve_right (by simp [h]),
      fun h => hdark.resolve_left (by simp [h]), hhold⟩
  · rintro ⟨hslot, hslow, hfast, hdim, ⟨hf, hf'⟩, ⟨hr, hr'⟩, hread, hp, hscan, hdark, hhold⟩
    refine ⟨⟨⟨⟨⟨⟨⟨⟨⟨⟨⟨⟨hslot, hslow⟩, hfast⟩, hdim⟩, hf⟩, hf'⟩, hr⟩, hr'⟩, hread⟩, hplan.2 hp⟩, ?_⟩, ?_⟩, hhold⟩
    · cases h : s.lmd.scanning
      · exact .inr rfl
      · exact .inl (hscan h)
    · cases h : s.lmd.scanning
      · exact .inr (hdark h)
      · exact .inl rfl

/-- The matrix of a state is sound. -/
def MatrixSound (s : State) : Prop := s.lmd.Sound (inCycle s)

theorem matrixSound_readsOnly : ReadsOnly [.matrix, .power] MatrixSound := by
  intro s t hsame hs
  have hlmd : t.lmd = s.lmd := hsame .matrix (by simp)
  have hpwc : t.pwc = s.pwc := hsame .power (by simp)
  have hcycle : inCycle t = inCycle s := by simp [inCycle, hpwc]
  rw [MatrixSound, hlmd, hcycle]
  exact hs

section changes
variable {s t : State} {cycle : Bool} {m : LampMatrix}

/-- An operation that leaves the matrix, and whether the part is in RUN_CHECK or RUN. -/
theorem MatrixSound.of_same (hs : MatrixSound s) (hlmd : t.lmd = s.lmd) (hstate : t.pwc.state = s.pwc.state) :
    MatrixSound t := by
  have hcycle : inCycle t = inCycle s := by simp [inCycle, hstate]
  rw [MatrixSound, hlmd, hcycle]
  exact hs

theorem MatrixSound.setLmd (h : m.Sound (inCycle s)) : MatrixSound (s.setLmd m) := h

/-- A change of the hold alone, with what is posted of it. -/
theorem MatrixSound.hold (hs : MatrixSound s) {f : Hold → Hold} (hf : (f s.lmd.hold).Sound (inCycle s)) :
    MatrixSound (modifyHold f s) := { hs with hold := hf }

theorem MatrixSound.post (hs : MatrixSound s) (k : EventKind) (n : Nat) : MatrixSound (post k n s) :=
  matrixSound_readsOnly.keeps (post_frame s k n) (by decide) hs

theorem MatrixSound.grantPortS (hs : MatrixSound s) (hc : inCycle s = true) : MatrixSound (grantPortS s) :=
  (MatrixSound.hold hs (Hold.Sound.grantPortS (LampMatrix.Sound.hold hs) hc)).post _ _

theorem MatrixSound.requestHold (hs : MatrixSound s) (hc : inCycle s = true) : MatrixSound (requestHold s) := by
  unfold Machine.requestHold
  dsimp only
  split
  · exact hs
  · next hfree =>
    simp only [Bool.or_eq_true, not_or, Bool.not_eq_true] at hfree
    split
    · exact hs.grantPortS hc
    · next hi =>
      exact MatrixSound.hold hs ((LampMatrix.Sound.hold hs).withRequest hc (by simpa using hi) hfree.1)

theorem MatrixSound.releaseHold (hs : MatrixSound s) : MatrixSound (releaseHold s) := by
  unfold Machine.releaseHold
  split
  · exact MatrixSound.hold hs (LampMatrix.Sound.hold hs).withoutRequest
  · split
    · exact MatrixSound.hold hs (LampMatrix.Sound.hold hs).dropPortS
    · exact hs

theorem LampMatrix.Sound.flash (h : m.Sound cycle) (n : Nat) : (m.flash n).Sound cycle :=
  { h with slowTime := Nat.mod_lt _ (by decide), fastTime := Nat.mod_lt _ (by decide) }

/-- R71: every duty is at least 1 and at most 16. -/
theorem dutyOf_bounds (h : m.Sound cycle) (low : Bool) (cls : LampClass) :
    1 ≤ dutyOf m low cls ∧ dutyOf m low cls ≤ 16 := by
  obtain ⟨hfloor, hfloor'⟩ := h.floor
  have hdim := h.dimming
  unfold dutyOf
  split
  · omega
  · split
    · omega
    · cases cls
      · show 1 ≤ max (m.dimming + 1) m.floor ∧ max (m.dimming + 1) m.floor ≤ 16; omega
      · show 1 ≤ m.dimming + 1 ∧ m.dimming + 1 ≤ 16; omega

theorem framePlan_get (s : State) (n : Fin 48) : (framePlan s).get n =
    if inCycle s && (s.lmd.hold.active || litByState s.lmd (s.lamps.get n).resolved) then
      some (dutyOf s.lmd s.pwc.supplyLow (s.lamps.get n).cls)
    else none := by
  unfold framePlan
  rw [Tab.get_map]

/-- R67, R68: the plan that a frame starts with. -/
theorem MatrixSound.planned (hs : MatrixSound s) :
    MatrixSound (s.setLmd { s.lmd with plan := framePlan s, scanning := inCycle s }) :=
  { hs with
    plan := fun n d hd => by
      have hd' : (framePlan s).get n = some d := hd
      rw [framePlan_get] at hd'
      split at hd'
      · cases hd'
        exact dutyOf_bounds hs _ _
      · cases hd'
    scanning := fun h => h
    dark := fun h n => by
      have hcycle : inCycle s = false := h
      show (framePlan s).get n = none
      rw [framePlan_get, hcycle]
      rfl }

theorem MatrixSound.scanFrameStart (hs : MatrixSound s) : MatrixSound (scanFrameStart s) := by
  have hstart : MatrixSound (s.setLmd { s.lmd.flash (6 - s.lmd.slot) with slot := 0 }) :=
    { LampMatrix.Sound.flash hs (6 - s.lmd.slot) with slot := Nat.zero_le _ }
  have hgrant {s : State} (hs : MatrixSound s) : MatrixSound (grantPending s) := by
    unfold grantPending
    split
    · next h => exact hs.grantPortS ((LampMatrix.Sound.hold hs).inCycle (.inr h))
    · exact hs
  have hend {s : State} (hs : MatrixSound s) : MatrixSound (endUnheld s) := by
    unfold endUnheld
    dsimp only
    split
    · next h =>
      simp only [Bool.and_eq_true, Bool.not_eq_true'] at h
      exact (MatrixSound.hold hs ((LampMatrix.Sound.hold hs).ended h.1.2 h.2)).post _ _
    · exact hs
  have ht := hend (hgrant hstart)
  exact MatrixSound.planned (MatrixSound.setLmd { ht with floor := LampMatrix.Sound.floorRequested ht })

theorem MatrixSound.readLamp (hs : MatrixSound s) (draws : Tab Bool 8) (n : Fin 48) : MatrixSound (readLamp draws n s) := by
  have hread : MatrixSound
      (s.setLmd { s.lmd with
        readings := s.lmd.readings.set n ((s.lmd.readings.get n).read (draws.get (lampColumn n))) }) :=
    { hs with
      readings := fun k => by
        show ((s.lmd.readings.set n _).get k).sound = true
        rw [Tab.get_set]
        split
        · exact OpenRecord.sound_read _
        · exact LampMatrix.Sound.readings hs k }
  unfold Machine.readLamp
  dsimp only
  split
  · exact hread
  · exact matrixSound_readsOnly.keeps (lampUpdate_frame _ _) (by decide) (hread.post _ _)

theorem MatrixSound.rowSlotEnd (hs : MatrixSound s) (draws : Tab Bool 8) : MatrixSound (rowSlotEnd draws s) := by
  unfold Machine.rowSlotEnd
  split
  · next hslot =>
    have hall (l : List (Fin 48)) {s : State} (hs : MatrixSound s) : MatrixSound (forEach (Machine.readLamp draws) l s) :=
      forEach_preserves MatrixSound _ (fun n _ hs => MatrixSound.readLamp hs draws n) l _ hs
    have htold := inSomeOrder_preserves MatrixSound _
      (fun s n hs => matrixSound_readsOnly.keeps (setChoices_frame s n) (by decide) hs) (fun l _ hs => hall l hs)
      (faultsChanged draws s.lmd) _ (hall (faultsKept draws s.lmd) hs)
    exact { LampMatrix.Sound.flash htold 1 with slot := hslot }
  · exact hs

/-! ### The ignition cycle -/

theorem LampMatrix.Sound.mono (h : m.Sound cycle) {cycle' : Bool} (hc : cycle = true → cycle' = true) : m.Sound cycle' :=
  { h with scanning := fun hs => hc (h.scanning hs), hold := h.hold.mono hc }

theorem LampMatrix.Sound.pass (h : m.Sound cycle) : m.pass.Sound cycle :=
  { h with hold := { h.hold with
      internal := h.hold.internal.trans (isSome_countDown _).symm
      portS := h.hold.portS.trans (isSome_countDown _).symm } }

/-- R68, R81: the matrix after the cycle has been left: a dark plan, rows off, and the hold cleared. -/
theorem leaveCycle_lmd (s : State) :
    (leaveCycle s).lmd = { s.lmd with plan := .fill none, scanning := false, hold := .reset } := by
  have hstopped : (cycleStopped s).lmd = { s.lmd with plan := .fill none, scanning := false, hold := .reset } := by
    unfold cycleStopped dropHold
    dsimp only
    split <;> simp [darken, enterPower]
  have hleft : (cycleLeft s).lmd = (cycleStopped s).lmd := by
    unfold cycleLeft
    split <;> simp
  rw [leaveCycle_eq]
  split <;> simp [hleft, hstopped]

theorem matrixSound_passages : PassagesKeep MatrixSound where
  flag s b hs := hs.of_same rfl rfl
  runEntry s h hs := by
    rw [MatrixSound, inCycle_runEntry, runEntry_lmd]
    exact LampMatrix.Sound.mono hs fun _ => rfl
  parkingDone s h hs := by
    rw [MatrixSound, inCycle_parkingDone, parkingDone_lmd]
    exact LampMatrix.Sound.mono hs (by simp [inCycle, h])
  enterRunCheck s h hs := by
    have hlmd : (enterRunCheck s).lmd = { s.lmd with
        hold := { s.lmd.hold with internal := true, active := true, internalTimer := some Config.selfCheckPeriod } } := by
      rw [enterRunCheck_eq]
      split
      · rw [awaken_lmd]; rfl
      · rfl
    have hs' : s.lmd.Sound false := h ▸ hs
    rw [MatrixSound, inCycle_enterRunCheck, hlmd]
    exact { hs'.mono (cycle' := true) (by simp) with hold := hs'.hold.begun }
  leaveCycle s h hs := by
    rw [MatrixSound, inCycle_leaveCycle, leaveCycle_lmd]
    exact { hs with
      plan := fun n d hd => by simp at hd
      scanning := fun h => by cases h
      dark := fun _ n => Tab.get_fill _ n
      hold := Hold.sound_reset _ }

theorem matrixSound_edge (i : Fin 12) (hs : MatrixSound s) : MatrixSound (edge i s) :=
  matrixSound_passages.edge
    (fun i s hs => matrixSound_readsOnly.keeps (edgeTold_frame s i) (by decide) hs)
    (fun l s hs => matrixSound_readsOnly.keeps (lampUpdate_frame s _) (by decide) hs) i hs

end changes

theorem LampMatrix.sound_reset (cycle : Bool) : LampMatrix.reset.Sound cycle where
  slot := by decide
  slowTime := by decide
  fastTime := by decide
  dimming := by decide
  floor := by decide
  floorRequested := by decide
  readings n := by show ((Tab.fill _ : Tab OpenRecord 48).get n).sound = true; rw [Tab.get_fill]; rfl
  plan n d hd := by
    have hd' : (Tab.fill none : Tab (Option Nat) 48).get n = some d := hd
    rw [Tab.get_fill] at hd'
    cases hd'
  scanning h := by cases h
  dark _ n := Tab.get_fill _ n
  hold := Hold.sound_reset cycle

theorem matrixSound_kept : Kept MatrixSound where
  act {W s t} hout a hs := by
    by_cases hw : ∀ b ∈ [Block.matrix, .power], b ∉ W
    · exact matrixSound_readsOnly.keeps a.frame hw hs
    · cases a <;> simp at hw
      case clearCauses => exact hs.of_same rfl rfl
      case applyChannel args k _ _ _ _ =>
        rw [applyChannel_eq]
        exact matrixSound_passages.powerConditions (matrixSound_readsOnly.keeps (channelShown_frame k s) (by decide) hs)
      case motionInterval =>
        rw [motionInterval_eq]
        split
        · exact matrixSound_readsOnly.keeps (setGe_frame s _) (by decide) hs
        · exact matrixSound_passages.powerConditions (matrixSound_readsOnly.keeps (movedOn_frame s) (by decide) hs)
      case setDimming n hn => exact MatrixSound.setLmd { hs with dimming := hn }
      case setFloor n hn => exact MatrixSound.setLmd { hs with floorRequested := hn }
      case requestHold hc => exact hs.requestHold hc
      case releaseHold => exact hs.releaseHold
      case dropInternal => exact MatrixSound.hold hs (LampMatrix.Sound.hold hs).dropInternal
      case dropPortS => exact MatrixSound.hold hs (LampMatrix.Sound.hold hs).dropPortS
      case scanFrameStart => exact hs.scanFrameStart
      case rowSlotEnd draws => exact hs.rowSlotEnd draws
      case edge i => exact matrixSound_edge i hs
      case sampleInputs mv =>
        exact sampleInputs_keeps (fun n s hs => matrixSound_readsOnly.keeps (setChoices_frame s n) (by decide) hs)
          (fun mv s hs => matrixSound_readsOnly.keeps (storeSample_frame s mv) (by decide) hs)
          (fun i _ hs => matrixSound_edge i hs) mv hs
      case selfCheckExpires => exact matrixSound_passages.powerConditions (hs.of_same rfl rfl)
      case supplyFalls => exact hs.of_same ((supplyFalls_frame s).lmd (by decide)) (supplyFalls_state s)
      case supplyReturns => exact hs.of_same ((supplyReturns_frame s).lmd (by decide)) (supplyReturns_state s)
      case measure mv => exact hs.of_same ((measure_frame s mv).lmd (by decide)) (measure_state mv s)
  always {W s t} a hs := by
    by_cases hw : ∀ b ∈ [Block.matrix, .power], b ∉ W
    · exact matrixSound_readsOnly.keeps a.frame hw hs
    · cases a <;> simp [resetBlocks, tickBlocks] at hw
      case beginCause => exact LampMatrix.sound_reset _
      case commandReset => exact LampMatrix.sound_reset _
      case tick =>
        cases h : isOut s
        · exact matrixSound_readsOnly.keeps (tick_frame_reset h) (by decide) hs
        · exact matrixSound_readsOnly.keeps (tick_frame_out h) (by decide)
            (show MatrixSound (passOut s) from LampMatrix.Sound.pass hs)

end Sys2Proof.Machine
end

section
/-! SUPPORT. What no motion of a pointer and no passage of the ignition cycle bears on: the configuration of a channel, its values,
its active source and its curves. -/
namespace Sys2Proof.Machine

/-! ### The channels on the move -/

section motion
variable (c : Channel)

/-- What a change of the running state of a channel leaves: its configuration, its values, its active source and its curves. -/
structure Channel.SameSignal (c d : Channel) : Prop where
  active : d.active = c.active
  valueD : d.valueD = c.valueD
  valueS : d.valueS = c.valueS
  valueR : d.valueR = c.valueR
  enabled : d.enabled = c.enabled
  primary : d.primary = c.primary
  fallback : d.fallback = c.fallback
  faultLamp : d.faultLamp = c.faultLamp
  pendingCurve : d.pendingCurve = c.pendingCurve

theorem Channel.SameSignal.refl : c.SameSignal c := ⟨rfl, rfl, rfl, rfl, rfl, rfl, rfl, rfl, rfl⟩

variable {c} in
theorem Channel.SameSignal.trans {d e : Channel} (h : c.SameSignal d) (h' : d.SameSignal e) : c.SameSignal e :=
  ⟨h'.active.trans h.active, h'.valueD.trans h.valueD, h'.valueS.trans h.valueS, h'.valueR.trans h.valueR,
    h'.enabled.trans h.enabled, h'.primary.trans h.primary, h'.fallback.trans h.fallback, h'.faultLamp.trans h.faultLamp,
    h'.pendingCurve.trans h.pendingCurve⟩

variable {c} in
theorem Channel.SameSignal.activeValue {d : Channel} (h : c.SameSignal d) : d.activeValue = c.activeValue := by
  unfold Channel.activeValue
  rw [h.active]
  cases c.active with
  | none => rfl
  | some a => cases a <;> simp [Channel.value, h.valueD, h.valueS, h.valueR]

theorem Channel.filterUpdate_sameSignal : c.SameSignal c.filterUpdate := by
  unfold filterUpdate
  split <;> exact ⟨rfl, rfl, rfl, rfl, rfl, rfl, rfl, rfl, rfl⟩

theorem Channel.travel_sameSignal (n speed : Nat) : c.SameSignal (c.travel n speed) := by
  unfold travel
  split <;> split <;> exact ⟨rfl, rfl, rfl, rfl, rfl, rfl, rfl, rfl, rfl⟩

theorem Channel.move_sameSignal : c.SameSignal c.move := by
  unfold move
  split
  · exact ⟨rfl, rfl, rfl, rfl, rfl, rfl, rfl, rfl, rfl⟩
  · split
    · exact travel_sameSignal c _ _
    · have htoward : c.SameSignal { c with direction := c.toward } := ⟨rfl, rfl, rfl, rfl, rfl, rfl, rfl, rfl, rfl⟩
      split
      · exact htoward.trans (travel_sameSignal _ _ _)
      · exact htoward.trans (travel_sameSignal _ _ _)

theorem Channel.stepped_sameSignal : c.SameSignal c.stepped :=
  (move_sameSignal c).trans ⟨rfl, rfl, rfl, rfl, rfl, rfl, rfl, rfl, rfl⟩

theorem Channel.sweepOrTrack_sameSignal : c.SameSignal c.sweepOrTrack := by
  unfold sweepOrTrack
  split <;> exact ⟨rfl, rfl, rfl, rfl, rfl, rfl, rfl, rfl, rfl⟩

theorem Channel.onArrival_sameSignal : c.SameSignal c.onArrival := by
  unfold onArrival
  split <;> exact ⟨rfl, rfl, rfl, rfl, rfl, rfl, rfl, rfl, rfl⟩

theorem Channel.homingStep_sameSignal : c.SameSignal c.homingStep := by
  unfold homingStep
  dsimp only
  split
  · have hup (left : Nat) : c.SameSignal
        { c with overdrive := left, walk := phaseWalk c.overdrive left, direction := .up } :=
      ⟨rfl, rfl, rfl, rfl, rfl, rfl, rfl, rfl, rfl⟩
    exact (hup _).trans (sweepOrTrack_sameSignal _)
  · exact ⟨rfl, rfl, rfl, rfl, rfl, rfl, rfl, rfl, rfl⟩

theorem Channel.interval_sameSignal : c.SameSignal c.interval := by
  unfold interval
  split
  · exact homingStep_sameSignal c
  any_goals
    split
    · exact (stepped_sameSignal c).trans (onArrival_sameSignal _)
    · exact stepped_sameSignal c
  all_goals exact .refl c

theorem Channel.onRunCheck_sameSignal : c.SameSignal c.onRunCheck := by
  unfold onRunCheck
  split
  · split
    · exact ⟨rfl, rfl, rfl, rfl, rfl, rfl, rfl, rfl, rfl⟩
    · exact sweepOrTrack_sameSignal c
    · exact sweepOrTrack_sameSignal c
    all_goals exact .refl c
  · exact .refl c

theorem Channel.onIgnitionOff_sameSignal : c.SameSignal c.onIgnitionOff := by
  unfold onIgnitionOff
  split <;> exact ⟨rfl, rfl, rfl, rfl, rfl, rfl, rfl, rfl, rfl⟩

theorem Channel.onSupplyLow_sameSignal : c.SameSignal c.onSupplyLow := by
  unfold onSupplyLow
  split <;> exact ⟨rfl, rfl, rfl, rfl, rfl, rfl, rfl, rfl, rfl⟩

end motion

end Sys2Proof.Machine
end

section
/-! CERTIFICATE. The Chime Unit under every step: a request leaves the queue in order and within its eight places, and the standing
tone is judged again wherever one of its conditions may have changed. -/
namespace Sys2Proof.Machine

/-! ### The queue -/

/-- R85, R86: one entry stands before another of a different sound or origin. -/
def Chime.Precedes (c d : Chime) : Prop := c.before d = true ∧ ¬(c.sound = d.sound ∧ c.origin = d.origin)

theorem Chime.before_iff (c d : Chime) :
    c.before d = true ↔ d.priority < c.priority ∨ (d.priority = c.priority ∧ c.arrival < d.arrival) := by simp [before]

theorem chimesOrdered_iff (q : List Chime) : chimesOrdered q = true ↔ q.Pairwise Chime.Precedes := by
  induction q with
  | nil => simp [chimesOrdered]
  | cons c q ih =>
    simp only [chimesOrdered, Bool.and_eq_true, ih, List.pairwise_cons, List.all_eq_true, Bool.not_eq_true',
      Bool.and_eq_false_iff, decide_eq_false_iff_not, Chime.Precedes, not_and_or]

/-- R85, R87: a queue in order within its eight places, whose entries have arrived. -/
structure QueueSound (arrivals : Nat) (q : List Chime) : Prop where
  length : q.length ≤ 8
  ordered : q.Pairwise Chime.Precedes
  entries : ∀ c ∈ q, c.priority ≤ 3 ∧ c.arrival ≤ arrivals

section queue
variable {n : Nat} {q : List Chime} {c : Chime}

theorem QueueSound.sublist {q' : List Chime} (h : QueueSound n q) (hsub : q'.Sublist q) : QueueSound n q' :=
  ⟨hsub.length_le.trans h.length, h.ordered.sublist hsub, fun c hc => h.entries c (hsub.subset hc)⟩

theorem placeChime_perm (c : Chime) (q : List Chime) : (placeChime c q).Perm (c :: q) := by
  unfold placeChime
  exact List.perm_middle.trans (by rw [List.takeWhile_append_dropWhile])

/-- R85: behind the first entry of lower priority every entry has a lower priority. -/
theorem priority_lt_of_mem_dropWhile {d : Chime} (h : q.Pairwise Chime.Precedes)
    (hd : d ∈ q.dropWhile fun d => c.priority ≤ d.priority) : d.priority < c.priority := by
  induction q with
  | nil => simp at hd
  | cons e q ih =>
    rw [List.pairwise_cons] at h
    rw [List.dropWhile_cons] at hd
    split at hd
    · exact ih h.2 hd
    · next he =>
      have he' : e.priority < c.priority := by simpa using he
      rcases List.mem_cons.1 hd with rfl | hd
      · exact he'
      · rcases (Chime.before_iff _ _).1 (h.1 d hd).1 with hlt | ⟨heq, -⟩ <;> omega

/-- R85, R86: a new entry, the latest to arrive and like no other, takes its place in order. -/
theorem QueueSound.place (h : QueueSound n q) (hlen : q.length < 8) (hc : c.priority ≤ 3) (hn : c.arrival = n + 1)
    (hnew : ∀ d ∈ q, ¬(d.sound = c.sound ∧ d.origin = c.origin)) : QueueSound (n + 1) (placeChime c q) := by
  refine ⟨?_, ?_, fun d hd => ?_⟩
  · rw [(placeChime_perm c q).length_eq]
    exact hlen
  · have hparts := h.ordered
    rw [← List.takeWhile_append_dropWhile (p := fun d => decide (c.priority ≤ d.priority)) (l := q),
      List.pairwise_append] at hparts
    obtain ⟨htake, hdrop, hcross⟩ := hparts
    have hbehind {d : Chime} (hd : d ∈ q.dropWhile fun d => decide (c.priority ≤ d.priority)) : c.Precedes d := by
      refine ⟨(Chime.before_iff _ _).2 (.inl (priority_lt_of_mem_dropWhile h.ordered hd)), ?_⟩
      rintro ⟨hs, ho⟩
      exact hnew d ((List.dropWhile_sublist _).subset hd) ⟨hs.symm, ho.symm⟩
    unfold placeChime
    refine List.pairwise_append.2 ⟨htake, List.pairwise_cons.2 ⟨fun d hd => hbehind hd, hdrop⟩, fun d hd e he => ?_⟩
    rcases List.mem_cons.1 he with rfl | he
    · have hmem := (List.takeWhile_sublist _).subset hd
      have hprio : e.priority ≤ d.priority := by simpa using List.mem_takeWhile_imp hd
      have harrived := (h.entries d hmem).2
      refine ⟨(Chime.before_iff _ _).2 ?_, hnew d hmem⟩
      omega
    · exact hcross d hd e he
  · rcases List.mem_cons.1 ((placeChime_perm c q).mem_iff.1 hd) with rfl | hd
    · exact ⟨hc, hn.le⟩
    · exact ⟨(h.entries d hd).1, (h.entries d hd).2.trans (Nat.le_succ n)⟩

theorem latestOf_mem {p : Nat} {q : List Chime} {v : Chime} (h : latestOf p q = some v) : v ∈ q := by
  induction q with
  | nil => simp [latestOf] at h
  | cons c q ih =>
    unfold latestOf at h
    split at h
    · split at h
      · next d hd =>
        split at h <;> cases h
        · exact List.mem_cons_self
        · exact List.mem_cons_of_mem _ (ih hd)
      · cases h
        exact List.mem_cons_self
    · exact List.mem_cons_of_mem _ (ih h)

end queue

/-! ### The unit -/

/-- `State.chimesSound` of the Chime Unit alone, in RUN_CHECK and RUN or outside them. -/
structure ChimeUnit.Orderly (cycle : Bool) (u : ChimeUnit) : Prop where
  queue : QueueSound u.arrivals u.queue
  waits : u.queue = [] ∨ u.playing.isSome = true ∨ u.gap.isSome = true
  apart : u.playing = none ∨ u.gap = none
  silent : cycle = false → u.queue = [] ∧ u.playing = none ∧ u.gap = none

/-- What a block's request or the judging of the tone makes of the Chime Unit. -/
inductive ChimeUnit.Becomes (cycle : Bool) : ChimeUnit → ChimeUnit → Prop
  | refl (u : ChimeUnit) : Becomes cycle u u
  | request {u v : ChimeUnit} (h : Becomes cycle u v) (hc : cycle = true) (d : Sound) {n : Nat} (hn : n ≤ 3) (r : Origin) :
    Becomes cycle u (v.request d n r).1
  | tone {u v : ChimeUnit} (h : Becomes cycle u v) (n : Option Nat) : Becomes cycle u { v with tone := n }

section unit
variable {cycle : Bool} {u v w : ChimeUnit}

theorem ChimeUnit.Becomes.trans (h : Becomes cycle u v) (h' : Becomes cycle v w) : Becomes cycle u w := by
  induction h' with
  | refl => exact h
  | request _ hc d hn r ih => exact ih.request hc d hn r
  | tone _ n ih => exact ih.tone n

/-- R89: the head of the queue starts where nothing plays and no gap runs. -/
theorem ChimeUnit.orderly_startHead (hq : QueueSound u.arrivals u.queue) (hapart : u.playing = none ∨ u.gap = none) :
    u.startHead.Orderly true := by
  unfold startHead
  split
  · next c rest hplay hgap hqueue =>
    rw [hqueue] at hq
    exact ⟨hq.sublist (List.sublist_cons_self c rest), .inr (.inl rfl), .inr hgap, fun h => by cases h⟩
  · next hno =>
    refine ⟨hq, ?_, hapart, fun h => by cases h⟩
    cases hplay : u.playing with
    | some _ => exact .inr (.inl rfl)
    | none =>
      cases hgap : u.gap with
      | some _ => exact .inr (.inr rfl)
      | none =>
        cases hqueue : u.queue with
        | nil => exact .inl rfl
        | cons c rest => exact absurd hqueue (hno c rest hplay hgap)

@[simp] theorem ChimeUnit.startHead_muted (u : ChimeUnit) : u.startHead.muted = u.muted := by
  unfold startHead; split <;> rfl
@[simp] theorem ChimeUnit.startHead_tone (u : ChimeUnit) : u.startHead.tone = u.tone := by
  unfold startHead; split <;> rfl

theorem ChimeUnit.Orderly.place (h : u.Orderly true) {d : Sound} {n : Nat} {r : Origin} (hn : n ≤ 3)
    (hlen : u.queue.length < 8) (hnew : ∀ c ∈ u.queue, ¬(c.sound = d ∧ c.origin = r)) : (u.place d n r).Orderly true :=
  orderly_startHead (h.queue.place hlen hn rfl hnew) h.apart

/-- R86 to R89: a request leaves the queue in order, whatever its outcome. -/
theorem ChimeUnit.Orderly.request (h : u.Orderly true) (d : Sound) {n : Nat} (hn : n ≤ 3) (r : Origin) :
    (u.request d n r).1.Orderly true := by
  unfold ChimeUnit.request
  split
  · exact h
  · next hnew =>
    have hnew' : ∀ c ∈ u.queue, ¬(c.sound = d ∧ c.origin = r) := by simpa using hnew
    split
    · next hlen => exact h.place hn hlen hnew'
    · split
      · next victim hv =>
        split
        · have hmem := latestOf_mem hv
          have hsub : (u.queue.erase victim).Sublist u.queue := List.erase_sublist
          have hlen := List.length_erase_of_mem hmem
          have hlong := h.queue.length
          refine orderly_startHead ((h.queue.sublist hsub).place ?_ hn rfl fun c hc => hnew' c (hsub.subset hc)) h.apart
          have hpos : 0 < u.queue.length := List.length_pos_of_mem hmem
          omega
        · exact h
      · exact h

theorem ChimeUnit.request_same (d : Sound) (n : Nat) (r : Origin) (u : ChimeUnit) :
    (u.request d n r).1.muted = u.muted ∧ (u.request d n r).1.tone = u.tone := by
  unfold request
  split_ifs
  · exact ⟨rfl, rfl⟩
  · exact ⟨by simp [place], by simp [place]⟩
  · split
    · split
      · exact ⟨by simp [place], by simp [place]⟩
      · exact ⟨rfl, rfl⟩
    · exact ⟨rfl, rfl⟩

theorem ChimeUnit.Becomes.orderly (h : Becomes cycle u v) (hu : u.Orderly cycle) : v.Orderly cycle := by
  induction h with
  | refl => exact hu
  | request _ hc d hn r ih =>
    subst hc
    exact ih.request d hn r
  | tone _ n ih => exact { ih with }

theorem ChimeUnit.Becomes.muted (h : Becomes cycle u v) : v.muted = u.muted := by
  induction h with
  | refl => rfl
  | request _ _ d _ r ih => exact (request_same d _ r _).1.trans ih
  | tone _ n ih => exact ih

theorem ChimeUnit.Orderly.cancel (h : u.Orderly cycle) (r : Origin) : (u.cancel r).Orderly cycle where
  queue := h.queue.sublist List.filter_sublist
  waits := h.waits.imp (fun e => by simp [ChimeUnit.cancel, e]) id
  apart := h.apart
  silent hc := by
    obtain ⟨hq, hp, hg⟩ := h.silent hc
    exact ⟨by simp [ChimeUnit.cancel, hq], hp, hg⟩

theorem ChimeUnit.Orderly.endPlay (h : u.Orderly cycle) (hplay : u.playing.isSome = true) : u.endPlay.Orderly cycle where
  queue := h.queue
  waits := .inr (.inr rfl)
  apart := .inl rfl
  silent hc := by rw [(h.silent hc).2.1] at hplay; cases hplay

theorem ChimeUnit.Orderly.mono {cycle' : Bool} (h : u.Orderly cycle) (hc : cycle' = false → cycle = false) : u.Orderly cycle' :=
  { h with silent := fun h' => h.silent (hc h') }

theorem ChimeUnit.Orderly.endGap (h : u.Orderly cycle) (hgap : u.gap.isSome = true) : u.endGap.Orderly cycle := by
  refine (orderly_startHead (u := { u with gap := none }) h.queue (.inr rfl)).mono fun hc => ?_
  rw [(h.silent hc).2.2] at hgap
  cases hgap

theorem ChimeUnit.Orderly.pass (h : u.Orderly cycle) : u.pass.Orderly cycle where
  queue := h.queue
  waits := by simpa [ChimeUnit.pass, isSome_countDown] using h.waits
  apart := h.apart.imp (fun e => by simp [ChimeUnit.pass, e]) (fun e => by simp [ChimeUnit.pass, e, countDown])
  silent hc := by
    obtain ⟨hq, hp, hg⟩ := h.silent hc
    exact ⟨hq, by simp [ChimeUnit.pass, hp], by simp [ChimeUnit.pass, hg, countDown]⟩

end unit

/-! ### The unit, the tone and the mute of a state -/

/-- R90: the standing tone sounds exactly while its conditions hold. -/
def ToneSound (s : State) : Prop := s.cu.tone.isSome = toneDue s

/-- R83 to R92: `State.chimesSound`. -/
structure ChimesSound (s : State) : Prop where
  unit : s.cu.Orderly (inCycle s)
  tone : ToneSound s
  muted : s.cu.muted = s.pwc.supplyLow

theorem chimesSound_iff (s : State) : s.chimesSound = true ↔ ChimesSound s := by
  simp only [State.chimesSound, Bool.and_eq_true, Bool.or_eq_true, decide_eq_true_eq, chimesOrdered_iff, List.all_eq_true,
    List.isEmpty_iff, Option.isNone_iff_eq_none]
  constructor
  · rintro ⟨⟨⟨⟨⟨⟨⟨hlen, hord⟩, hent⟩, hwait⟩, hapart⟩, htone⟩, hmute⟩, hsilent⟩
    exact ⟨⟨⟨hlen, hord, hent⟩, by tauto, hapart, fun h => by
      have := hsilent.resolve_left (by simp [h]); tauto⟩, htone, hmute⟩
  · rintro ⟨⟨⟨hlen, hord, hent⟩, hwait, hapart, hsilent⟩, htone, hmute⟩
    refine ⟨⟨⟨⟨⟨⟨⟨hlen, hord⟩, hent⟩, by tauto⟩, hapart⟩, htone⟩, hmute⟩, ?_⟩
    cases h : inCycle s
    · have := hsilent h
      tauto
    · exact .inl rfl

theorem toneDue_congr {s t : State} (hlamp : (t.lamps.get 0).resolved = (s.lamps.get 0).resolved)
    (hspeed : vehicleSpeed t = vehicleSpeed s) (hstate : t.pwc.state = s.pwc.state) : toneDue t = toneDue s := by
  simp [toneDue, hlamp, hspeed, hstate]

theorem chimesSound_readsOnly : ReadsOnly [.chimes, .lamps, .gauges, .power] ChimesSound := by
  intro s t hsame hs
  have hcu : t.cu = s.cu := hsame .chimes (by simp)
  have hlamps : t.lamps = s.lamps := hsame .lamps (by simp)
  have hge : t.ge = s.ge := hsame .gauges (by simp)
  have hpwc : t.pwc = s.pwc := hsame .power (by simp)
  have hcycle : inCycle t = inCycle s := by simp [inCycle, hpwc]
  have hdue : toneDue t = toneDue s := toneDue_congr (by rw [hlamps]) (by simp [vehicleSpeed, hge]) (by rw [hpwc])
  exact ⟨by rw [hcu, hcycle]; exact hs.unit, by rw [ToneSound, hcu, hdue]; exact hs.tone, by rw [hcu, hpwc]; exact hs.muted⟩

section ops
variable {s t : State}

theorem ChimesSound.frame {W : List Block} (hs : ChimesSound s) (h : OnlyChanges W s t)
    (hdisj : ∀ b ∈ [Block.chimes, .lamps, .gauges, .power], b ∉ W) : ChimesSound t :=
  chimesSound_readsOnly.keeps h hdisj hs

/-- The unit moved on as `ChimeUnit.Becomes` says, in the same power and supply state, and the tone sound. -/
theorem ChimesSound.becomes (hs : ChimesSound s) (hpwc : t.pwc = s.pwc) (h : ChimeUnit.Becomes (inCycle s) s.cu t.cu)
    (htone : ToneSound t) : ChimesSound t := by
  have hcycle : inCycle t = inCycle s := by simp [inCycle, hpwc]
  exact ⟨hcycle ▸ h.orderly hs.unit, htone, by rw [h.muted, hpwc]; exact hs.muted⟩

theorem chimeRequest_becomes (d : Sound) {n : Nat} (hn : n ≤ 3) (r : Origin) (s : State) :
    ChimeUnit.Becomes (inCycle s) s.cu (chimeRequest d n r s).1.cu := by
  unfold chimeRequest
  split
  · next hc =>
    have h := (ChimeUnit.Becomes.refl (cycle := inCycle s) s.cu).request hc d hn r
    split <;> next heq => simpa [heq] using h
  · exact .refl _

theorem ChimesSound.chime (hs : ChimesSound s) (d : Sound) {n : Nat} (hn : n ≤ 3) (r : Origin) :
    ChimesSound (chimeRequest d n r s).1 := by
  have hframe := chimeRequest_frame s d n r
  refine hs.becomes (hframe.pwc (by decide)) (chimeRequest_becomes d hn r s) ?_
  have htone : (chimeRequest d n r s).1.cu.tone = s.cu.tone := by
    unfold chimeRequest
    split
    · have hsame := (ChimeUnit.request_same d n r s.cu).2
      split <;> next heq => simpa [heq] using hsame
    · rfl
  have hdue : toneDue (chimeRequest d n r s).1 = toneDue s :=
    toneDue_congr (by rw [hframe.lamps (by decide)]) (by rw [vehicleSpeed, hframe.ge (by decide)]; rfl) (by rw [hframe.pwc (by decide)])
  rw [ToneSound, htone, hdue]
  exact hs.tone

/-- R90: the tone judged again is sound, whatever came before. -/
theorem toneSound_judgeTone (s : State) : ToneSound (judgeTone s) := by
  have hdue : toneDue (judgeTone s) = toneDue s := toneDue_congr (by simp) (by simp [vehicleSpeed]) (by simp)
  rw [ToneSound, hdue]
  unfold judgeTone
  cases h : toneDue s <;> simp

theorem forEach_lampChime_becomes (l : List (Fin 48)) (s : State) :
    ChimeUnit.Becomes (inCycle s) s.cu (forEach lampChime l s).cu := by
  induction l generalizing s with
  | nil => exact .refl _
  | cons n l ih =>
    have hcycle : inCycle (lampChime n s) = inCycle s := by simp [inCycle]
    have h := ih (lampChime n s)
    rw [hcycle] at h
    exact (chimeRequest_becomes .triple (by decide) (.lamp n) s).trans h

theorem lampUpdate_becomes (c : Fin 48 → Lamp → Lamp) (s : State) :
    ChimeUnit.Becomes (inCycle s) s.cu (lampUpdate c s).cu := by
  have h (l : List (Fin 48)) (v : Tab Lamp 48) (n : Nat) : ChimeUnit.Becomes (inCycle s) s.cu
      (forEach lampChime l ((s.setLamps v).setChoices n)).cu := forEach_lampChime_becomes l ((s.setLamps v).setChoices n)
  unfold Machine.lampUpdate inSomeOrder judgeTone
  exact (h _ _ _).tone _

/-- R52, R63, R90: an update of the lamp table leaves the chimes sound. -/
theorem ChimesSound.lampUpdate (hs : ChimesSound s) (c : Fin 48 → Lamp → Lamp) : ChimesSound (lampUpdate c s) :=
  hs.becomes (by simp) (lampUpdate_becomes c s) (toneSound_judgeTone _)

theorem ChimesSound.formGaugeAny (hs : ChimesSound s) (l : List (Fin 48)) : ChimesSound (formGaugeAny l s) := by
  unfold Machine.formGaugeAny
  split
  · exact hs
  · exact hs.lampUpdate _

/-- The unit, the lamps and the power state as they were, and the vehicle speed too. -/
theorem ChimesSound.of_same (hs : ChimesSound s) (hcu : t.cu = s.cu) (hlamps : t.lamps = s.lamps) (hpwc : t.pwc = s.pwc)
    (hspeed : vehicleSpeed t = vehicleSpeed s) : ChimesSound t :=
  hs.becomes hpwc (hcu ▸ .refl _) (by
    rw [ToneSound, hcu, toneDue_congr (by rw [hlamps]) hspeed (by rw [hpwc])]
    exact hs.tone)

theorem vehicleSpeed_map {f : Channel → Channel} (hf : ∀ c, (f c).activeValue = c.activeValue)
    (h : t.ge.channels = s.ge.channels.map f) : vehicleSpeed t = vehicleSpeed s := by
  rw [vehicleSpeed, h, Tab.get_map, hf]
  rfl

theorem vehicleSpeed_modifyChannel (i : Fin 8) {f : Channel → Channel} (hf : ∀ c, (f c).activeValue = c.activeValue)
    (s : State) : vehicleSpeed (modifyChannel i f s) = vehicleSpeed s := by
  show ((s.ge.channels.modify i f).get 0).activeValue = _
  rw [Tab.get_modify]
  split
  · rw [hf]; rfl
  · rfl

@[simp] theorem vehicleSpeed_closeWindow (s : State) : vehicleSpeed (closeWindow s) = vehicleSpeed s := by
  unfold closeWindow
  split
  · exact vehicleSpeed_map (f := Channel.dropPending) (fun _ => rfl) rfl
  · rfl

theorem ChimesSound.closeWindow (hs : ChimesSound s) : ChimesSound (closeWindow s) :=
  hs.of_same (by simp) (by simp) (by simp) (by simp)

/-- R15, R90: after a change of the channels alone, the vehicle speed handed on leaves the tone as its conditions ask. -/
theorem ChimesSound.handSpeed (hs : ChimesSound s) {W : List Block} (h : OnlyChanges W s t)
    (hW : ∀ b ∈ [Block.chimes, .lamps, .power], b ∉ W) : ChimesSound (handSpeed (vehicleSpeed s) t) := by
  have hcu : t.cu = s.cu := h .chimes (hW _ (by simp))
  have hlamps : t.lamps = s.lamps := h .lamps (hW _ (by simp))
  have hpwc : t.pwc = s.pwc := h .power (hW _ (by simp))
  have hjudged {u : State} (hu : u.cu = s.cu) (hp : u.pwc = s.pwc) : ChimesSound (judgeTone u) := by
    refine hs.becomes (by simpa using hp) ?_ (toneSound_judgeTone u)
    have hset := (ChimeUnit.Becomes.refl (cycle := inCycle s) s.cu).tone (judgeTone u).cu.tone
    rw [← hu] at hset
    exact hu ▸ hset
  unfold Machine.handSpeed
  split
  · next hsame => exact hs.of_same hcu hlamps hpwc hsame
  · split
    · split
      · exact hjudged (by simpa using hcu) (by simpa using hpwc)
      · exact hjudged hcu hpwc
    · exact hjudged hcu hpwc

theorem ChimesSound.gaugeSelect (hs : ChimesSound s) (c : Fin 8 → Bool) (f : Channel → Channel) :
    ChimesSound (gaugeSelect c f s) := by
  refine hs.handSpeed (W := [.gauges, .events]) ?_ (by decide)
  exact .after (inSomeOrder_frame (forEach_frame fun n t => post_frame t _ n) _ _) (by decide) <|
    .after (inSomeOrder_frame (forEach_frame fun n t => post_frame t _ n) _ _) (by decide) <|
    .after (setGe_frame s _) (by decide) (.refl _ _)

theorem ChimesSound.gaugeChange (hs : ChimesSound s) (c : Fin 8 → Bool) (f : Channel → Channel) :
    ChimesSound (gaugeChange c f s) := (hs.gaugeSelect c f).formGaugeAny _

theorem ChimesSound.silenceSource (hs : ChimesSound s) (a : Source) {other : State → State}
    (hother : ∀ s, ChimesSound s → ChimesSound (other s)) : ChimesSound (silenceSource a other s) := by
  have hsel := hs.gaugeSelect (fun _ => true) (Channel.store a none)
  have hchoice {u : State} (h : ChimesSound u) (n : Nat) : ChimesSound (u.setChoices n) :=
    h.frame (setChoices_frame u n) (by decide)
  unfold Machine.silenceSource withGaugeUpdate
  dsimp only
  split
  · split
    · exact hother _ ((hchoice hsel _).lampUpdate _)
    · exact (hother _ (hchoice hsel _)).lampUpdate _
  · exact hother _ hsel

theorem ChimesSound.silencePort (hs : ChimesSound s) (p : Port) : ChimesSound (silencePort p s) := by
  have htold := (hs.frame (setLive_frame p s false none) (by decide)).frame
    (post_frame _ .sourceSilent (portSource p).code) (by decide)
  refine ChimesSound.silenceSource ?_ _ fun _ h => h.lampUpdate _
  cases p
  · exact htold
  · exact htold.closeWindow

theorem ChimesSound.beginFrame (hs : ChimesSound s) (p : Port) : ChimesSound (beginFrame p s) := by
  refine ChimesSound.frame ?_ (restartTimer_frame p _) (by decide)
  have hfresh := (hs.frame (shiftOut_frame p s (some 192)) (by decide)).frame (clearFresh_frame p _) (by decide)
  unfold returnSource
  split
  · exact hfresh
  · exact (((hfresh.frame (setLive_frame p _ true _) (by decide)).frame
      (post_frame _ .sourceRestored (portSource p).code) (by decide))).lampUpdate _

theorem ChimesSound.linkTaken (hs : ChimesSound s) : ChimesSound (linkTaken s) := by
  refine ChimesSound.frame ?_ (setRlu_frame _ _) (by decide)
  have hset := hs.frame (setRlu_frame s { s.rlu with assembly := .hunt, gapTime := 0 }) (by decide)
  unfold returnLink
  split
  · exact hset
  · exact ((hset.frame (setRlu_frame _ _) (by decide)).frame (post_frame _ _ _) (by decide)).lampUpdate _

theorem ChimesSound.loseLink (hs : ChimesSound s) : ChimesSound (loseLink s) := by
  rw [loseLink_eq]
  refine ChimesSound.frame ?_ (setAau_frame _ _) (by decide)
  exact ((hs.frame (setRlu_frame s _) (by decide)).frame (post_frame _ _ _) (by decide)).silenceSource _
    fun _ h => h.lampUpdate _

theorem ChimesSound.channelShown (hs : ChimesSound s) (k : ChannelConfig) : ChimesSound (channelShown k s) := by
  refine ChimesSound.formGaugeAny (hs.handSpeed (W := [.gauges, .events]) ?_ (by decide)) _
  exact .after (postSignalChange_frame _ _ _ _) (by decide) ((setGe_frame s _).mono (by decide))

theorem ChimesSound.readLamp (hs : ChimesSound s) (draws : Tab Bool 8) (n : Fin 48) : ChimesSound (readLamp draws n s) := by
  have hset (r : Tab OpenRecord 48) := hs.frame (setLmd_frame s { s.lmd with readings := r }) (by decide)
  unfold Machine.readLamp
  dsimp only
  split
  · exact hset _
  · exact ((hset _).frame (post_frame _ _ _) (by decide)).lampUpdate _

theorem ChimesSound.rowSlotEnd (hs : ChimesSound s) (draws : Tab Bool 8) : ChimesSound (rowSlotEnd draws s) := by
  unfold Machine.rowSlotEnd
  split
  · have hall (l : List (Fin 48)) {s : State} (hs : ChimesSound s) : ChimesSound (forEach (Machine.readLamp draws) l s) :=
      forEach_preserves ChimesSound _ (fun n _ hs => hs.readLamp draws n) l _ hs
    have htold := inSomeOrder_preserves ChimesSound _
      (fun s n hs => hs.frame (setChoices_frame s n) (by decide)) (fun l _ hs => hall l hs)
      (faultsChanged draws s.lmd) _ (hall (faultsKept draws s.lmd) hs)
    exact htold.of_same rfl rfl rfl rfl
  · exact hs

theorem ChimesSound.announceWarn (hs : ChimesSound s) (slot : Slot) (w : WarnState) : ChimesSound (announceWarn slot w s) := by
  cases w
  · exact hs
  · exact (hs.frame (post_frame s _ _) (by decide)).chime _ (by decide) _
  · exact (hs.frame (post_frame s _ _) (by decide)).chime _ (by decide) _

theorem ChimesSound.formWarn (hs : ChimesSound s) (slot : Slot) : ChimesSound (formWarn slot s) := by
  unfold Machine.formWarn
  split
  · exact ((hs.frame (modifyRecord_frame s slot _) (by decide)).announceWarn slot _).lampUpdate _
  · exact hs

theorem ChimesSound.creditSlot (hs : ChimesSound s) (stamp : Nat) (c : Slot × Activity) : ChimesSound (creditSlot stamp c s) := by
  have htold : ChimesSound (creditTold stamp c s) := by
    have hplaced (r : DriverRecord) := hs.frame (setRecord_frame s c.1 r) (by decide)
    unfold creditTold
    dsimp only
    split
    · exact (hplaced _).frame (post_frame _ _ _) (by decide)
    · exact hplaced _
  rw [creditSlot_eq]
  refine ChimesSound.frame ?_ (modifyRecord_frame _ _ _) (by decide)
  split
  · exact htold
  · exact htold.formWarn c.1

theorem ChimesSound.slotActivity (hs : ChimesSound s) (c : Slot × ActivityArg) : ChimesSound (slotActivity c s) := by
  have hset (f : DriverRecord → DriverRecord) := hs.frame (modifyRecord_frame s c.1 f) (by decide)
  unfold Machine.slotActivity
  dsimp only
  split
  · split
    · split
      · split
        · exact (hset _).frame (post_frame _ _ _) (by decide)
        · exact hset _
      · exact ((hset _).frame (post_frame _ _ _) (by decide)).lampUpdate _
    · exact ((hset _).frame (post_frame _ _ _) (by decide)).lampUpdate _
  · exact hs

theorem summaryTold_frame (slot : Slot) (arg : SummaryArg) (k : SummaryCase) (s : State) :
    OnlyChanges [.drivers, .events] s (summaryTold slot arg k s) := by
  have hpost (p : Prop) [Decidable p] (kind : EventKind) (n : Nat) (t : State) :
      OnlyChanges [.events] t (if p then post kind n t else t) := by
    split
    · exact post_frame t _ _
    · exact .refl _ _
  unfold summaryTold
  dsimp only
  exact .after (hpost _ _ _ _) (by decide) <| .after (setRecord_frame _ _ _) (by decide) <|
    .after (hpost _ _ _ _) (by decide) (.refl _ _)

theorem ChimesSound.slotSummary (hs : ChimesSound s) (c : Slot × SummaryArg) : ChimesSound (slotSummary c s) := by
  have hadopt (k : SummaryCase) : ChimesSound (adopt c.1 c.2 k s) := by
    rw [adopt_eq]
    exact (((hs.frame (summaryTold_frame c.1 c.2 k s) (by decide)).formWarn c.1).frame (post_frame _ _ _) (by decide)).frame
      (modifyRecord_frame _ _ _) (by decide)
  unfold Machine.slotSummary
  dsimp only
  split
  · split
    · exact hs.frame (post_frame s _ _) (by decide)
    · exact hadopt _
  · exact hs

theorem ChimesSound.setLead (hs : ChimesSound s) (n : Nat) : ChimesSound (setLead n s) := by
  have hrewarn (slot : Slot) (s : State) (hs : ChimesSound s) : ChimesSound (rewarn slot s) := by
    unfold rewarn
    split
    · exact (hs.formWarn slot).frame (modifyRecord_frame _ _ _) (by decide)
    · exact hs
  exact inSomeOrder_preserves ChimesSound _ (fun s n hs => hs.frame (setChoices_frame s n) (by decide))
    (forEach_preserves ChimesSound _ hrewarn) _ _ (hs.frame (setAau_frame s _) (by decide))

theorem ChimesSound.applyInput (hs : ChimesSound s) (k : InputConfig) : ChimesSound (applyInput k s) := by
  have hset := hs.frame (setInputs_frame s (s.inputs.set k.input ((s.inputs.get k.input).configure k))) (by decide)
  unfold Machine.applyInput
  dsimp only
  split
  · exact hset
  · exact hset.lampUpdate _

end ops

/-! ### The ignition cycle and the supply -/

section cycle
variable {s t : State}

theorem toneDue_off (h : s.pwc.state ≠ .run) : toneDue s = false := by simp [toneDue, h]

/-- The channels changed in what does not bear on the vehicle speed. -/
theorem ChimesSound.mapChannels (hs : ChimesSound s) {f : Channel → Channel} (hf : ∀ c : Channel, c.SameSignal (f c)) :
    ChimesSound (mapChannels f s) :=
  hs.of_same rfl rfl rfl (vehicleSpeed_map (fun c => (hf c).activeValue) rfl)

theorem ChimesSound.movedOn (hs : ChimesSound s) : ChimesSound (movedOn s) := by
  have hset : ChimesSound (s.setGe { s.ge with motionTime := 0 }) := hs.of_same rfl rfl rfl rfl
  exact (hset.mapChannels Channel.interval_sameSignal).frame
    (inSomeOrder_frame (forEach_frame fun n t => post_frame t .homingDone n) _ _) (by decide)

/-- R90, R92: a change of the power state outside RUN leaves the tone off. -/
theorem ChimesSound.of_power (hs : ChimesSound s) (hcu : t.cu = s.cu) (hlow : t.pwc.supplyLow = s.pwc.supplyLow)
    (hcycle : inCycle t = false → inCycle s = false) (hold : s.pwc.state ≠ .run) (hnew : t.pwc.state ≠ .run) :
    ChimesSound t where
  unit := by rw [hcu]; exact hs.unit.mono hcycle
  tone := by
    have htone := hs.tone
    rw [ToneSound, toneDue_off hold] at htone
    rw [ToneSound, hcu, toneDue_off hnew, htone]
  muted := by rw [hcu, hlow]; exact hs.muted

theorem ChimeUnit.orderly_silenced {cycle cycle' : Bool} {u : ChimeUnit} (h : u.Orderly cycle) :
    ChimeUnit.Orderly cycle' { u with queue := [], playing := none, gap := none } where
  queue := h.queue.sublist (List.nil_sublist _)
  waits := .inl rfl
  apart := .inl rfl
  silent _ := ⟨rfl, rfl, rfl⟩

theorem formGaugeAny_becomes (l : List (Fin 48)) (s : State) :
    ChimeUnit.Becomes (inCycle s) s.cu (formGaugeAny l s).cu := by
  unfold Machine.formGaugeAny
  split
  · exact .refl _
  · exact lampUpdate_becomes _ s

/-- R90: the passage to RUN forms the gauge contributions and judges the tone. -/
theorem ChimesSound.runEntry (hs : ChimesSound s) (h : s.pwc.state = .runCheck) : ChimesSound (runEntry s) := by
  have hunit : s.cu.Orderly true := by
    have hcycle : inCycle s = true := by simp [inCycle, h]
    exact hcycle ▸ hs.unit
  have hentered (u : State) (hu : u.pwc.state = .run) : inCycle u = true := by simp [inCycle, hu]
  let entered := enterPower .run (s.setPwc { s.pwc with selfCheck := .stopped })
  have hcu : entered.cu = s.cu := by simp [entered]
  have hshown : ChimeUnit.Becomes true s.cu (formAllGauge entered).cu := by
    have hform := formGaugeAny_becomes (namedLamps entered.ge) entered
    rw [hentered _ (by simp [entered, enterPower]), hcu] at hform
    exact hform
  have hjudged : ChimeUnit.Becomes true s.cu (Machine.runEntry s).cu := hshown.tone _
  refine ⟨?_, toneSound_judgeTone _, ?_⟩
  · rw [inCycle_runEntry]
    exact hjudged.orderly hunit
  · rw [hjudged.muted, runEntry_pwc]
    exact hs.muted

/-- R92: outside the cycle nothing is queued or plays, and the tone is off. -/
theorem ChimesSound.leaveCycle (hs : ChimesSound s) : ChimesSound (leaveCycle s) := by
  have hpwc : (cycleStopped s).pwc = { s.pwc with selfCheck := .stopped, state := offTarget s } := by
    unfold cycleStopped dropHold
    dsimp only
    split <;> simp [darken, enterPower]
  have hcu : (cycleStopped s).cu = { s.cu with queue := [], playing := none, gap := none } := by
    unfold cycleStopped dropHold
    dsimp only
    split <;> simp [silenceChimes, darken]
  have hout : inCycle (cycleStopped s) = false := by
    rcases offTarget_eq s with h | h <;> simp [inCycle, hpwc, h]
  have hshown : ChimeUnit.Becomes false (cycleStopped s).cu (cycleLeft s).cu := by
    have hform : ChimeUnit.Becomes false (cycleStopped s).cu (formAllGauge (cycleStopped s)).cu :=
      hout ▸ formGaugeAny_becomes (namedLamps (cycleStopped s).ge) (cycleStopped s)
    unfold cycleLeft
    split
    · exact hform.tone _
    · exact (ChimeUnit.Becomes.refl _).tone _
  have hpwc' : (cycleLeft s).pwc = (cycleStopped s).pwc := by
    unfold cycleLeft
    split <;> simp
  have hleft : ChimesSound (cycleLeft s) := by
    refine ⟨?_, toneSound_judgeTone _, ?_⟩
    · have hcycle : inCycle (cycleLeft s) = false := by rw [← hout]; simp [inCycle, hpwc']
      rw [hcycle]
      exact hshown.orderly (hcu ▸ ChimeUnit.orderly_silenced hs.unit)
    · rw [hshown.muted, hcu, hpwc', hpwc]
      exact hs.muted
  rw [leaveCycle_eq]
  split
  · exact hleft.frame (quiesce_frame _) (by decide)
  · exact hleft

theorem chimesSound_passages : PassagesKeep ChimesSound where
  flag s b hs := ⟨hs.unit, hs.tone, hs.muted⟩
  runEntry s h hs := hs.runEntry h
  parkingDone s h hs := hs.of_power (by simp) (by simp) (fun _ => by simp [inCycle, h]) (by simp [h]) (by simp)
  enterRunCheck s h hs :=
    hs.of_power (by simp) (by simp) (by simp) (by rcases not_inCycle_iff.1 h with h | h <;> simp [h]) (by simp)
  leaveCycle s _ hs := hs.leaveCycle

theorem chimesSound_edge (i : Fin 12) (hs : ChimesSound s) : ChimesSound (edge i s) :=
  chimesSound_passages.edge (fun i s hs => hs.frame (edgeTold_frame s i) (by decide)) (fun _ _ hs => hs.lampUpdate _) i hs

/-- R91: the mute follows the supply, and suspended motion leaves the vehicle speed. -/
theorem ChimesSound.supplyFalls (hs : ChimesSound s) : ChimesSound (supplyFalls s) := by
  unfold Machine.supplyFalls
  split
  · exact hs
  · refine ChimesSound.frame ?_ (post_frame _ _ _) (by decide)
    have hspeed : vehicleSpeed (Machine.mapChannels Channel.onSupplyLow s) = vehicleSpeed s :=
      vehicleSpeed_map (fun c => (Channel.onSupplyLow_sameSignal c).activeValue) rfl
    refine ⟨{ hs.unit with }, ?_, rfl⟩
    refine (hs.tone : s.cu.tone.isSome = toneDue s).trans (Eq.symm ?_)
    exact toneDue_congr rfl hspeed rfl

theorem ChimesSound.supplyReturns (hs : ChimesSound s) : ChimesSound (supplyReturns s) := by
  unfold Machine.supplyReturns
  split
  · refine ChimesSound.frame ?_ (post_frame _ _ _) (by decide)
    exact ⟨{ hs.unit with }, hs.tone, rfl⟩
  · exact hs

theorem ChimesSound.measure (hs : ChimesSound s) (mv : Nat) : ChimesSound (measure mv s) := by
  have hstore (n : Nat) : ChimesSound (storeBattery mv n s) := ⟨hs.unit, hs.tone, hs.muted⟩
  rw [measure_eq]
  split
  · split
    · exact (hstore _).supplyReturns
    · exact (hstore _).supplyFalls
  · exact hstore _

theorem ChimesSound.tick (hs : ChimesSound s) : ChimesSound (tick s) := by
  cases h : isOut s
  · exact hs.frame (tick_frame_reset h) (by decide)
  · have hpass : ChimesSound (passOut s) := by
      refine ⟨hs.unit.pass, ?_, hs.muted⟩
      have htone : (passOut s).cu.tone.isSome = s.cu.tone.isSome := by simp [passOut, ChimeUnit.pass]
      exact htone.trans hs.tone
    exact hpass.frame (tick_frame_out h) (by decide)

theorem chimesSound_reset (hcu : s.cu = .reset) (hpwc : s.pwc = .reset s.pwc.causes) : ChimesSound s where
  unit := by
    rw [hcu]
    exact ⟨⟨by decide, .nil, by simp [ChimeUnit.reset]⟩, .inl rfl, .inl rfl, fun _ => ⟨rfl, rfl, rfl⟩⟩
  tone := by rw [ToneSound, toneDue_off (by rw [hpwc]; simp [Power.reset]), hcu]; rfl
  muted := by rw [hcu, hpwc]; rfl

end cycle

theorem chimesSound_kept : Kept ChimesSound where
  act {W s t} hout a hs := by
    by_cases hw : ∀ b ∈ [Block.chimes, .lamps, .gauges, .power], b ∉ W
    · exact hs.frame a.frame hw
    · have hchannel (i : Fin 8) {f : Channel → Channel} (hf : ∀ c, (f c).activeValue = c.activeValue) :
          ChimesSound (modifyChannel i f s) := hs.of_same rfl rfl rfl (vehicleSpeed_modifyChannel i hf s)
      cases a <;> simp at hw
      case begin p => exact hs.beginFrame p
      case clearCauses => exact ⟨hs.unit, hs.tone, hs.muted⟩
      case closeWindow => exact hs.closeWindow
      case silencePort p => exact hs.silencePort p
      case deliver => exact hs.gaugeChange _ _
      case applyChannel args k _ _ _ _ => exact chimesSound_passages.powerConditions (hs.channelShown k)
      case loadCurve => exact hchannel _ fun _ => rfl
      case dropPending i => exact hchannel i fun _ => rfl
      case keepPending i q _ => exact hchannel i fun _ => rfl
      case filterAll =>
        exact hs.of_same rfl rfl rfl (vehicleSpeed_map (fun c => (Channel.filterUpdate_sameSignal c).activeValue) rfl)
      case motionInterval =>
        rw [motionInterval_eq]
        split
        · exact hs.of_same rfl rfl rfl rfl
        · exact chimesSound_passages.powerConditions hs.movedOn
      case writeLamps => exact hs.lampUpdate _
      case configureLamp => exact hs.lampUpdate _
      case handRecorder => exact hs.lampUpdate _
      case rowSlotEnd draws => exact hs.rowSlotEnd draws
      case chime d n r hn => exact hs.chime d hn r
      case cancelChimes r => exact ⟨hs.unit.cancel r, hs.tone, hs.muted⟩
      case endPlay h => exact ⟨hs.unit.endPlay h, hs.tone, hs.muted⟩
      case endGap h =>
        refine ⟨hs.unit.endGap h, ?_, ?_⟩
        · exact (congrArg Option.isSome (ChimeUnit.startHead_tone _)).trans hs.tone
        · exact (ChimeUnit.startHead_muted _).trans hs.muted
      case creditSlot stamp c => exact hs.creditSlot stamp c
      case slotActivity c => exact hs.slotActivity c
      case slotSummary c => exact hs.slotSummary c
      case setLead n _ => exact hs.setLead n
      case linkTaken => exact hs.linkTaken
      case loseLink => exact hs.loseLink
      case applyInput args k _ _ => exact hs.applyInput k
      case edge i => exact chimesSound_edge i hs
      case sampleInputs mv =>
        exact sampleInputs_keeps (fun n s hs => hs.frame (setChoices_frame s n) (by decide))
          (fun mv s hs => hs.frame (storeSample_frame s mv) (by decide)) (fun i _ hs => chimesSound_edge i hs) mv hs
      case selfCheckExpires => exact chimesSound_passages.powerConditions ⟨hs.unit, hs.tone, hs.muted⟩
      case supplyFalls => exact hs.supplyFalls
      case supplyReturns => exact hs.supplyReturns
      case measure mv => exact hs.measure mv
  always {W s t} a hs := by
    by_cases hw : ∀ b ∈ [Block.chimes, .lamps, .gauges, .power], b ∉ W
    · exact hs.frame a.frame hw
    · cases a <;> simp [resetBlocks, tickBlocks] at hw
      case beginCause => exact chimesSound_reset rfl rfl
      case commandReset => exact chimesSound_reset rfl rfl
      case tick => exact hs.tick

/-- Settles O58: every operation keeps the matrix within its ranges, and the chimes in order and within the cycle. -/
theorem everyStepKeepsMatrixAndChimesSound : Obligations.EveryStepKeepsMatrixAndChimesSound := by
  intro s t h
  simp only [matrixSound_iff, chimesSound_iff]
  exact ⟨matrixSound_kept.step h, chimesSound_kept.step h⟩

end Sys2Proof.Machine
end

section
/-! SUPPORT. One update of the lamp table (R52), lamp by lamp: what it stores, what it resolves, and how it leaves the substitution
contributions of L0 and L1. -/
namespace Sys2Proof.Machine

/-! ### Lamp by lamp -/

/-- R52, step 2: a lamp after the changes of an event have been stored and it has been resolved, if they changed it. -/
def Lamp.changed (before stored : Lamp) : Lamp := if stored = before then stored else { stored with resolved := stored.resolve }

/-- R52, step 3: whether a substitution contribution is asked of a lamp; none where the lamp takes none. -/
def asked (readings : Tab OpenRecord 48) (lamps : Tab Lamp 48) (n : Fin 48) : Option Bool :=
  if n = 0 then some (wantsSubstitution readings lamps .safety 0)
  else if n = 1 then some (wantsSubstitution readings lamps .info 1)
  else none

/-- R52: the previous resolved state of a lamp, where the update changed the resolved one. -/
def Lamp.remember (before after : Lamp) : Lamp :=
  if after.resolved = before.resolved then after else { after with previous := before.resolved }

section get
variable (readings : Tab OpenRecord 48) (before : Tab Lamp 48) (change : Fin 48 → Lamp → Lamp) (n : Fin 48)

/-- R52: the table after the changes have been stored and the changed lamps resolved. -/
def storedLamps : Tab Lamp 48 := resolveChanged before (before.mapIdx change)

theorem storedLamps_get : (storedLamps before change).get n = (before.get n).changed (change n (before.get n)) := by
  simp [storedLamps, resolveChanged, Lamp.changed]

theorem formSubstitution_get (lamps : Tab Lamp 48) : (formSubstitution readings lamps).get n =
    match asked readings lamps n with
    | some wanted => (lamps.get n).substitute wanted
    | none => lamps.get n := by
  rw [formSubstitution, Tab.get_mapIdx]
  unfold asked
  split_ifs <;> rfl

theorem updatedLamps_get : (updatedLamps readings before change).get n =
    (before.get n).remember ((formSubstitution readings (storedLamps before change)).get n) := by
  rw [updatedLamps, recordPrevious, Tab.get_mapIdx]
  rfl

end get

section fields
variable (l m : Lamp) (b : Bool)

@[simp] theorem Lamp.changed_stored : (l.changed m).stored = m.stored := by unfold changed; split <;> rfl
@[simp] theorem Lamp.changed_substitution : (l.changed m).substitution = m.substitution := by unfold changed; split <;> rfl
@[simp] theorem Lamp.changed_previous : (l.changed m).previous = m.previous := by unfold changed; split <;> rfl
@[simp] theorem Lamp.changed_cls : (l.changed m).cls = m.cls := by unfold changed; split <;> rfl
@[simp] theorem Lamp.substitute_stored : (l.substitute b).stored = l.stored := by unfold substitute; split <;> rfl
@[simp] theorem Lamp.substitute_substitution : (l.substitute b).substitution = b := by
  unfold substitute
  split
  · assumption
  · rfl
@[simp] theorem Lamp.substitute_cls : (l.substitute b).cls = l.cls := by unfold substitute; split <;> rfl
@[simp] theorem Lamp.remember_stored : (l.remember m).stored = m.stored := by unfold remember; split <;> rfl
@[simp] theorem Lamp.remember_substitution : (l.remember m).substitution = m.substitution := by
  unfold remember; split <;> rfl
@[simp] theorem Lamp.remember_resolved : (l.remember m).resolved = m.resolved := by unfold remember; split <;> rfl
@[simp] theorem Lamp.remember_resolve : (l.remember m).resolve = m.resolve := by unfold remember; split <;> rfl
@[simp] theorem Lamp.remember_cls : (l.remember m).cls = m.cls := by unfold remember; split <;> rfl

/-- R52: a changed lamp is resolved, and so is one that was resolved and did not change. -/
theorem Lamp.changed_resolved (h : l.resolved = l.resolve) : (l.changed m).resolved = (l.changed m).resolve := by
  unfold changed
  split
  · next e => rw [e]; exact h
  · rfl

theorem Lamp.substitute_resolved (h : l.resolved = l.resolve) : (l.substitute b).resolved = (l.substitute b).resolve := by
  unfold substitute
  split
  · exact h
  · rfl

end fields

/-! ### The table after an update -/

section update
variable (readings : Tab OpenRecord 48) (before : Tab Lamp 48) (change : Fin 48 → Lamp → Lamp) (n : Fin 48)

/-- An update stores what its rule changes. -/
theorem updatedLamps_stored :
    ((updatedLamps readings before change).get n).stored = (change n (before.get n)).stored := by
  rw [updatedLamps_get, Lamp.remember_stored, formSubstitution_get]
  split <;> simp [storedLamps_get]

/-- R51, R52: every lamp of a resolved table is resolved after an update. -/
theorem updatedLamps_resolved (h : (before.get n).resolved = (before.get n).resolve) :
    ((updatedLamps readings before change).get n).resolved = ((updatedLamps readings before change).get n).resolve := by
  have hstored : ((storedLamps before change).get n).resolved = ((storedLamps before change).get n).resolve := by
    rw [storedLamps_get]
    exact Lamp.changed_resolved _ _ h
  rw [updatedLamps_get, Lamp.remember_resolved, Lamp.remember_resolve, formSubstitution_get]
  split
  · exact Lamp.substitute_resolved _ _ hstored
  · exact hstored

theorem updatedLamps_cls : ((updatedLamps readings before change).get n).cls = (change n (before.get n)).cls := by
  have h := updatedLamps_stored readings before change n
  exact (rfl : _ = ((updatedLamps readings before change).get n).stored.cls).trans (by rw [h]; rfl)

theorem updatedLamps_substitution : ((updatedLamps readings before change).get n).substitution =
    (asked readings (storedLamps before change) n).getD (change n (before.get n)).substitution := by
  rw [updatedLamps_get, Lamp.remember_substitution, formSubstitution_get]
  split <;> next h => simp [h, storedLamps_get]

/-- Forming the substitutions touches L0 and L1 alone. -/
theorem updatedLamps_resolved_other (h0 : n ≠ 0) (h1 : n ≠ 1) : ((updatedLamps readings before change).get n).resolved =
    ((storedLamps before change).get n).resolved := by
  rw [updatedLamps_get, Lamp.remember_resolved, formSubstitution_get]
  simp [asked, h0, h1]

end update

/-! ### The substitution contributions (R60, R61) -/

theorem wantsSubstitution_iff (readings : Tab OpenRecord 48) (lamps : Tab Lamp 48) (cls : LampClass) (central : Fin 48) :
    wantsSubstitution readings lamps cls central = true ↔ ∃ n, n ≠ central ∧ (lamps.get n).cls = cls ∧
      (readings.get n).openFault = true ∧ (lamps.get n).resolved ≠ .off := by
  simp [wantsSubstitution, and_assoc]

/-- What asks for a substitution: classes, open faults and resolved states of the lamps of a class but the central one. -/
theorem wantsSubstitution_congr {r r' : Tab OpenRecord 48} {lamps lamps' : Tab Lamp 48} {cls : LampClass} {central : Fin 48}
    (h : ∀ n, n ≠ central → ((lamps.get n).cls = cls ∧ (r.get n).openFault = true ∧ (lamps.get n).resolved ≠ .off ↔
      (lamps'.get n).cls = cls ∧ (r'.get n).openFault = true ∧ (lamps'.get n).resolved ≠ .off)) :
    wantsSubstitution r lamps cls central = wantsSubstitution r' lamps' cls central := by
  rw [Bool.eq_iff_iff, wantsSubstitution_iff, wantsSubstitution_iff]
  exact exists_congr fun n => and_congr_right fun hn => h n hn

/-- R60, R61: the substitution contributions stand as the table and the open faults ask for them. -/
def SubstFormed (readings : Tab OpenRecord 48) (lamps : Tab Lamp 48) : Prop :=
  ∀ n, (lamps.get n).substitution = (asked readings lamps n).getD false

section subst
variable {readings : Tab OpenRecord 48} {before : Tab Lamp 48} {change : Fin 48 → Lamp → Lamp}

/-- R47, R60, R61: as L0 is SAFETY and L1 INFO, neither bears on the other's substitution, and one round forms both. -/
theorem asked_updatedLamps (hzero : (change 0 (before.get 0)).cls = .safety) (hone : (change 1 (before.get 1)).cls = .info)
    (n : Fin 48) : asked readings (storedLamps before change) n = asked readings (updatedLamps readings before change) n := by
  have hcls (n : Fin 48) : ((storedLamps before change).get n).cls = (change n (before.get n)).cls := by
    rw [storedLamps_get, Lamp.changed_cls]
  have hzero' : wantsSubstitution readings (storedLamps before change) .safety 0 =
      wantsSubstitution readings (updatedLamps readings before change) .safety 0 := by
    refine wantsSubstitution_congr fun n hn => ?_
    rw [hcls, updatedLamps_cls]
    by_cases h1 : n = 1
    · subst h1; simp [hone]
    · rw [updatedLamps_resolved_other _ _ _ _ hn h1]
  have hone' : wantsSubstitution readings (storedLamps before change) .info 1 =
      wantsSubstitution readings (updatedLamps readings before change) .info 1 := by
    refine wantsSubstitution_congr fun n hn => ?_
    rw [hcls, updatedLamps_cls]
    by_cases h0 : n = 0
    · subst h0; simp [hzero]
    · rw [updatedLamps_resolved_other _ _ _ _ h0 hn]
  rw [asked, asked, hzero', hone']

theorem substFormed_updatedLamps (hzero : (change 0 (before.get 0)).cls = .safety) (hone : (change 1 (before.get 1)).cls = .info)
    (hrest : ∀ n, n ≠ 0 → n ≠ 1 → (change n (before.get n)).substitution = false) :
    SubstFormed readings (updatedLamps readings before change) := by
  intro n
  rw [updatedLamps_substitution, ← asked_updatedLamps hzero hone]
  by_cases h0 : n = 0
  · simp [asked, h0]
  by_cases h1 : n = 1
  · simp [asked, h1]
  · simp [asked, h0, h1, hrest]

end subst

/-! ### What the rules change in a lamp -/

/-- A change of the table that leaves to the table what the table forms itself. -/
def StoredOnly (change : Fin 48 → Lamp → Lamp) : Prop :=
  ∀ n l, (change n l).substitution = l.substitution ∧ (change n l).resolved = l.resolved ∧
    (change n l).previous = l.previous

theorem storedOnly_id : StoredOnly fun _ l => l := fun _ _ => ⟨rfl, rfl, rfl⟩

theorem storedOnly_loss (s : State) : StoredOnly fun _ l => { l with loss := lossNow s l } := fun _ _ => ⟨rfl, rfl, rfl⟩

theorem storedOnly_withoutPort (p : Port) (s : State) :
    StoredOnly fun _ l => { l.withoutPort p with loss := lossNow s l } := by
  intro n l
  cases p <;> exact ⟨rfl, rfl, rfl⟩

theorem storedOnly_withoutRecorder (s : State) : StoredOnly fun _ l => { l with recorder := none, loss := lossNow s l } :=
  fun _ _ => ⟨rfl, rfl, rfl⟩

theorem storedOnly_account (s : State) :
    StoredOnly fun i l => if i = 2 then { l with account := some (accountContribution s.aau) } else l := by
  intro n l
  dsimp only
  split <;> exact ⟨rfl, rfl, rfl⟩

theorem storedOnly_recorder (n : Fin 48) (v : LampState) :
    StoredOnly fun i l => if i = n then { l with recorder := some v } else l := by
  intro n l
  dsimp only
  split <;> exact ⟨rfl, rfl, rfl⟩

theorem storedOnly_gauge (lamps : List (Fin 48)) (s : State) : StoredOnly fun i l =>
    if lamps.contains i then { l with gauge := gaugeContribution s.ge s.pwc.state i } else l := by
  intro n l
  dsimp only
  split <;> exact ⟨rfl, rfl, rfl⟩

theorem storedOnly_inputs (lamps : List (Fin 48)) (s : State) : StoredOnly fun i l =>
    if lamps.contains i then { l with input := inputContribution s.inputs i } else l := by
  intro n l
  dsimp only
  split <;> exact ⟨rfl, rfl, rfl⟩

theorem storedOnly_remap (lamps : List (Fin 48)) (before : Tab InputRecord 12) (s : State) : StoredOnly fun i l =>
    if lamps.contains i then
      { l with input := inputContribution s.inputs i
               writtenD := if isMapped s.inputs i && !isMapped before i then none else l.writtenD }
    else l := by
  intro n l
  dsimp only
  split <;> exact ⟨rfl, rfl, rfl⟩

theorem storedOnly_config (k : LampConfig) (s : State) : StoredOnly fun i l =>
    if i = k.lamp then { l.withConfig k with loss := lossNow s (l.withConfig k) } else l := by
  intro n l
  dsimp only
  split <;> exact ⟨rfl, rfl, rfl⟩

theorem storePairs_cons (p : Port) (q : Fin 48 × Option LampState) (rest : List (Fin 48 × Option LampState)) (n : Fin 48)
    (l : Lamp) : storePairs p (q :: rest) n l = storePairs p rest n (if q.1 = n then l.write p q.2 else l) := rfl

theorem storedOnly_pairs (p : Port) (pairs : List (Fin 48 × Option LampState)) : StoredOnly (storePairs p pairs) := by
  intro n l
  induction pairs generalizing l with
  | nil => exact ⟨rfl, rfl, rfl⟩
  | cons q rest ih =>
    rw [storePairs_cons]
    obtain ⟨hs, hr, hp⟩ := ih (if q.1 = n then l.write p q.2 else l)
    rw [hs, hr, hp]
    split
    · cases p <;> exact ⟨rfl, rfl, rfl⟩
    · exact ⟨rfl, rfl, rfl⟩

end Sys2Proof.Machine
end

section
/-! SUPPORT. Which operations bear on what is LIVE: a frame taken from a port or from the recorder, a supervision timer that runs
out, and a reset; no other. -/
namespace Sys2Proof.Machine

section same
variable {s t : State}

theorem sourceLive_congr (hport : ∀ p, (t.port p).live = (s.port p).live) (hlink : t.rlu.live = s.rlu.live) :
    sourceLive t = sourceLive s := by
  funext a
  cases a
  · exact hport .d
  · exact hport .s
  · exact hlink

theorem OnlyChanges.sources {W : List Block} (h : OnlyChanges W s t) (hports : .ports ∉ W)
    (hlink : .recorder ∉ W) : sourceLive t = sourceLive s :=
  sourceLive_congr (fun p => h.live p hports) (by rw [h.rlu hlink])

/-- The recorder link changed, but for its source state. -/
theorem OnlyChanges.sources_of_link {W : List Block} (h : OnlyChanges W s t) (hlink : t.rlu.live = s.rlu.live)
    (hports : .ports ∉ W) : sourceLive t = sourceLive s :=
  sourceLive_congr (fun p => h.live p hports) hlink

theorem sourceLive_of_reset (hd : s.portD = .reset .d) (hs : s.portS = .reset .s) (hr : s.rlu = .reset) :
    sourceLive s = fun _ => false := by
  funext a
  cases a <;> simp [sourceLive, hd, hs, hr] <;> rfl

end same

section ops
variable (s : State)

theorem txDue_sources (k : TxKind) : sourceLive (txDue k s) = sourceLive s :=
  (txDue_frame s k).sources_of_link (txDue_keeps s k).1 (by decide)

theorem quiesce_sources : sourceLive (quiesce s) = sourceLive s :=
  sourceLive_congr (fun p => (quiesce_port p s).2.1) (txDue_keeps _ .standby).1

theorem awaken_sources : sourceLive (awaken s) = sourceLive s := by
  refine sourceLive_congr (fun p => (awaken_port p s).2.1) ((txDue_keeps _ .status).1.trans ?_)
  have h (p : Port) (s : State) : (restartIfLive p s).rlu = s.rlu := by
    unfold restartIfLive
    split <;> simp
  show (restartIfLive .s (restartIfLive .d s)).rlu.live = _
  rw [h, h]

theorem transmitted_sources : sourceLive (transmitted s) = sourceLive s := by
  refine (transmitted_frame s).sources_of_link ?_ (by decide)
  unfold transmitted
  split <;> rfl

/-- No passage of the ignition cycle makes a source LIVE or SILENT. -/
theorem sources_passages (live : Source → Bool) : PassagesKeep fun s => sourceLive s = live where
  flag s b hs := ((setPwc_frame s _).sources (by decide) (by decide)).trans hs
  runEntry s _ hs := ((runEntry_frame s).sources (by decide) (by decide)).trans hs
  parkingDone s _ hs := (quiesce_sources _).trans (((enterPower_frame s _).sources (by decide) (by decide)).trans hs)
  enterRunCheck s _ hs := by
    have hbegun : sourceLive (cycleBegun s) = live := ((cycleBegun_frame s).sources (by decide) (by decide)).trans hs
    rw [enterRunCheck_eq]
    split
    · exact (awaken_sources _).trans hbegun
    · exact hbegun
  leaveCycle s _ hs := by
    have hleft : sourceLive (cycleLeft s) = live := ((cycleLeft_frame s).sources (by decide) (by decide)).trans hs
    rw [leaveCycle_eq]
    split
    · exact (quiesce_sources _).trans hleft
    · exact hleft

theorem powerConditions_sources : sourceLive (powerConditions s) = sourceLive s :=
  (sources_passages (sourceLive s)).powerConditions rfl

theorem ignitionOn_sources : sourceLive (ignitionOn s) = sourceLive s := (sources_passages (sourceLive s)).ignitionOn rfl

theorem ignitionOff_sources : sourceLive (ignitionOff s) = sourceLive s := (sources_passages (sourceLive s)).ignitionOff rfl

theorem edge_keeps_sources (live : Source → Bool) (i : Fin 12) {s : State} (hs : sourceLive s = live) :
    sourceLive (edge i s) = live :=
  (sources_passages live).edge (fun i s hs => ((edgeTold_frame s i).sources (by decide) (by decide)).trans hs)
    (fun _ _ hs => ((lampUpdate_frame _ _).sources (by decide) (by decide)).trans hs) i hs

theorem applyChannel_sources (k : ChannelConfig) : sourceLive (applyChannel k s) = sourceLive s := by
  rw [applyChannel_eq, powerConditions_sources]
  exact (channelShown_frame k s).sources (by decide) (by decide)

theorem motionInterval_sources : sourceLive (motionInterval s) = sourceLive s := by
  rw [motionInterval_eq]
  split
  · exact (setGe_frame s _).sources (by decide) (by decide)
  · rw [powerConditions_sources]
    exact (movedOn_frame s).sources (by decide) (by decide)

theorem comeOut_sources : sourceLive (comeOut s) = sourceLive s := by
  refine (comeOut_frame s).sources_of_link ((txDue_keeps _ .standby).1.trans ?_) (by decide)
  rw [(forEach_frame (fun _ t => post_frame t _ _) _ _).rlu (by decide), (post_frame _ _ _).rlu (by decide)]
  rfl

theorem tick_sources : sourceLive (tick s) = sourceLive s := by
  cases h : isOut s
  · exact (tick_frame_reset h).sources (by decide) (by decide)
  · rw [(tick_frame_out h).sources (by decide) (by decide)]
    exact sourceLive_congr (fun p => by rw [passOut_port]; rfl) rfl

end ops

/-- R170, R171, R117, R118: what is LIVE changes with a frame taken and with a supervision timer that runs out. -/
theorem act_sources {W : List Block} {s t : State} (a : Act W s t) : sourceLive t = sourceLive s ∨
    (∃ p, t = beginFrame p s) ∨ (∃ p, t = silencePort p s) ∨ t = linkTaken s ∨ t = loseLink s := by
  by_cases hw : Block.ports ∉ W ∧ Block.recorder ∉ W
  · exact .inl (a.frame.sources hw.1 hw.2)
  · cases a <;> simp at hw
    case begin p => exact .inr (.inl ⟨p, rfl⟩)
    case setPeriods d e hd he => exact .inl (sourceLive_congr (fun p => by cases p <;> rfl) rfl)
    case silencePort p => exact .inr (.inr (.inl ⟨p, rfl⟩))
    case applyChannel k _ _ _ _ => exact .inl (applyChannel_sources s k)
    case motionInterval => exact .inl (motionInterval_sources s)
    case setAssembly => exact .inl (sourceLive_congr (fun p => by cases p <;> rfl) rfl)
    case linkTaken => exact .inr (.inr (.inr (.inl rfl)))
    case modifyVehicle => exact .inl (sourceLive_congr (fun p => by cases p <;> rfl) rfl)
    case loseLink => exact .inr (.inr (.inr (.inr rfl)))
    case cadence =>
      exact .inl ((cadence_frame s).sources_of_link (txDue_keeps (s.setRlu { s.rlu with cadence := _ }) .status).1 (by decide))
    case transmitted => exact .inl (transmitted_sources s)
    case edge i => exact .inl (edge_keeps_sources _ i rfl)
    case sampleInputs mv =>
      exact .inl (sampleInputs_keeps (P := fun t => sourceLive t = sourceLive s)
        (fun n s hs => ((setChoices_frame s n).sources (by decide) (by decide)).trans hs) (fun mv s hs => ((storeSample_frame s mv).sources (by decide) (by decide)).trans hs)
        (fun i _ hs => edge_keeps_sources _ i hs) mv rfl)
    case selfCheckExpires =>
      refine .inl ((powerConditions_sources _).trans ?_)
      exact (setPwc_frame s _).sources (by decide) (by decide)

/-- R190: beyond the operations of a part out of reset, a reset alone bears on what is LIVE: nothing is then. -/
theorem always_sources {W : List Block} {s t : State} (a : Always W s t) :
    sourceLive t = sourceLive s ∨ sourceLive t = fun _ => false := by
  by_cases hw : Block.ports ∉ W ∧ Block.recorder ∉ W
  · exact .inl (a.frame.sources hw.1 hw.2)
  · cases a <;> simp [resetBlocks, tickBlocks] at hw
    case beginCause c => exact .inr (sourceLive_of_reset rfl rfl rfl)
    case commandReset => exact .inr (sourceLive_of_reset rfl rfl rfl)
    case comeOut => exact .inl (comeOut_sources s)
    case tick => exact .inl (tick_sources s)

end Sys2Proof.Machine
end

section
/-! SUPPORT. Every lamp resolved, with the written, recorder and loss contributions that its sources and its class allow, whatever
the part does (`State.lampsSound`). -/
namespace Sys2Proof.Machine

/-! ### What a lamp may hold -/

/-- R47, R54, R57, R59: the written, recorder and loss contributions of a lamp, given what is LIVE and whether it is mapped. -/
structure Lamp.Fits (live : Source → Bool) (mapped : Bool) (n : Fin 48) (l : Lamp) : Prop where
  loss : l.loss = lossOf (!live .portD) (!live .portS) (!live .recorder) l
  writtenD : live .portD = true ∨ l.writtenD = none
  writtenS : live .portS = true ∨ l.writtenS = none
  recorder : live .recorder = true ∨ l.recorder = none
  info : l.cls = .info ∨ l.writtenD = none
  unmapped : mapped = false ∨ l.writtenD = none
  first : n = 0 → l.cls = .safety
  fixed : n.val = 0 ∨ 5 < n.val ∨ l.cls = .info

/-- Every lamp is resolved, and holds what it may. -/
def LampsFit (live : Source → Bool) (mapped : Fin 48 → Bool) (lamps : Tab Lamp 48) : Prop :=
  ∀ n, (lamps.get n).resolved = (lamps.get n).resolve ∧ (lamps.get n).Fits live (mapped n) n

/-- `State.lampsSound`. -/
def LampsSound (s : State) : Prop := LampsFit (sourceLive s) (isMapped s.inputs) s.lamps

theorem lampsSound_iff (s : State) : s.lampsSound = true ↔ LampsSound s := by
  simp only [State.lampsSound, List.all_eq_true, List.mem_finRange, forall_const, lampSound, Bool.and_eq_true, Bool.or_eq_true,
    decide_eq_true_eq, Bool.not_eq_true', LampsSound, LampsFit]
  refine forall_congr' fun n => ⟨?_, ?_⟩
  · rintro ⟨⟨⟨⟨⟨⟨⟨⟨hres, hloss⟩, hd⟩, hs⟩, hr⟩, hinfo⟩, hmap⟩, hzero⟩, hfix⟩
    exact ⟨hres, hloss, hd, hs, hr, hinfo, hmap, fun h => hzero.resolve_left (by simp [h]), by tauto⟩
  · rintro ⟨hres, h⟩
    refine ⟨⟨⟨⟨⟨⟨⟨⟨hres, h.loss⟩, h.writtenD⟩, h.writtenS⟩, h.recorder⟩, h.info⟩, h.unmapped⟩, ?_⟩, ?_⟩
    · by_cases hn : n = 0
      · exact .inr (h.first hn)
      · exact .inl hn
    · have := h.fixed; tauto

section fits
variable {live live' : Source → Bool} {mapped : Bool} {n : Fin 48} {l m : Lamp}

/-- What the table forms itself does not bear on what a lamp may hold. -/
theorem Lamp.Fits.of_stored (h : l.Fits live mapped n) (hm : m.stored = l.stored) : m.Fits live mapped n := by
  have hstored : l.stored.Fits live mapped n := { h with }
  rw [← hm] at hstored
  exact { hstored with }

theorem Lamp.Fits.gauge (h : l.Fits live mapped n) (v : Option LampState) : Lamp.Fits live mapped n { l with gauge := v } :=
  { h with }

theorem Lamp.Fits.input (h : l.Fits live mapped n) (v : Option LampState) : Lamp.Fits live mapped n { l with input := v } :=
  { h with }

theorem Lamp.Fits.account (h : l.Fits live mapped n) (v : Option LampState) : Lamp.Fits live mapped n { l with account := v } :=
  { h with }

theorem Lamp.Fits.withRecorder (h : l.Fits live mapped n) (v : Option LampState) (hlive : live .recorder = true) :
    Lamp.Fits live mapped n { l with recorder := v } :=
  { h with recorder := .inl hlive }

/-- R54: more sources LIVE, with the loss contribution formed again. -/
theorem Lamp.Fits.returned (h : l.Fits live mapped n) (hle : ∀ a, live a = true → live' a = true) :
    Lamp.Fits live' mapped n { l with loss := lossOf (!live' .portD) (!live' .portS) (!live' .recorder) l } :=
  { h with
    loss := rfl
    writtenD := h.writtenD.imp_left (hle _)
    writtenS := h.writtenS.imp_left (hle _)
    recorder := h.recorder.imp_left (hle _) }

/-- R55: a port's written contributions discarded, and the loss contribution formed again. -/
theorem Lamp.Fits.withoutPort (h : l.Fits live mapped n) (p : Port)
    (hle : ∀ a, a ≠ portSource p → live a = true → live' a = true) : Lamp.Fits live' mapped n
      { l.withoutPort p with loss := lossOf (!live' .portD) (!live' .portS) (!live' .recorder) l } := by
  have hrec := h.recorder.imp_left (hle .recorder (by cases p <;> simp [portSource]))
  cases p with
  | d => exact { h with loss := rfl, writtenD := .inr rfl, writtenS := h.writtenS.imp_left (hle _ (by decide)),
                        recorder := hrec, info := .inr rfl, unmapped := .inr rfl }
  | s => exact { h with loss := rfl, writtenD := h.writtenD.imp_left (hle _ (by decide)), writtenS := .inr rfl,
                        recorder := hrec }

/-- R56: the recorder contributions discarded, and the loss contribution formed again. -/
theorem Lamp.Fits.withoutRecorder (h : l.Fits live mapped n) (hle : ∀ a, a ≠ .recorder → live a = true → live' a = true) :
    Lamp.Fits live' mapped n
      { l with recorder := none, loss := lossOf (!live' .portD) (!live' .portS) (!live' .recorder) l } :=
  { h with loss := rfl, writtenD := h.writtenD.imp_left (hle _ (by decide)), recorder := .inr rfl,
           writtenS := h.writtenS.imp_left (hle _ (by decide)) }

/-- R57, R58: a pair stored from a LIVE port, which Port D stores in an unmapped INFO lamp alone. -/
theorem Lamp.Fits.write (h : l.Fits live mapped n) (p : Port) (v : Option LampState) (hlive : live (portSource p) = true)
    (hd : p = .d → l.cls = .info ∧ mapped = false) : (l.write p v).Fits live mapped n := by
  cases p with
  | d => exact { h with writtenD := .inl hlive, info := .inl (hd rfl).1, unmapped := .inl (hd rfl).2 }
  | s => exact { h with writtenS := .inl hlive }

theorem Lamp.Fits.storePairs {p : Port} {pairs : List (Fin 48 × Option LampState)} (h : l.Fits live mapped n)
    (hlive : live (portSource p) = true) (hd : ∀ q ∈ pairs, q.1 = n → p = .d → l.cls = .info ∧ mapped = false) :
    (storePairs p pairs n l).Fits live mapped n := by
  induction pairs generalizing l with
  | nil => exact h
  | cons q rest ih =>
    rw [storePairs_cons]
    have hcls : (if q.1 = n then l.write p q.2 else l).cls = l.cls := by
      split
      · cases p <;> rfl
      · rfl
    refine ih ?_ fun r hr => by rw [hcls]; exact hd r (by simp [hr])
    split
    · next hn => exact h.write p q.2 hlive (hd q (by simp) hn)
    · exact h

/-- R59: a new class that the fixed classes allow, with new loss states. -/
theorem Lamp.Fits.withConfig {k : LampConfig} (h : l.Fits live mapped k.lamp)
    (hk : fixedClass k.lamp = none ∨ fixedClass k.lamp = some k.cls) : Lamp.Fits live mapped k.lamp { l.withConfig k with
      loss := lossOf (!live .portD) (!live .portS) (!live .recorder) (l.withConfig k) } := by
  have hcases : k.lamp.val = 0 ∧ k.cls = .safety ∨ k.lamp.val ≠ 0 ∧ k.lamp.val ≤ 5 ∧ k.cls = .info ∨ 5 < k.lamp.val := by
    unfold fixedClass at hk
    split at hk
    · next h0 => exact .inl ⟨h0, by simpa [eq_comm] using hk⟩
    · next h0 =>
      split at hk
      · next h5 => exact .inr (.inl ⟨h0, h5, by simpa [eq_comm] using hk⟩)
      · next h5 => exact .inr (.inr (by omega))
  have hwritten (b : Prop) (hb : b ∨ l.writtenD = none) : b ∨ (l.withConfig k).writtenD = none := by
    refine hb.imp_right fun e => ?_
    unfold Lamp.withConfig
    simp [e]
  refine ⟨rfl, hwritten _ h.writtenD, h.writtenS, h.recorder, ?_, hwritten _ h.unmapped, fun h0 => ?_, ?_⟩
  · cases hc : k.cls with
    | info => exact .inl hc
    | safety =>
      right
      rcases h.info with hi | hn
      · simp [Lamp.withConfig, hc, hi]
      · simp [Lamp.withConfig, hn]
  · rcases hcases with ⟨-, hc⟩ | ⟨h0', -⟩ | h5
    · exact hc
    · exact absurd (by rw [h0]; rfl) h0'
    · rw [h0] at h5; exact absurd h5 (by decide)
  · rcases hcases with ⟨h0, -⟩ | ⟨-, -, hc⟩ | h5
    · exact .inl h0
    · exact .inr (.inr hc)
    · exact .inr (.inl h5)

end fits

/-! ### Updates of the table -/

section updates
variable {live live' : Source → Bool} {mapped mapped' : Fin 48 → Bool} {s : State}

theorem LampsFit.update (h : LampsFit live mapped s.lamps) {change : Fin 48 → Lamp → Lamp}
    (hchange : ∀ n l, l = s.lamps.get n → l.Fits live (mapped n) n → (change n l).Fits live' (mapped' n) n) :
    LampsFit live' mapped' (lampUpdate change s).lamps := by
  intro n
  obtain ⟨hres, hfits⟩ := h n
  rw [lampUpdate_lamps]
  exact ⟨updatedLamps_resolved _ _ _ _ hres, (hchange n _ rfl hfits).of_stored (updatedLamps_stored _ _ _ _)⟩

theorem LampsFit.formGauge (h : LampsFit live mapped s.lamps) (lamps : List (Fin 48)) :
    LampsFit live mapped (formGauge lamps s).lamps := by
  refine h.update fun n l _ hl => ?_
  split
  · exact hl.gauge _
  · exact hl

theorem LampsFit.formGaugeAny (h : LampsFit live mapped s.lamps) (lamps : List (Fin 48)) :
    LampsFit live mapped (formGaugeAny lamps s).lamps := by
  unfold Machine.formGaugeAny
  split
  · exact h
  · exact h.formGauge lamps

theorem LampsFit.formInputs (h : LampsFit live mapped s.lamps) (lamps : List (Fin 48)) :
    LampsFit live mapped (formInputs lamps s).lamps := by
  refine h.update fun n l _ hl => ?_
  split
  · exact hl.input _
  · exact hl

theorem LampsFit.handAccount (h : LampsFit live mapped s.lamps) : LampsFit live mapped (handAccount s).lamps := by
  refine h.update fun n l _ hl => ?_
  split
  · exact hl.account _
  · exact hl

theorem LampsFit.frame {t : State} {W : List Block} (h : LampsFit live mapped s.lamps) (hframe : OnlyChanges W s t)
    (hlamps : .lamps ∉ W) : LampsFit live mapped t.lamps := by
  rw [hframe.lamps hlamps]
  exact h

theorem LampsFit.gaugeChange (h : LampsFit live mapped s.lamps) (c : Fin 8 → Bool) (f : Channel → Channel) :
    LampsFit live mapped (gaugeChange c f s).lamps := (h.frame (gaugeSelect_frame s c f) (by decide)).formGaugeAny _

/-- R7: a source's values gone, and the lamp table's own update of the silence, in either order. -/
theorem LampsFit.silenceSource (h : LampsFit live mapped s.lamps) (a : Source) {other : State → State}
    (hother : ∀ u, sourceLive u = sourceLive s → LampsFit live mapped u.lamps → LampsFit live' mapped' (other u).lamps) :
    LampsFit live' mapped' (silenceSource a other s).lamps := by
  have hframe := gaugeSelect_frame s (fun _ => true) (Channel.store a none)
  have hsel := h.frame hframe (by decide)
  have hsources := hframe.sources (by decide) (by decide)
  unfold Machine.silenceSource withGaugeUpdate
  dsimp only
  split
  · split
    · exact hother _ (((lampUpdate_frame _ _).sources (by decide) (by decide)).trans (((setChoices_frame _ _).sources (by decide) (by decide)).trans hsources))
        (LampsFit.formGauge (hsel.frame (setChoices_frame _ _) (by decide)) _)
    · exact (hother _ (((setChoices_frame _ _).sources (by decide) (by decide)).trans hsources) (hsel.frame (setChoices_frame _ _) (by decide))).formGauge _
  · exact hother _ hsources hsel

theorem LampsFit.channelShown (h : LampsFit live mapped s.lamps) (k : ChannelConfig) :
    LampsFit live mapped (channelShown k s).lamps := (h.frame (channelTold_frame k s) (by decide)).formGaugeAny _

theorem LampsFit.readLamp (h : LampsFit live mapped s.lamps) (draws : Tab Bool 8) (n : Fin 48) :
    LampsFit live mapped (readLamp draws n s).lamps := by
  have hset := h.frame (setLmd_frame s { s.lmd with
    readings := s.lmd.readings.set n ((s.lmd.readings.get n).read (draws.get (lampColumn n))) }) (by decide)
  unfold Machine.readLamp
  dsimp only
  split
  · exact hset
  · exact (hset.frame (post_frame _ _ _) (by decide)).update fun _ _ _ hl => hl

theorem LampsFit.rowSlotEnd (h : LampsFit live mapped s.lamps) (draws : Tab Bool 8) :
    LampsFit live mapped (rowSlotEnd draws s).lamps := by
  unfold Machine.rowSlotEnd
  split
  · have hall (l : List (Fin 48)) {s : State} (h : LampsFit live mapped s.lamps) :
        LampsFit live mapped (forEach (Machine.readLamp draws) l s).lamps :=
      forEach_preserves (fun s : State => LampsFit live mapped s.lamps) _ (fun n _ h => h.readLamp draws n) l _ h
    have htold := inSomeOrder_preserves (fun s : State => LampsFit live mapped s.lamps) _
      (fun s n h => h.frame (setChoices_frame s n) (by decide)) (fun l _ h => hall l h)
      (faultsChanged draws s.lmd) _ (hall (faultsKept draws s.lmd) h)
    exact htold
  · exact h

theorem LampsFit.announceWarn (h : LampsFit live mapped s.lamps) (slot : Slot) (w : WarnState) :
    LampsFit live mapped (announceWarn slot w s).lamps := h.frame (announceWarn_frame _ _ _) (by decide)

theorem LampsFit.formWarn (h : LampsFit live mapped s.lamps) (slot : Slot) : LampsFit live mapped (formWarn slot s).lamps := by
  unfold Machine.formWarn
  split
  · exact ((h.frame (modifyRecord_frame s slot _) (by decide)).announceWarn slot _).handAccount
  · exact h

theorem LampsFit.creditSlot (h : LampsFit live mapped s.lamps) (stamp : Nat) (c : Slot × Activity) :
    LampsFit live mapped (creditSlot stamp c s).lamps := by
  have htold : LampsFit live mapped (creditTold stamp c s).lamps := by
    unfold creditTold
    dsimp only
    split
    · exact (h.frame (setRecord_frame s c.1 _) (by decide)).frame (post_frame _ _ _) (by decide)
    · exact h.frame (setRecord_frame s c.1 _) (by decide)
  rw [creditSlot_eq]
  refine LampsFit.frame ?_ (modifyRecord_frame _ _ _) (by decide)
  split
  · exact htold
  · exact htold.formWarn c.1

theorem LampsFit.slotActivity (h : LampsFit live mapped s.lamps) (c : Slot × ActivityArg) :
    LampsFit live mapped (slotActivity c s).lamps := by
  have hset (f : DriverRecord → DriverRecord) := h.frame (modifyRecord_frame s c.1 f) (by decide)
  unfold Machine.slotActivity
  dsimp only
  split
  · split
    · split
      · split
        · exact (hset _).frame (post_frame _ _ _) (by decide)
        · exact hset _
      · exact ((hset _).frame (post_frame _ _ _) (by decide)).handAccount
    · exact ((hset _).frame (post_frame _ _ _) (by decide)).handAccount
  · exact h

theorem LampsFit.slotSummary (h : LampsFit live mapped s.lamps) (c : Slot × SummaryArg) :
    LampsFit live mapped (slotSummary c s).lamps := by
  have hadopt (k : SummaryCase) : LampsFit live mapped (adopt c.1 c.2 k s).lamps := by
    rw [adopt_eq]
    exact (((h.frame (summaryTold_frame c.1 c.2 k s) (by decide)).formWarn c.1).frame (post_frame _ _ _) (by decide)).frame
      (modifyRecord_frame _ _ _) (by decide)
  unfold Machine.slotSummary
  dsimp only
  split
  · split
    · exact h.frame (post_frame s _ _) (by decide)
    · exact hadopt _
  · exact h

theorem LampsFit.setLead (h : LampsFit live mapped s.lamps) (n : Nat) : LampsFit live mapped (setLead n s).lamps := by
  have hrewarn (slot : Slot) (s : State) (h : LampsFit live mapped s.lamps) : LampsFit live mapped (rewarn slot s).lamps := by
    unfold rewarn
    split
    · exact (h.formWarn slot).frame (modifyRecord_frame _ _ _) (by decide)
    · exact h
  exact inSomeOrder_preserves (fun s : State => LampsFit live mapped s.lamps) _ (fun s n h => h.frame (setChoices_frame s n) (by decide))
    (forEach_preserves (fun s : State => LampsFit live mapped s.lamps) _ hrewarn) _ _ (h.frame (setAau_frame s _) (by decide))

theorem LampsFit.runEntry (h : LampsFit live mapped s.lamps) : LampsFit live mapped (runEntry s).lamps :=
  LampsFit.frame (((h.frame (setPwc_frame s _) (by decide)).frame (enterPower_frame _ _) (by decide)).formGaugeAny _) (judgeTone_frame _) (by decide)

theorem LampsFit.leaveCycle (h : LampsFit live mapped s.lamps) : LampsFit live mapped (leaveCycle s).lamps := by
  have hstopped := h.frame (cycleStopped_frame s) (by decide)
  have hleft : LampsFit live mapped (cycleLeft s).lamps := by
    unfold cycleLeft
    split
    · exact LampsFit.frame (hstopped.formGaugeAny _) (judgeTone_frame _) (by decide)
    · exact hstopped.frame (judgeTone_frame _) (by decide)
  rw [leaveCycle_eq]
  split
  · exact hleft.frame (quiesce_frame _) (by decide)
  · exact hleft

theorem lampsFit_passages (live : Source → Bool) (mapped : Fin 48 → Bool) :
    PassagesKeep fun s => LampsFit live mapped s.lamps where
  flag _ _ h := h
  runEntry _ _ h := h.runEntry
  parkingDone s _ h := h.frame (parkingDone_frame s) (by decide)
  enterRunCheck s _ h := h.frame (enterRunCheck_frame s) (by decide)
  leaveCycle _ _ h := h.leaveCycle

theorem LampsFit.edge (h : LampsFit live mapped s.lamps) (i : Fin 12) : LampsFit live mapped (edge i s).lamps :=
  (lampsFit_passages live mapped).edge (fun i s h => h.frame (edgeTold_frame s i) (by decide)) (fun l _ h => h.formInputs l) i h

end updates

/-! ### Which lamps are mapped -/

section mapped
variable (inputs : Tab InputRecord 12) (i : Fin 12) (r : InputRecord) (n : Fin 48)

/-- R161: an input maps a lamp. -/
def InputRecord.maps (r : InputRecord) (n : Fin 48) : Prop := r.function = .lamp ∧ r.target = n

theorem isMapped_iff : isMapped inputs n = true ↔ ∃ i, (inputs.get i).maps n := by
  simp [isMapped, Tab.any_iff, InputRecord.maps]

variable {inputs i r n} in
theorem isMapped_set (h : r.maps n ↔ (inputs.get i).maps n) : isMapped (inputs.set i r) n = isMapped inputs n := by
  rw [Bool.eq_iff_iff, isMapped_iff, isMapped_iff]
  refine exists_congr fun j => ?_
  rw [Tab.get_set]
  split
  · next e => rw [h, e]
  · rfl

theorem edgeTold_inputs (s : State) : (edgeTold i s).inputs = s.inputs.set i (s.inputs.get i).edged := by
  unfold edgeTold
  split <;> simp

theorem edge_inputs (s : State) : (edge i s).inputs = s.inputs.set i (s.inputs.get i).edged := by
  rw [edge_eq]
  split
  · exact edgeTold_inputs i s
  · rw [(handActive_frame _ _).inputs (by decide)]
    exact edgeTold_inputs i s

theorem edge_mapped (s : State) : isMapped (edge i s).inputs = isMapped s.inputs := by
  funext n
  rw [edge_inputs]
  exact isMapped_set Iff.rfl

theorem storeSample_mapped (mv : Tab Int 12) (s : State) : isMapped (storeSample mv s).inputs = isMapped s.inputs := by
  funext n
  rw [Bool.eq_iff_iff, isMapped_iff, isMapped_iff]
  refine exists_congr fun j => ?_
  show ((s.inputs.mapIdx fun i r => r.sample (mv.get i)).get j).maps n ↔ _
  rw [Tab.get_mapIdx]
  exact Iff.rfl

end mapped

/-! ### Every step -/

section steps
variable {s t : State}

theorem LampsSound.of (h : LampsFit (sourceLive s) (isMapped s.inputs) t.lamps) (hlive : sourceLive t = sourceLive s)
    (hmapped : isMapped t.inputs = isMapped s.inputs) : LampsSound t := by
  rw [LampsSound, hlive, hmapped]
  exact h

theorem LampsSound.frame (hs : LampsSound s) {W : List Block} (h : OnlyChanges W s t) (hlive : sourceLive t = sourceLive s)
    (hlamps : .lamps ∉ W) (hinputs : .inputs ∉ W) : LampsSound t :=
  .of (LampsFit.frame hs h hlamps) hlive (by rw [h.inputs hinputs])

/-- R54: the loss contributions formed again, as a source has become LIVE. -/
theorem LampsSound.reformLoss (hs : LampsSound s) (hlamps : t.lamps = s.lamps) (hinputs : t.inputs = s.inputs)
    (hle : ∀ a, sourceLive s a = true → sourceLive t a = true) : LampsSound (reformLoss t) := by
  have hold : LampsFit (sourceLive s) (isMapped s.inputs) t.lamps := hlamps ▸ hs
  have hnew : LampsFit (sourceLive t) (isMapped s.inputs) (Machine.reformLoss t).lamps :=
    hold.update fun n l _ hl => hl.returned hle
  have hlive : sourceLive (Machine.reformLoss t) = sourceLive t := (lampUpdate_frame t _).sources (by decide) (by decide)
  rw [LampsSound, hlive, reformLoss_inputs, hinputs]
  exact hnew

theorem LampsSound.returnSource (hs : LampsSound s) (p : Port) : LampsSound (returnSource p s) := by
  unfold Machine.returnSource
  split
  · exact hs
  · refine hs.reformLoss (by simp) (by simp) fun a ha => ?_
    rw [(post_frame _ _ _).sources (by decide) (by decide)]
    cases p <;> cases a <;> simp_all [sourceLive, State.setPort]

theorem LampsSound.beginFrame (hs : LampsSound s) (p : Port) : LampsSound (beginFrame p s) := by
  have hout := hs.frame (shiftOut_frame p s (some 192)) ((shiftOut_frame p s _).sources (by decide) (by decide)) (by decide) (by decide)
  have hfresh := hout.frame (clearFresh_frame p _) (sourceLive_congr (fun q => (clearFresh_port p q _).1) (by simp)) (by decide) (by decide)
  exact (hfresh.returnSource p).frame (restartTimer_frame p _)
    (sourceLive_congr (fun q => (restartTimer_port p q _).1) (by simp)) (by decide) (by decide)

theorem LampsSound.linkTaken (hs : LampsSound s) : LampsSound (linkTaken s) := by
  have hset (r : RecorderLink) (s : State) (h : r.live = s.rlu.live) : sourceLive (s.setRlu r) = sourceLive s :=
    (setRlu_frame s r).sources_of_link h (by decide)
  have hhunt := hs.frame (setRlu_frame s { s.rlu with assembly := .hunt, gapTime := 0 }) (hset _ _ rfl) (by decide) (by decide)
  refine LampsSound.frame ?_ (setRlu_frame _ _) (hset _ _ rfl) (by decide) (by decide)
  unfold returnLink
  split
  · exact hhunt
  · refine hhunt.reformLoss (by simp [setAssembly]) (by simp [setAssembly]) fun a ha => ?_
    rw [(post_frame _ _ _).sources (by decide) (by decide)]
    cases a with
    | portD | portS => exact ha
    | recorder => rfl

/-- R7, R55: a silenced port's contributions are gone, and the loss contributions stand as what is LIVE asks. -/
theorem LampsSound.silencePort (hs : LampsSound s) (p : Port) : LampsSound (silencePort p s) := by
  let silenced := post .sourceSilent (portSource p).code (s.setPort p { s.port p with live := false, timer := none })
  have hle (a : Source) (ha : a ≠ portSource p) (h : sourceLive s a = true) : sourceLive silenced a = true := by
    rw [(post_frame _ _ _).sources (by decide) (by decide)]
    cases p <;> cases a <;> simp_all [sourceLive, State.setPort, portSource]
  have hinputs : silenced.inputs = s.inputs := by simp [silenced]
  have hfit : LampsFit (sourceLive s) (isMapped s.inputs) silenced.lamps := by
    rw [show silenced.lamps = s.lamps by simp [silenced]]
    exact hs
  have hdone {u : State} (hlive : sourceLive u = sourceLive silenced) (hu : u.inputs = s.inputs)
      (h : LampsFit (sourceLive s) (isMapped s.inputs) u.lamps) :
      LampsSound (silenceSource (portSource p) (discardWritten p) u) := by
    have hframe : OnlyChanges [.gauges, .window, .lamps, .chimes, .events] u
      (silenceSource (portSource p) (discardWritten p) u) := silenceSource_frame _ fun t => lampUpdate_frame t _
    have hnew : LampsFit (sourceLive u) (isMapped s.inputs) (silenceSource (portSource p) (discardWritten p) u).lamps := by
      refine h.silenceSource _ fun v hv hfit => hfit.update fun n l _ hl => ?_
      rw [← hv]
      exact hl.withoutPort p fun a ha h => by rw [hv, hlive]; exact hle a ha h
    rw [LampsSound, hframe.sources (by decide) (by decide), hframe.inputs (by decide), hu]
    exact hnew
  cases p
  · exact hdone rfl hinputs hfit
  · exact hdone ((closeWindow_frame silenced).sources (by decide) (by decide)) (((closeWindow_frame silenced).inputs (by decide)).trans hinputs)
      (hfit.frame (closeWindow_frame _) (by decide))

theorem LampsSound.loseLink (hs : LampsSound s) : LampsSound (loseLink s) := by
  let lost := post .sourceSilent Source.recorder.code
    (s.setRlu { s.rlu with live := false, timer := none, vehicle := s.rlu.vehicle.hold })
  have hle (a : Source) (ha : a ≠ .recorder) (h : sourceLive s a = true) : sourceLive lost a = true := by
    rw [(post_frame _ _ _).sources (by decide) (by decide)]
    cases a with
    | portD | portS => exact h
    | recorder => exact absurd rfl ha
  have hfit : LampsFit (sourceLive s) (isMapped s.inputs) lost.lamps := by
    rw [show lost.lamps = s.lamps by simp [lost]]
    exact hs
  have hframe : OnlyChanges [.gauges, .window, .lamps, .chimes, .events] lost
    (silenceSource .recorder discardRecorder lost) := silenceSource_frame _ fun t => lampUpdate_frame t _
  have hnew : LampsFit (sourceLive lost) (isMapped s.inputs) (silenceSource .recorder discardRecorder lost).lamps := by
    refine hfit.silenceSource _ fun v hv h => h.update fun n l _ hl => ?_
    rw [← hv]
    exact hl.withoutRecorder fun a ha h => by rw [hv]; exact hle a ha h
  have hinputs : (silenceSource .recorder discardRecorder lost).inputs = s.inputs := by
    rw [hframe.inputs (by decide), (post_frame _ _ _).inputs (by decide)]
    rfl
  have hsilenced : LampsSound (linkSilenced s) := by
    have hlost : LampsSound (silenceSource .recorder discardRecorder lost) := by
      rw [LampsSound, hframe.sources (by decide) (by decide), hinputs]
      exact hnew
    exact hlost
  exact hsilenced.frame (setAau_frame _ _) ((setAau_frame _ _).sources (by decide) (by decide)) (by decide) (by decide)

/-- R49, R164: a lamp that a changed input maps loses its written_D. -/
theorem LampsSound.applyInput (hs : LampsSound s) (k : InputConfig) : LampsSound (applyInput k s) := by
  let new := (s.inputs.get k.input).configure k
  let placed := s.setInputs (s.inputs.set k.input new)
  have hplaced : LampsFit (sourceLive s) (isMapped s.inputs) placed.lamps := hs
  have hlive (t : State) (h : OnlyChanges [.lamps, .chimes, .events] placed t) : sourceLive t = sourceLive s :=
    (h.sources (by decide) (by decide)).trans ((setInputs_frame s _).sources (by decide) (by decide))
  have hsame (n : Fin 48) (hn : n ∉ inputLamps (s.inputs.get k.input) new) : isMapped placed.inputs n = isMapped s.inputs n := by
    refine isMapped_set ⟨fun ⟨hf, ht⟩ => ?_, fun ⟨hf, ht⟩ => ?_⟩ <;> exact absurd (by simp [inputLamps, hf, ht]) hn
  have happly : Machine.applyInput k s = if inputLamps (s.inputs.get k.input) new = [] then placed
    else remapLamps (inputLamps (s.inputs.get k.input) new) s.inputs placed := rfl
  rw [happly]
  split
  · next h => exact .of hplaced (hlive _ (.refl _ _)) (funext fun n => hsame n (by simp [h]))
  · have hnew : LampsFit (sourceLive s) (isMapped placed.inputs)
        (remapLamps (inputLamps (s.inputs.get k.input) new) s.inputs placed).lamps := by
      refine hplaced.update fun n l _ hl => ?_
      split
      · have hwritten (b : Prop) (hb : b ∨ l.writtenD = none) :
            b ∨ (if isMapped placed.inputs n && !isMapped s.inputs n then none else l.writtenD) = none := by
          refine hb.imp_right fun e => ?_
          simp [e]
        refine { hl.input (inputContribution placed.inputs n) with writtenD := hwritten _ hl.writtenD, info := hwritten _ hl.info, unmapped := ?_ }
        cases hm : isMapped placed.inputs n
        · exact .inl rfl
        · rcases hl.unmapped with h | h <;> simp [h]
      · next hn => rw [hsame n (by simpa using hn)]; exact hl
    have hframe : OnlyChanges [.lamps, .chimes, .events] placed
      (remapLamps (inputLamps (s.inputs.get k.input) new) s.inputs placed) := lampUpdate_frame _ _
    rw [LampsSound, hlive _ hframe, hframe.inputs (by decide)]
    exact hnew

theorem lampsSound_of_reset (hlamps : s.lamps = .ofFn Lamp.reset) (hlive : sourceLive s = fun _ => false)
    (hinputs : s.inputs = State.reset.inputs) : LampsSound s := by
  have hreset : LampsSound State.reset := (lampsSound_iff _).1 (by decide)
  have hsilent : sourceLive State.reset = fun _ => false := by
    funext a
    cases a <;> decide
  rw [LampsSound, hsilent] at hreset
  rw [LampsSound, hlamps, hlive, hinputs]
  exact hreset

end steps

theorem lampsSound_kept : Kept LampsSound where
  act {W s t} hout a hs := by
    by_cases hmoves : (∃ p, t = beginFrame p s) ∨ (∃ p, t = silencePort p s) ∨ t = linkTaken s ∨ t = loseLink s
    · rcases hmoves with ⟨p, rfl⟩ | ⟨p, rfl⟩ | rfl | rfl
      · exact hs.beginFrame p
      · exact hs.silencePort p
      · exact hs.linkTaken
      · exact hs.loseLink
    · have hlive : sourceLive t = sourceLive s := (act_sources a).resolve_right hmoves
      by_cases hw : ∀ b ∈ [Block.lamps, .inputs], b ∉ W
      · exact hs.frame a.frame hlive (hw _ (by simp)) (hw _ (by simp))
      · have hfit : LampsFit (sourceLive s) (isMapped s.inputs) s.lamps := hs
        have hkeep (hinputs : Block.inputs ∉ W) (h : LampsFit (sourceLive s) (isMapped s.inputs) t.lamps) : LampsSound t :=
          .of h hlive (by rw [a.frame.inputs hinputs])
        cases a <;> simp at hw
        case begin p => exact hs.beginFrame p
        case silencePort p => exact hs.silencePort p
        case deliver => exact hkeep (by decide) (hfit.gaugeChange _ _)
        case applyChannel k _ _ _ _ =>
          exact hkeep (by decide) ((lampsFit_passages _ _).powerConditions (hfit.channelShown k))
        case motionInterval =>
          refine hkeep (by decide) ?_
          rw [motionInterval_eq]
          split
          · exact hfit.frame (setGe_frame s _) (by decide)
          · exact (lampsFit_passages _ _).powerConditions (hfit.frame (movedOn_frame s) (by decide))
        case writeLamps p pairs hport hmay =>
          refine hkeep (by decide) (hfit.update fun n l hl h => h.storePairs (by rwa [sourceLive_portSource]) ?_)
          rintro q hq rfl rfl
          have := hmay q hq
          simp only [mayWrite, portDMayWrite, Bool.and_eq_true, decide_eq_true_eq, Bool.not_eq_true'] at this
          rwa [hl]
        case configureLamp k hk =>
          refine hkeep (by decide) (hfit.update fun n l _ h => ?_)
          split
          · next hn => subst hn; exact h.withConfig hk
          · exact h
        case handRecorder n v hn hlink =>
          refine hkeep (by decide) (hfit.update fun n l _ h => ?_)
          split
          · exact h.withRecorder _ hlink
          · exact h
        case rowSlotEnd draws => exact hkeep (by decide) (hfit.rowSlotEnd draws)
        case creditSlot stamp c => exact hkeep (by decide) (hfit.creditSlot stamp c)
        case slotActivity c => exact hkeep (by decide) (hfit.slotActivity c)
        case slotSummary c => exact hkeep (by decide) (hfit.slotSummary c)
        case setLead n _ => exact hkeep (by decide) (hfit.setLead n)
        case linkTaken => exact hs.linkTaken
        case loseLink => exact hs.loseLink
        case applyInput args k _ _ => exact hs.applyInput k
        case edge i => exact .of (hfit.edge i) hlive (edge_mapped i s)
        case sampleInputs mv =>
          have hboth := sampleInputs_keeps
            (P := fun u => LampsFit (sourceLive s) (isMapped s.inputs) u.lamps ∧ isMapped u.inputs = isMapped s.inputs)
            (fun n u h => h) (fun mv u h => ⟨h.1.frame (storeSample_frame u mv) (by decide), (storeSample_mapped mv u).trans h.2⟩)
            (fun i u h => ⟨h.1.edge i, (edge_mapped i u).trans h.2⟩) mv ⟨hfit, rfl⟩
          exact .of hboth.1 hlive hboth.2
        case selfCheckExpires =>
          exact hkeep (by decide) ((lampsFit_passages _ _).powerConditions (hfit.frame (setPwc_frame s _) (by decide)))
  always {W s t} a hs := by
    by_cases hw : ∀ b ∈ [Block.lamps, .inputs, .ports, .recorder], b ∉ W
    · exact hs.frame a.frame (a.frame.sources (hw _ (by simp)) (hw _ (by simp))) (hw _ (by simp)) (hw _ (by simp))
    · cases a <;> simp [resetBlocks, tickBlocks] at hw
      case beginCause c => exact lampsSound_of_reset rfl (sourceLive_of_reset rfl rfl rfl) rfl
      case commandReset => exact lampsSound_of_reset rfl (sourceLive_of_reset rfl rfl rfl) rfl
      case comeOut => exact hs.frame (comeOut_frame s) (comeOut_sources s) (by decide) (by decide)
      case tick => exact hs.frame (tick_frame s) (tick_sources s) (by decide) (by decide)

end Sys2Proof.Machine
end

section
/-! SUPPORT. What the contributions that the blocks form read (R14, R49, R50): of a channel whether it is enabled, its fault lamp and
its signal; of the power state whether it is RUN; of an input what it asks of its target; of a driver record its warning. -/
namespace Sys2Proof.Machine

/-! ### The gauge contribution (R14) -/

/-- R14: what a channel shows at its fault lamp: that it names it, and its signal. -/
def Channel.showing (c : Channel) : Option (Fin 48 × Bool) := if c.enabled then some (c.faultLamp, c.signal) else none

section gauge
variable {c d : Channel} {n : Fin 48} {b : Bool}

theorem Channel.showing_eq_some : c.showing = some (n, b) ↔ c.enabled = true ∧ c.faultLamp = n ∧ c.signal = b := by
  unfold showing
  split <;> simp_all

theorem Channel.names_iff : (c.enabled && c.faultLamp = n) = true ↔ ∃ b, c.showing = some (n, b) := by
  simp [Channel.showing_eq_some]

theorem Channel.lost_iff : (c.enabled && c.faultLamp = n && !c.signal) = true ↔ c.showing = some (n, false) := by
  simp [Channel.showing_eq_some, and_assoc]

theorem Channel.SameSignal.showing (h : c.SameSignal d) : d.showing = c.showing := by
  simp [Channel.showing, Channel.signal, h.enabled, h.faultLamp, h.active]

@[simp] theorem Channel.dropPending_showing (c : Channel) : c.dropPending.showing = c.showing := rfl
@[simp] theorem Channel.dropPending_enabled (c : Channel) : c.dropPending.enabled = c.enabled := rfl
@[simp] theorem Channel.dropPending_faultLamp (c : Channel) : c.dropPending.faultLamp = c.faultLamp := rfl

theorem gaugeContribution_congr {g g' : GaugeEngine} {power power' : PowerState} (hpower : power' = .run ↔ power = .run)
    (h : ∀ i b, (g'.channels.get i).showing = some (n, b) ↔ (g.channels.get i).showing = some (n, b)) :
    gaugeContribution g' power' n = gaugeContribution g power n := by
  have hnamed : (g'.channels.any fun c => c.enabled && c.faultLamp = n) = g.channels.any fun c => c.enabled && c.faultLamp = n := by
    rw [Bool.eq_iff_iff, Tab.any_iff, Tab.any_iff]
    simp only [Channel.names_iff]
    exact exists_congr fun i => exists_congr fun b => h i b
  have hlost : (g'.channels.any fun c => c.enabled && c.faultLamp = n && !c.signal) =
      g.channels.any fun c => c.enabled && c.faultLamp = n && !c.signal := by
    rw [Bool.eq_iff_iff, Tab.any_iff, Tab.any_iff]
    simp only [Channel.lost_iff]
    exact exists_congr fun i => h i false
  unfold gaugeContribution
  rw [hnamed, hlost]
  simp [hpower]

/-- R14: a lamp that no enabled channel names has no gauge contribution, in whatever power state. -/
theorem gaugeContribution_unnamed {g : GaugeEngine} {power : PowerState} (h : n ∉ namedLamps g) :
    gaugeContribution g power n = none := by
  unfold gaugeContribution
  rw [if_neg]
  rw [Tab.any_iff]
  rintro ⟨i, hi⟩
  simp only [Bool.and_eq_true, decide_eq_true_eq] at hi
  exact h (by
    simp only [namedLamps, List.mem_dedup, List.mem_map, List.mem_filter]
    exact ⟨g.channels.get i, ⟨(Tab.mem_val_iff _ _).2 ⟨i, rfl⟩, hi.1⟩, hi.2⟩)

theorem gaugeContribution_named {g : GaugeEngine} {power power' : PowerState} (h : n ∉ namedLamps g) :
    gaugeContribution g power' n = gaugeContribution g power n := by
  rw [gaugeContribution_unnamed h, gaugeContribution_unnamed h]

/-- R11, R12: a lamp not concerned by a change of signals is shown what it was shown. -/
theorem showing_of_not_concerned {before after : Tab Channel 8} (henabled : ∀ i, (after.get i).enabled = (before.get i).enabled)
    (hlamp : ∀ i, (after.get i).faultLamp = (before.get i).faultLamp) (hn : n ∉ lampsConcerned before after) (i : Fin 8)
    (b : Bool) : (after.get i).showing = some (n, b) ↔ (before.get i).showing = some (n, b) := by
  simp only [Channel.showing_eq_some, henabled, hlamp]
  refine and_congr_right fun _ => and_congr_right fun hi => ?_
  have hsignal : (after.get i).signal = (before.get i).signal := by
    by_contra hne
    refine hn ?_
    simp only [lampsConcerned, channelsLost, channelsGained, List.mem_dedup, List.mem_map, List.mem_append, List.mem_filter,
      List.mem_finRange, true_and, Bool.and_eq_true, Bool.not_eq_true']
    refine ⟨i, ?_, (hlamp i).trans hi⟩
    cases ha : (after.get i).signal <;> cases hb : (before.get i).signal <;> simp_all
  rw [hsignal]

/-- R22: a lamp not concerned by a request to a channel is shown what it was shown. -/
theorem showing_of_not_configured (hn : n ∉ configLamps c d) : d.showing = some (n, b) ↔ c.showing = some (n, b) := by
  simp only [Channel.showing_eq_some]
  unfold configLamps at hn
  split at hn
  · simp only [List.mem_dedup, List.mem_cons, List.not_mem_nil, or_false, not_or] at hn
    exact ⟨fun h => absurd h.2.1.symm hn.2, fun h => absurd h.2.1.symm hn.1⟩
  · next hsame =>
    simp only [Bool.or_eq_true, decide_eq_true_eq, not_or, not_not] at hsame
    rw [← hsame.1, ← hsame.2]
    split at hn
    · next =>
      rw [← hsame.2] at hn
      exact ⟨fun h => absurd (by simp [h.2.1]) hn, fun h => absurd (by simp [h.2.1]) hn⟩
    · next hsignal =>
      simp only [not_not] at hsignal
      rw [hsignal]

theorem Channel.reselect_enabled (live : Source → Bool) (c : Channel) : (c.reselect live).enabled = c.enabled := by
  unfold reselect
  split <;> rfl

theorem Channel.reselect_faultLamp (live : Source → Bool) (c : Channel) : (c.reselect live).faultLamp = c.faultLamp := by
  unfold reselect
  split <;> rfl

@[simp] theorem Channel.store_enabled (a : Source) (v : Option Nat) (c : Channel) : (c.store a v).enabled = c.enabled := by
  cases a <;> rfl

@[simp] theorem Channel.store_faultLamp (a : Source) (v : Option Nat) (c : Channel) :
    (c.store a v).faultLamp = c.faultLamp := by cases a <;> rfl

end gauge

/-! ### The input contribution (R49, R161) -/

/-- R161: what an input asks of a lamp. -/
def InputRecord.ask (n : Fin 48) (r : InputRecord) : Option LampState :=
  if r.function = .lamp && r.target = n then some (if r.active then r.lampState.lamp else .off) else none

section input
variable {inputs : Tab InputRecord 12} {i : Fin 12} {r : InputRecord} {n : Fin 48}

theorem asks_eq (l : List InputRecord) (n : Fin 48) :
    ((l.filter fun r => r.function = .lamp && r.target = n).map fun r => if r.active then r.lampState.lamp else .off) =
      (l.map (InputRecord.ask n)).filterMap id := by
  induction l with
  | nil => rfl
  | cons r l ih =>
    by_cases h : (r.function = .lamp && r.target = n) = true <;> simp [InputRecord.ask, h, ih]

theorem inputContribution_congr {inputs' : Tab InputRecord 12} (h : ∀ i, (inputs'.get i).ask n = (inputs.get i).ask n) :
    inputContribution inputs' n = inputContribution inputs n := by
  have hval : inputs'.val.map (InputRecord.ask n) = inputs.val.map (InputRecord.ask n) := by
    have htab : inputs'.map (InputRecord.ask n) = inputs.map (InputRecord.ask n) :=
      Tab.ext_get fun i => by rw [Tab.get_map, Tab.get_map]; exact h i
    exact congrArg (·.val) htab
  unfold inputContribution
  rw [asks_eq, asks_eq, hval]

theorem inputContribution_set (h : r.ask n = (inputs.get i).ask n) :
    inputContribution (inputs.set i r) n = inputContribution inputs n := by
  refine inputContribution_congr fun j => ?_
  rw [Tab.get_set]
  split
  · next e => rw [h, e]
  · rfl

theorem InputRecord.ask_of_not_maps (h : ¬r.maps n) : r.ask n = none := by
  unfold ask
  rw [if_neg]
  simpa [InputRecord.maps] using h

end input

/-! ### The account contribution (R50) -/

theorem accountContribution_congr {a a' : Accounting} (h : ∀ q, (a'.record q).warn = (a.record q).warn) :
    accountContribution a' = accountContribution a := by
  have hone : a'.one.warn = a.one.warn := h .one
  have htwo : a'.two.warn = a.two.warn := h .two
  unfold accountContribution
  rw [hone, htwo]

section warn
variable (r : DriverRecord)

@[simp] theorem DriverRecord.loseLink_warn : r.loseLink.warn = r.warn := by
  unfold loseLink
  dsimp only
  split <;> rfl

@[simp] theorem DriverRecord.tally_warn : r.tally.warn = r.warn := by
  unfold tally
  split <;> rfl

theorem DriverRecord.endRestRun_warn : r.endRestRun.warn = r.warn := by
  unfold endRestRun
  split <;> rfl

@[simp] theorem DriverRecord.creditCounters_warn (a : Activity) : (r.creditCounters a).warn = r.warn := by
  cases a
  case rest =>
    show r.creditRest.warn = _
    unfold creditRest
    dsimp only
    split_ifs <;> rfl
  case drive =>
    show r.creditDrive.warn = _
    unfold creditDrive
    exact endRestRun_warn _
  all_goals exact r.endRestRun_warn

@[simp] theorem DriverRecord.counted_warn (a : Activity) (stamp : Nat) (unset : Bool) :
    (r.counted a stamp unset).warn = r.warn := by
  show (if r.creditSkip then r else r.creditCounters a).warn = _
  split <;> simp

@[simp] theorem DriverRecord.settleMinute_warn (k : SummaryCase) : (r.settleMinute k).warn = r.warn := by
  unfold settleMinute
  dsimp only
  split <;> simp

end warn

end Sys2Proof.Machine
end

section
/-! CERTIFICATE. O57: every lamp resolved and every contribution formed as its block would now form it, whatever the part does
(`State.handedAll`; the other half is `LampsSound`). -/
namespace Sys2Proof.Machine

/-! ### What the blocks hand -/

/-- R14, R49, R50: the contributions that the blocks would now form. -/
@[ext] structure Handing where
  input : Fin 48 → Option LampState
  account : LampState
  gauge : Fin 48 → Option LampState

/-- The contributions that the blocks of a state would form. -/
def handing (s : State) : Handing :=
  ⟨inputContribution s.inputs, accountContribution s.aau, gaugeContribution s.ge s.pwc.state⟩

/-- R14, R47 to R50: a lamp holds what the blocks hand it, and L0 and L1 have their classes. -/
structure Lamp.Handed (e : Handing) (n : Fin 48) (l : Lamp) : Prop where
  input : l.input = e.input n
  account : l.account = if n = 2 then some e.account else none
  gauge : l.gauge = e.gauge n
  recorder : n.val = 3 ∨ n.val = 4 ∨ l.recorder = none
  first : n = 0 → l.cls = .safety
  second : n = 1 → l.cls = .info

/-- Every lamp holds what it is handed, and no lamp but L0 and L1 a substitution. -/
def LampsHeld (e : Handing) (lamps : Tab Lamp 48) : Prop :=
  ∀ n, (lamps.get n).Handed e n ∧ (n ≠ 0 → n ≠ 1 → (lamps.get n).substitution = false)

/-- Every lamp holds what it is handed, and L0 and L1 the substitutions that the table and the open faults ask for. -/
structure LampsHanded (e : Handing) (s : State) : Prop where
  held : LampsHeld e s.lamps
  subst : SubstFormed s.lmd.readings s.lamps

/-- `State.handedAll`. -/
def HandedAll (s : State) : Prop := LampsHanded (handing s) s

theorem handedAll_iff (s : State) : s.handedAll = true ↔ HandedAll s := by
  have hasked (n : Fin 48) : (asked s.lmd.readings s.lamps n).getD false =
      if n = 0 then wantsSubstitution s.lmd.readings s.lamps .safety 0
      else if n = 1 then wantsSubstitution s.lmd.readings s.lamps .info 1 else false := by
    unfold asked
    split_ifs <;> rfl
  simp only [State.handedAll, List.all_eq_true, List.mem_finRange, forall_const, handedSound, Bool.and_eq_true, Bool.or_eq_true,
    decide_eq_true_eq]
  constructor
  · intro h
    refine ⟨fun n => ?_, fun n => ?_⟩
    · obtain ⟨⟨⟨⟨⟨⟨hi, ha⟩, hg⟩, hr⟩, hf⟩, hs⟩, hsub⟩ := h n
      refine ⟨⟨hi, ha, hg, by tauto, fun e => hf.resolve_left (by simp [e]), fun e => hs.resolve_left (by simp [e])⟩, ?_⟩
      intro h0 h1
      rw [hsub, if_neg h0, if_neg h1]
    · rw [(h n).2, hasked]
  · rintro ⟨hheld, hsubst⟩ n
    obtain ⟨⟨hi, ha, hg, hr, hf, hs⟩, -⟩ := hheld n
    refine ⟨⟨⟨⟨⟨⟨hi, ha⟩, hg⟩, by tauto⟩, ?_⟩, ?_⟩, by rw [hsubst n, hasked]⟩
    · by_cases e : n = 0
      · exact .inr (hf e)
      · exact .inl e
    · by_cases e : n = 1
      · exact .inr (hs e)
      · exact .inl e

/-! ### When the blocks would hand the same -/

section handing
variable {s t : State}

theorem handing_congr (hinput : ∀ i n, (t.inputs.get i).ask n = (s.inputs.get i).ask n)
    (haccount : ∀ q, (t.aau.record q).warn = (s.aau.record q).warn)
    (hgauge : ∀ i, (t.ge.channels.get i).showing = (s.ge.channels.get i).showing)
    (hpower : t.pwc.state = .run ↔ s.pwc.state = .run) : handing t = handing s := by
  refine Handing.ext ?_ (accountContribution_congr haccount) ?_
  · exact funext fun n => inputContribution_congr fun i => hinput i n
  · exact funext fun n => gaugeContribution_congr hpower fun i b => by rw [hgauge i]

theorem OnlyChanges.handing {W : List Block} (h : OnlyChanges W s t)
    (hW : ∀ b ∈ [Block.inputs, .drivers, .gauges, .power], b ∉ W) : handing t = handing s := by
  unfold Machine.handing
  rw [h.inputs (hW _ (by simp)), h.aau (hW _ (by simp)), h.ge (hW _ (by simp)), h.pwc (hW _ (by simp))]

/-- Only the power state changed, and not to or from RUN. -/
theorem handing_of_power (hinputs : t.inputs = s.inputs) (haau : t.aau = s.aau) (hge : t.ge = s.ge)
    (hpower : t.pwc.state = .run ↔ s.pwc.state = .run) : handing t = handing s :=
  handing_congr (by simp [hinputs]) (by simp [haau]) (by simp [hge]) hpower

/-- Only the driver records changed, and not in their warnings. -/
theorem handing_of_records (hinputs : t.inputs = s.inputs) (hge : t.ge = s.ge) (hpwc : t.pwc = s.pwc)
    (hwarn : ∀ q, (t.aau.record q).warn = (s.aau.record q).warn) : handing t = handing s :=
  handing_congr (by simp [hinputs]) hwarn (by simp [hge]) (by rw [hpwc])

/-- Only the channels changed, and not in what they show at their fault lamps. -/
theorem handing_of_channels (hinputs : t.inputs = s.inputs) (haau : t.aau = s.aau) (hpwc : t.pwc = s.pwc)
    (hgauge : ∀ i, (t.ge.channels.get i).showing = (s.ge.channels.get i).showing) : handing t = handing s :=
  handing_congr (by simp [hinputs]) (by simp [haau]) hgauge (by rw [hpwc])

theorem HandedAll.of (h : LampsHanded (handing s) t) (he : handing t = handing s) : HandedAll t := by
  rw [HandedAll, he]
  exact h

end handing

/-! ### Updates of the table -/

section updates
variable {e e' : Handing} {s t : State}

theorem LampsHeld.update (h : LampsHeld e s.lamps) {change : Fin 48 → Lamp → Lamp} (hstored : StoredOnly change)
    (hchange : ∀ n l, l = s.lamps.get n → l.Handed e n → (change n l).Handed e' n) : LampsHanded e' (lampUpdate change s) := by
  have hsubst : ∀ n, n ≠ 0 → n ≠ 1 → (change n (s.lamps.get n)).substitution = false := fun n h0 h1 => by
    rw [(hstored n _).1]
    exact (h n).2 h0 h1
  have hformed : SubstFormed s.lmd.readings (updatedLamps s.lmd.readings s.lamps change) :=
    substFormed_updatedLamps ((hchange 0 _ rfl (h 0).1).first rfl) ((hchange 1 _ rfl (h 1).1).second rfl) hsubst
  refine ⟨fun n => ⟨?_, fun h0 h1 => ?_⟩, ?_⟩
  · have hnew := hchange n _ rfl (h n).1
    have hsame := updatedLamps_stored s.lmd.readings s.lamps change n
    rw [lampUpdate_lamps]
    generalize (updatedLamps s.lmd.readings s.lamps change).get n = l at hsame ⊢
    have hstored : (change n (s.lamps.get n)).stored.Handed e' n := { hnew with }
    rw [← hsame] at hstored
    exact { hstored with }
  · rw [lampUpdate_lamps, updatedLamps_substitution]
    simp [asked, h0, h1, hsubst]
  · rw [lampUpdate_lamps, lampUpdate_lmd]
    exact hformed

theorem LampsHanded.frame (h : LampsHanded e s) {W : List Block} (hframe : OnlyChanges W s t)
    (hlamps : .lamps ∉ W) (hmatrix : .matrix ∉ W) : LampsHanded e t := by
  refine ⟨?_, ?_⟩
  · rw [hframe.lamps hlamps]; exact h.held
  · rw [hframe.lamps hlamps, hframe.lmd hmatrix]; exact h.subst

/-- R54 to R56: updates of the written and loss contributions leave what the blocks hand. -/
theorem LampsHanded.reformLoss (h : LampsHanded e s) : LampsHanded e (reformLoss s) :=
  h.held.update (storedOnly_loss s) fun _ _ _ hl => { hl with }

theorem LampsHanded.discardWritten (h : LampsHanded e s) (p : Port) : LampsHanded e (discardWritten p s) :=
  h.held.update (storedOnly_withoutPort p s) fun _ _ _ hl => by cases p <;> exact { hl with }

theorem LampsHanded.discardRecorder (h : LampsHanded e s) : LampsHanded e (discardRecorder s) :=
  h.held.update (storedOnly_withoutRecorder s) fun _ _ _ hl => { hl with recorder := .inr (.inr rfl) }

/-- R14: the gauge contributions of some lamps formed again, where the others already stand as they would be formed. -/
theorem LampsHeld.formGauge (h : LampsHeld e s.lamps) {lamps : List (Fin 48)} (hinput : (handing s).input = e.input)
    (haccount : (handing s).account = e.account) (hgauge : ∀ n ∉ lamps, (handing s).gauge n = e.gauge n) :
    LampsHanded (handing s) (formGauge lamps s) := by
  refine h.update (storedOnly_gauge lamps s) fun n l _ hl => ?_
  have hl' (v : Option LampState) (hv : v = (handing s).gauge n) : Lamp.Handed (handing s) n { l with gauge := v } :=
    { hl with input := by rw [hinput]; exact hl.input
              account := by rw [haccount]; exact hl.account
              gauge := hv }
  split
  · exact hl' _ rfl
  · next hn => exact hl' l.gauge (hl.gauge.trans (hgauge n (by simpa using hn)).symm)

theorem handing_formGauge (lamps : List (Fin 48)) (s : State) : handing (formGauge lamps s) = handing s :=
  (lampUpdate_frame s _).handing (by decide)

theorem LampsHanded.formGaugeAny (h : LampsHanded e s) {lamps : List (Fin 48)} (hinput : (handing s).input = e.input)
    (haccount : (handing s).account = e.account) (hgauge : ∀ n ∉ lamps, (handing s).gauge n = e.gauge n) :
    HandedAll (formGaugeAny lamps s) := by
  unfold Machine.formGaugeAny
  split
  · next hnone =>
    have he : handing s = e := Handing.ext hinput haccount (funext fun n => hgauge n (by simp [hnone]))
    rw [HandedAll, he]
    exact h
  · exact .of (h.held.formGauge hinput haccount hgauge) (handing_formGauge lamps s)

/-- R50, R144: the account contribution handed, where the other contributions stand. -/
theorem LampsHanded.handAccount (h : LampsHanded e s) (hinput : (handing s).input = e.input)
    (hgauge : (handing s).gauge = e.gauge) : HandedAll (handAccount s) := by
  refine .of (h.held.update (storedOnly_account s) fun n l _ hl => ?_) ((lampUpdate_frame s _).handing (by decide))
  have hother (hn : n ≠ 2) : l.account = if n = 2 then some (handing s).account else none := by
    rw [if_neg hn, hl.account, if_neg hn]
  split
  · next hn =>
    exact { hl with input := by rw [hinput]; exact hl.input
                    account := by rw [if_pos hn]; rfl
                    gauge := by rw [hgauge]; exact hl.gauge }
  · next hn =>
    exact { hl with input := by rw [hinput]; exact hl.input
                    account := hother hn
                    gauge := by rw [hgauge]; exact hl.gauge }

/-- R49, R161: the input contributions of some lamps formed again, where the others already stand as they would be formed. -/
theorem Lamp.Handed.inputs {l : Lamp} {n : Fin 48} (hl : l.Handed e n) {v : Option LampState}
    (hv : v = (handing s).input n) (haccount : (handing s).account = e.account) (hgauge : (handing s).gauge = e.gauge) :
    Lamp.Handed (handing s) n { l with input := v } :=
  { hl with input := hv
            account := by rw [haccount]; exact hl.account
            gauge := by rw [hgauge]; exact hl.gauge }

theorem LampsHanded.formInputs (h : LampsHanded e s) {lamps : List (Fin 48)} (haccount : (handing s).account = e.account)
    (hgauge : (handing s).gauge = e.gauge) (hinput : ∀ n ∉ lamps, (handing s).input n = e.input n) :
    HandedAll (formInputs lamps s) := by
  refine .of (h.held.update (storedOnly_inputs lamps s) fun n l _ hl => ?_) ((lampUpdate_frame s _).handing (by decide))
  split
  · exact hl.inputs rfl haccount hgauge
  · next hn => exact hl.inputs (v := l.input) (hl.input.trans (hinput n (by simpa using hn)).symm) haccount hgauge

theorem LampsHanded.remapLamps (h : LampsHanded e s) {lamps : List (Fin 48)} (before : Tab InputRecord 12)
    (haccount : (handing s).account = e.account) (hgauge : (handing s).gauge = e.gauge)
    (hinput : ∀ n ∉ lamps, (handing s).input n = e.input n) : HandedAll (remapLamps lamps before s) := by
  refine .of (h.held.update (storedOnly_remap lamps before s) fun n l _ hl => ?_) ((lampUpdate_frame s _).handing (by decide))
  split
  · exact { hl.inputs (v := inputContribution s.inputs n) rfl haccount hgauge with }
  · next hn => exact hl.inputs (v := l.input) (hl.input.trans (hinput n (by simpa using hn)).symm) haccount hgauge

end updates

/-! ### The channels -/

section channels
variable {s t : State}

theorem HandedAll.frame (hs : HandedAll s) {W : List Block} (h : OnlyChanges W s t)
    (hlamps : ∀ b ∈ [Block.lamps, .matrix], b ∉ W) (he : handing t = handing s) : HandedAll t :=
  .of (LampsHanded.frame hs h (hlamps _ (by simp)) (hlamps _ (by simp))) he

/-- R6 to R12: what a selection does to what the channels show: the lamps that it does not concern are shown the same. -/
theorem gaugeSelect_channel (c : Fin 8 → Bool) (f : Channel → Channel) (s : State) (i : Fin 8) :
    ((gaugeSelect c f s).ge.channels.get i).showing =
      (if c i then (f (s.ge.channels.get i)).reselect (sourceLive s) else s.ge.channels.get i).showing ∧
    ((gaugeSelect c f s).ge.channels.get i).enabled =
      (if c i then (f (s.ge.channels.get i)).reselect (sourceLive s) else s.ge.channels.get i).enabled ∧
    ((gaugeSelect c f s).ge.channels.get i).faultLamp =
      (if c i then (f (s.ge.channels.get i)).reselect (sourceLive s) else s.ge.channels.get i).faultLamp := by
  unfold gaugeSelect
  dsimp only
  rcases handSpeed_channel i (vehicleSpeed s) _ with h | h
  all_goals
    rw [h]
    simp

/-- A change of the stored values of some channels, with the selection made again, as a lamp sees it. -/
theorem handing_gaugeSelect (c : Fin 8 → Bool) {f : Channel → Channel} (s : State)
    (henabled : ∀ c : Channel, (f c).enabled = c.enabled) (hlamp : ∀ c : Channel, (f c).faultLamp = c.faultLamp) :
    (handing (gaugeSelect c f s)).input = (handing s).input ∧ (handing (gaugeSelect c f s)).account = (handing s).account ∧
      ∀ n ∉ lampsConcerned s.ge.channels (gaugeSelect c f s).ge.channels,
        (handing (gaugeSelect c f s)).gauge n = (handing s).gauge n := by
  have hframe := gaugeSelect_frame s c f
  refine ⟨congrArg inputContribution (hframe.inputs (by decide)), congrArg accountContribution (hframe.aau (by decide)), fun n hn => ?_⟩
  refine gaugeContribution_congr (by rw [hframe.pwc (by decide)]) fun i b => showing_of_not_concerned (fun i => ?_) (fun i => ?_) hn i b
  · rw [(gaugeSelect_channel c f s i).2.1]
    split <;> simp [Channel.reselect_enabled, henabled]
  · rw [(gaugeSelect_channel c f s i).2.2]
    split <;> simp [Channel.reselect_faultLamp, hlamp]

theorem HandedAll.gaugeChange (hs : HandedAll s) (c : Fin 8 → Bool) {f : Channel → Channel}
    (henabled : ∀ c : Channel, (f c).enabled = c.enabled) (hlamp : ∀ c : Channel, (f c).faultLamp = c.faultLamp) :
    HandedAll (gaugeChange c f s) := by
  obtain ⟨hinput, haccount, hgauge⟩ := handing_gaugeSelect c s henabled hlamp
  exact (LampsHanded.frame hs (gaugeSelect_frame s c f) (by decide) (by decide)).formGaugeAny hinput haccount hgauge

/-- R7, R11, R171: a silenced source, with the gauge contributions before or after the lamp table's own update. -/
theorem HandedAll.silenceSource (hs : HandedAll s) (a : Source) {other : State → State}
    (hother : ∀ (e : Handing) (s : State), LampsHanded e s → LampsHanded e (other s))
    (hframe : ∀ s, OnlyChanges [.lamps, .chimes, .events] s (other s)) : HandedAll (silenceSource a other s) := by
  obtain ⟨hinput, haccount, hgauge⟩ := handing_gaugeSelect (fun _ => true) (f := Channel.store a none) s
    (fun c => by simp) (fun c => by simp)
  have hsel := LampsHanded.frame hs (gaugeSelect_frame s (fun _ => true) (Channel.store a none)) (by decide) (by decide)
  unfold Machine.silenceSource withGaugeUpdate
  dsimp only
  generalize gaugeSelect (fun _ => true) (Channel.store a none) s = t at *
  generalize lampsConcerned s.ge.channels t.ge.channels = lamps at *
  have hchosen (n : Nat) : LampsHanded (handing s) (t.setChoices n) := hsel.frame (setChoices_frame t n) (by decide) (by decide)
  split
  · split
    · have hform := (hchosen (t.choices + 1)).held.formGauge (lamps := lamps) hinput haccount hgauge
      refine .of ?_ ((hframe _).handing (by decide))
      rw [handing_formGauge]
      exact hother _ _ hform
    · have hdone := hother _ _ (hchosen (t.choices + 1))
      have he : handing (other (t.setChoices (t.choices + 1))) = handing t := (hframe _).handing (by decide)
      refine .of ?_ (handing_formGauge _ _)
      refine hdone.held.formGauge ?_ ?_ ?_
      · rw [he]; exact hinput
      · rw [he]; exact haccount
      · rw [he]; exact hgauge
  · next hfresh =>
    have he : handing t = handing t := rfl
    have hheld : LampsHanded (handing t) t := by
      refine ⟨fun n => ⟨{ (hsel.held n).1 with
        input := by rw [hinput]; exact (hsel.held n).1.input
        account := by rw [haccount]; exact (hsel.held n).1.account
        gauge := ?_ }, (hsel.held n).2⟩, hsel.subst⟩
      by_cases hn : n ∈ lamps
      · by_contra hne
        exact hfresh (by simp only [gaugeStale, List.any_eq_true, decide_eq_true_eq]; exact ⟨n, hn, hne⟩)
      · rw [hgauge n hn]
        exact (hsel.held n).1.gauge
    exact .of (hother _ _ hheld) ((hframe t).handing (by decide))

theorem HandedAll.closeWindow (hs : HandedAll s) : HandedAll (closeWindow s) := by
  refine hs.frame (closeWindow_frame s) (by decide) (handing_of_channels (by simp) (by simp) (by simp) fun i => ?_)
  rcases closeWindow_channel i s with h | h <;> rw [h]
  rfl

theorem HandedAll.silencePort (hs : HandedAll s) (p : Port) : HandedAll (silencePort p s) := by
  have htold : HandedAll (post .sourceSilent (portSource p).code (s.setPort p { s.port p with live := false, timer := none })) :=
    (hs.frame (setLive_frame p s false none) (by decide) ((setLive_frame p s false none).handing (by decide))).frame
      (post_frame _ _ _) (by decide) ((post_frame _ _ _).handing (by decide))
  have hdone {u : State} (h : HandedAll u) : HandedAll (Machine.silenceSource (portSource p) (discardWritten p) u) :=
    h.silenceSource _ (fun e s h => h.discardWritten p) fun s => lampUpdate_frame s _
  cases p
  · exact hdone htold
  · exact hdone htold.closeWindow

theorem HandedAll.modifyChannel (hs : HandedAll s) (i : Fin 8) {f : Channel → Channel}
    (hf : (f (s.ge.channels.get i)).showing = (s.ge.channels.get i).showing) : HandedAll (modifyChannel i f s) := by
  refine hs.frame (setGe_frame s _) (by decide) (handing_of_channels (by rfl) (by rfl) (by rfl) fun j => ?_)
  show ((s.ge.channels.modify i f).get j).showing = _
  rw [Tab.get_modify]
  split
  · next h => subst h; exact hf
  · rfl

theorem HandedAll.mapChannels (hs : HandedAll s) {f : Channel → Channel} (hf : ∀ c : Channel, c.SameSignal (f c))
    {g : GaugeEngine} (hg : g.channels = s.ge.channels.map f) : HandedAll (s.setGe g) := by
  refine hs.frame (setGe_frame s _) (by decide) (handing_of_channels (by rfl) (by rfl) (by rfl) fun j => ?_)
  show (g.channels.get j).showing = _
  rw [hg, Tab.get_map, (hf _).showing]

theorem HandedAll.mapAll (hs : HandedAll s) {f : Channel → Channel} (hf : ∀ c : Channel, c.SameSignal (f c)) :
    HandedAll (Machine.mapChannels f s) := hs.mapChannels hf rfl

theorem HandedAll.channelShown (hs : HandedAll s) (k : ChannelConfig) : HandedAll (channelShown k s) := by
  have hframe := channelTold_frame k s
  refine (LampsHanded.frame hs hframe (by decide) (by decide)).formGaugeAny (congrArg inputContribution (hframe.inputs (by decide)))
    (congrArg accountContribution (hframe.aau (by decide))) fun n hn => ?_
  refine gaugeContribution_congr (by rw [hframe.pwc (by decide)]) fun i b => ?_
  have hchannel : ((channelTold k s).ge.channels.get i).showing =
      ((s.ge.channels.set k.channel (configured k s)).get i).showing := by
    unfold channelTold
    rcases handSpeed_channel i (vehicleSpeed s) (postSignalChange k.channel (s.ge.channels.get k.channel) (configured k s)
      (s.setGe { s.ge with channels := s.ge.channels.set k.channel (configured k s) })) with h | h
    all_goals rw [h, (postSignalChange_frame _ _ _ _).ge (by decide)]; rfl
  rw [hchannel, Tab.get_set]
  split
  · next h => subst h; exact showing_of_not_configured hn
  · rfl

theorem HandedAll.movedOn (hs : HandedAll s) : HandedAll (movedOn s) := by
  have hmoved := hs.mapChannels (g := { s.ge with motionTime := 0, channels := s.ge.channels.map Channel.interval })
    Channel.interval_sameSignal rfl
  have hframe := inSomeOrder_frame (forEach_frame fun n t => post_frame t .homingDone n)
  exact hmoved.frame (hframe _ _) (by decide) ((hframe _ _).handing (by decide))

end channels

/-! ### Frames taken, and the link lost -/

section frames
variable {s : State}

theorem HandedAll.reformLoss (hs : HandedAll s) : HandedAll (reformLoss s) :=
  .of (LampsHanded.reformLoss hs) ((lampUpdate_frame s _).handing (by decide))

theorem HandedAll.beginFrame (hs : HandedAll s) (p : Port) : HandedAll (beginFrame p s) := by
  have hfresh := (hs.frame (shiftOut_frame p s (some 192)) (by decide) ((shiftOut_frame p s _).handing (by decide))).frame
    (clearFresh_frame p _) (by decide) ((clearFresh_frame p _).handing (by decide))
  refine HandedAll.frame ?_ (restartTimer_frame p _) (by decide) ((restartTimer_frame p _).handing (by decide))
  unfold returnSource
  split
  · exact hfresh
  · exact ((hfresh.frame (setLive_frame p _ true _) (by decide) ((setLive_frame p _ true _).handing (by decide))).frame
      (post_frame _ _ _) (by decide) ((post_frame _ _ _).handing (by decide))).reformLoss

theorem HandedAll.setRlu (hs : HandedAll s) (r : RecorderLink) : HandedAll (s.setRlu r) :=
  hs.frame (setRlu_frame s r) (by decide) ((setRlu_frame s r).handing (by decide))

theorem HandedAll.linkTaken (hs : HandedAll s) : HandedAll (linkTaken s) := by
  refine HandedAll.setRlu ?_ _
  have hhunt := hs.setRlu { s.rlu with assembly := .hunt, gapTime := 0 }
  unfold returnLink
  split
  · exact hhunt
  · exact ((hhunt.setRlu _).frame (post_frame _ _ _) (by decide) ((post_frame _ _ _).handing (by decide))).reformLoss

/-- The driver records changed, and not in their warnings. -/
theorem HandedAll.setAau (hs : HandedAll s) {a : Accounting} (hwarn : ∀ q, (a.record q).warn = (s.aau.record q).warn) :
    HandedAll (s.setAau a) :=
  hs.frame (setAau_frame s a) (by decide) (handing_of_records rfl rfl rfl hwarn)

theorem HandedAll.setRecord (hs : HandedAll s) (slot : Slot) {r : DriverRecord} (hwarn : r.warn = (s.aau.record slot).warn) :
    HandedAll (setRecord slot r s) := by
  have hframe := setRecord_frame s slot r
  refine hs.frame hframe (by decide) (handing_of_records (hframe.inputs (by decide)) (hframe.ge (by decide)) (hframe.pwc (by decide)) fun q => ?_)
  rw [setRecord_record]
  split
  · next h => rw [h]; exact hwarn
  · rfl

theorem HandedAll.modifyRecord (hs : HandedAll s) (slot : Slot) {f : DriverRecord → DriverRecord}
    (hwarn : (f (s.aau.record slot)).warn = (s.aau.record slot).warn) : HandedAll (modifyRecord slot f s) :=
  hs.setRecord slot hwarn

theorem HandedAll.loseLink (hs : HandedAll s) : HandedAll (loseLink s) := by
  rw [loseLink_eq]
  have htold := (hs.setRlu { s.rlu with live := false, timer := none, vehicle := s.rlu.vehicle.hold }).frame
    (post_frame _ .sourceSilent Source.recorder.code) (by decide) ((post_frame _ _ _).handing (by decide))
  refine HandedAll.setAau (htold.silenceSource .recorder (fun e s h => h.discardRecorder) fun s => lampUpdate_frame s _)
    fun q => ?_
  cases q <;> exact DriverRecord.loseLink_warn _

end frames

/-! ### The matrix -/

section matrix
variable {s t : State}

/-- The matrix changed, and not in its readings. -/
theorem HandedAll.setLmd (hs : HandedAll s) {m : LampMatrix} (hm : m.readings = s.lmd.readings) : HandedAll (s.setLmd m) := by
  refine .of ⟨hs.held, ?_⟩ ((setLmd_frame s m).handing (by decide))
  show SubstFormed m.readings s.lamps
  rw [hm]
  exact hs.subst

theorem HandedAll.setHold (hs : HandedAll s) (h : Hold) : HandedAll (s.setLmd { s.lmd with hold := h }) := hs.setLmd rfl

/-- The hold or the scan changed, and none of the readings. -/
theorem HandedAll.matrix (hs : HandedAll s) {W : List Block} (h : OnlyChanges W s t) (hr : t.lmd.readings = s.lmd.readings)
    (hlamps : .lamps ∉ W)
    (hW : ∀ b ∈ [Block.inputs, .drivers, .gauges, .power], b ∉ W) : HandedAll t := by
  refine .of ⟨?_, ?_⟩ (h.handing hW)
  · rw [h.lamps hlamps]; exact hs.held
  · rw [h.lamps hlamps, hr]; exact hs.subst

theorem requestHold_readings (s : State) : (requestHold s).lmd.readings = s.lmd.readings := by
  unfold requestHold
  dsimp only
  split
  · rfl
  · split
    · simp [grantPortS, modifyHold]
    · rfl

theorem releaseHold_readings (s : State) : (releaseHold s).lmd.readings = s.lmd.readings := by
  unfold releaseHold
  split
  · rfl
  · split <;> rfl

theorem scanFrameStart_readings (s : State) : (scanFrameStart s).lmd.readings = s.lmd.readings := by
  have hgrant (s : State) : (grantPending s).lmd.readings = s.lmd.readings := by
    unfold grantPending
    split
    · simp [grantPortS, modifyHold]
    · rfl
  have hend (s : State) : (endUnheld s).lmd.readings = s.lmd.readings := by
    unfold endUnheld
    dsimp only
    split
    · simp [modifyHold]
    · rfl
  exact (hend _).trans (hgrant _)

/-- R60, R61: the substitutions stand while no open fault changes. -/
theorem substFormed_congr {r r' : Tab OpenRecord 48} {lamps : Tab Lamp 48}
    (h : ∀ n, (r'.get n).openFault = (r.get n).openFault) (hs : SubstFormed r lamps) : SubstFormed r' lamps := by
  have hasked (n : Fin 48) : asked r' lamps n = asked r lamps n := by
    unfold asked
    rw [wantsSubstitution_congr (r := r') (r' := r) fun n _ => by rw [h], wantsSubstitution_congr (r := r') (r' := r) fun n _ => by rw [h]]
  intro n
  rw [hasked]
  exact hs n

theorem HandedAll.readLamp (hs : HandedAll s) (draws : Tab Bool 8) (n : Fin 48) : HandedAll (readLamp draws n s) := by
  let read := (s.lmd.readings.get n).read (draws.get (lampColumn n))
  let t := s.setLmd { s.lmd with readings := s.lmd.readings.set n read }
  have he : handing t = handing s := (setLmd_frame s _).handing (by decide)
  have hread : Machine.readLamp draws n s = if (s.lmd.readings.get n).openFault = read.openFault then t else handFault n t := rfl
  rw [hread]
  split
  · next hsame =>
    refine .of ⟨hs.held, substFormed_congr (fun i => ?_) hs.subst⟩ he
    show ((s.lmd.readings.set n read).get i).openFault = _
    rw [Tab.get_set]
    split
    · next h => rw [h, hsame]
    · rfl
  · have hpost (k : EventKind) : LampsHeld (handing s) (post k n.val t).lamps := by
      rw [(post_frame t k n.val).lamps (by decide)]
      exact hs.held
    refine .of ((hpost _).update storedOnly_id fun _ _ _ hl => hl) ?_
    exact ((lampUpdate_frame _ _).handing (by decide)).trans (((post_frame t _ n.val).handing (by decide)).trans he)

theorem HandedAll.rowSlotEnd (hs : HandedAll s) (draws : Tab Bool 8) : HandedAll (rowSlotEnd draws s) := by
  unfold Machine.rowSlotEnd
  split
  · have hall (l : List (Fin 48)) {s : State} (hs : HandedAll s) : HandedAll (forEach (Machine.readLamp draws) l s) :=
      forEach_preserves HandedAll _ (fun n _ hs => hs.readLamp draws n) l _ hs
    have htold := inSomeOrder_preserves HandedAll _
      (fun s n hs => hs.frame (setChoices_frame s n) (by decide) ((setChoices_frame s n).handing (by decide))) (fun l _ hs => hall l hs)
      (faultsChanged draws s.lmd) _ (hall (faultsKept draws s.lmd) hs)
    exact ⟨htold.held, htold.subst⟩
  · exact hs

end matrix

/-! ### The driver records -/

section drivers
variable {s : State}

theorem HandedAll.post (hs : HandedAll s) (k : EventKind) (n : Nat) : HandedAll (post k n s) :=
  hs.frame (post_frame s k n) (by decide) ((post_frame s k n).handing (by decide))

/-- R144: a driver record changed as it may be, and then L2 handed its contribution. -/
theorem HandedAll.handAccount_modifyRecord (hs : HandedAll s) (slot : Slot) (f : DriverRecord → DriverRecord) {t : State}
    {W : List Block} (ht : OnlyChanges W (Machine.modifyRecord slot f s) t)
    (hW : ∀ b ∈ [Block.lamps, .matrix, .inputs, .gauges, .power], b ∉ W) : HandedAll (handAccount t) := by
  have hframe := modifyRecord_frame s slot f
  have hlamps : .lamps ∉ W := hW _ (by simp)
  have hmatrix : .matrix ∉ W := hW _ (by simp)
  refine LampsHanded.handAccount (LampsHanded.frame (LampsHanded.frame hs hframe (by decide) (by decide)) ht hlamps hmatrix) ?_ ?_
  · show inputContribution t.inputs = inputContribution s.inputs
    rw [ht.inputs (hW _ (by simp)), hframe.inputs (by decide)]
  · show gaugeContribution t.ge t.pwc.state = gaugeContribution s.ge s.pwc.state
    rw [ht.ge (hW _ (by simp)), ht.pwc (hW _ (by simp)), hframe.ge (by decide), hframe.pwc (by decide)]

theorem HandedAll.formWarn (hs : HandedAll s) (slot : Slot) : HandedAll (formWarn slot s) := by
  unfold Machine.formWarn
  split
  · exact hs.handAccount_modifyRecord slot _ (announceWarn_frame _ _ _) (by decide)
  · exact hs

theorem HandedAll.creditSlot (hs : HandedAll s) (stamp : Nat) (c : Slot × Activity) : HandedAll (creditSlot stamp c s) := by
  have htold : HandedAll (creditTold stamp c s) := by
    have hplaced := hs.setRecord c.1
      (DriverRecord.counted_warn (s.aau.record c.1) c.2 stamp (!s.cc.isSet))
    unfold creditTold
    dsimp only
    split
    · exact hplaced.post _ _
    · exact hplaced
  rw [creditSlot_eq]
  split
  · exact htold.modifyRecord c.1 rfl
  · exact (htold.formWarn c.1).modifyRecord c.1 rfl

theorem HandedAll.slotActivity (hs : HandedAll s) (c : Slot × ActivityArg) : HandedAll (slotActivity c s) := by
  unfold Machine.slotActivity
  dsimp only
  split
  · split
    · split
      · have hchanged := hs.modifyRecord c.1 (f := DriverRecord.changeActivity c.2) rfl
        split
        · exact hchanged.post _ _
        · exact hchanged
      · exact hs.handAccount_modifyRecord c.1 _ (post_frame _ _ _) (by decide)
    · exact hs.handAccount_modifyRecord c.1 _ (post_frame _ _ _) (by decide)
  · exact hs

theorem HandedAll.slotSummary (hs : HandedAll s) (c : Slot × SummaryArg) : HandedAll (slotSummary c s) := by
  have hadopt (k : SummaryCase) : HandedAll (adopt c.1 c.2 k s) := by
    have htold : HandedAll (summaryTold c.1 c.2 k s) := by
      have hframe := summaryTold_frame c.1 c.2 k s
      refine hs.frame hframe (by decide) (handing_of_records (hframe.inputs (by decide)) (hframe.ge (by decide)) (hframe.pwc (by decide)) fun q => ?_)
      rw [summaryTold_aau, setRecord_record]
      split
      · next h => rw [DriverRecord.settleMinute_warn, h]; rfl
      · rfl
    rw [adopt_eq]
    exact ((htold.formWarn c.1).post _ _).modifyRecord c.1 rfl
  unfold Machine.slotSummary
  dsimp only
  split
  · split
    · exact hs.post _ _
    · exact hadopt _
  · exact hs

theorem HandedAll.setLead (hs : HandedAll s) (n : Nat) : HandedAll (setLead n s) := by
  have hrewarn (slot : Slot) (s : State) (hs : HandedAll s) : HandedAll (rewarn slot s) := by
    unfold rewarn
    split
    · exact (hs.formWarn slot).modifyRecord slot rfl
    · exact hs
  exact inSomeOrder_preserves HandedAll _
    (fun s n hs => hs.frame (setChoices_frame s n) (by decide) ((setChoices_frame s n).handing (by decide)))
    (forEach_preserves HandedAll _ hrewarn) _ _ (hs.setAau fun q => by cases q <;> rfl)

end drivers

/-! ### Lamps written and configured -/

section writes
variable {s : State}

theorem Lamp.Handed.write {e : Handing} {n : Fin 48} {l : Lamp} (h : l.Handed e n) (p : Port) (v : Option LampState) :
    (l.write p v).Handed e n := by
  cases p <;> exact { h with }

theorem Lamp.Handed.storePairs {e : Handing} {n : Fin 48} {l : Lamp} (h : l.Handed e n) (p : Port)
    (pairs : List (Fin 48 × Option LampState)) : (storePairs p pairs n l).Handed e n := by
  induction pairs generalizing l with
  | nil => exact h
  | cons q rest ih =>
    rw [storePairs_cons]
    split
    · exact ih (h.write p q.2)
    · exact ih h

theorem HandedAll.writeLamps (hs : HandedAll s) (p : Port) (pairs : List (Fin 48 × Option LampState)) :
    HandedAll (lampUpdate (storePairs p pairs) s) :=
  .of (hs.held.update (storedOnly_pairs p pairs) fun _ _ _ hl => hl.storePairs p pairs) ((lampUpdate_frame s _).handing (by decide))

theorem HandedAll.configureLamp (hs : HandedAll s) {k : LampConfig}
    (hk : fixedClass k.lamp = none ∨ fixedClass k.lamp = some k.cls) : HandedAll (configureLamp k s) := by
  refine .of (hs.held.update (storedOnly_config k s) fun n l _ hl => ?_) ((lampUpdate_frame s _).handing (by decide))
  split
  · next hn =>
    refine { hl with first := fun h0 => ?_, second := fun h1 => ?_ }
    · rw [← hn, h0] at hk
      exact (Option.some.inj (hk.resolve_left (by decide))).symm
    · rw [← hn, h1] at hk
      exact (Option.some.inj (hk.resolve_left (by decide))).symm
  · exact hl

theorem HandedAll.handRecorder (hs : HandedAll s) {n : Fin 48} (hn : n = 3 ∨ n = 4) (v : LampState) :
    HandedAll (handRecorder n v s) := by
  refine .of (hs.held.update (storedOnly_recorder n v) fun i l _ hl => ?_) ((lampUpdate_frame s _).handing (by decide))
  split
  · next h =>
    refine { hl with recorder := ?_ }
    rcases hn with rfl | rfl
    · exact .inl (by rw [h]; rfl)
    · exact .inr (.inl (by rw [h]; rfl))
  · exact hl

end writes

/-! ### The ignition cycle and the inputs -/

section cycle
variable {s : State}

/-- The power changed, and not to or from RUN. -/
theorem HandedAll.setPwc (hs : HandedAll s) {w : Power} (hw : w.state = .run ↔ s.pwc.state = .run) : HandedAll (s.setPwc w) :=
  hs.frame (setPwc_frame s w) (by decide) (handing_of_power rfl rfl rfl hw)

/-- R14: the passage to or from RUN, and then every gauge contribution formed again. -/
theorem LampsHanded.formAllGauge {e : Handing} (h : LampsHanded e s) (hinput : (handing s).input = e.input)
    (haccount : (handing s).account = e.account) {g : GaugeEngine} {power : PowerState} (he : e.gauge = gaugeContribution g power)
    (hshow : ∀ i, (s.ge.channels.get i).showing = (g.channels.get i).showing) : HandedAll (formAllGauge s) := by
  refine h.formGaugeAny hinput haccount fun n hn => ?_
  rw [he]
  calc gaugeContribution s.ge s.pwc.state n = gaugeContribution s.ge power n := gaugeContribution_named hn
    _ = gaugeContribution g power n := gaugeContribution_congr Iff.rfl fun i b => by rw [hshow]

theorem HandedAll.judgeTone (hs : HandedAll s) : HandedAll (judgeTone s) :=
  hs.frame (judgeTone_frame s) (by decide) ((judgeTone_frame s).handing (by decide))

theorem HandedAll.runEntry (hs : HandedAll s) : HandedAll (runEntry s) := by
  have hframe : OnlyChanges [.power, .events] s (enterPower .run (s.setPwc { s.pwc with selfCheck := .stopped })) :=
    .after (enterPower_frame _ _) (by decide) ((setPwc_frame s _).mono (by decide))
  refine HandedAll.judgeTone (LampsHanded.formAllGauge (LampsHanded.frame hs hframe (by decide) (by decide)) ?_ ?_ rfl fun i => ?_)
  · exact congrArg inputContribution (hframe.inputs (by decide))
  · exact congrArg accountContribution (hframe.aau (by decide))
  · rw [hframe.ge (by decide)]

theorem HandedAll.enterPower (hs : HandedAll s) {p : PowerState} (hp : p ≠ .run) (hold : s.pwc.state ≠ .run) :
    HandedAll (enterPower p s) :=
  HandedAll.post (hs.setPwc (by simp [hp, hold])) _ _

/-- R14, R187: leaving the cycle takes the gauge contributions out of RUN, and leaves the lamps to them. -/
theorem HandedAll.leaveCycle (hs : HandedAll s) : HandedAll (leaveCycle s) := by
  have hframe := cycleStopped_frame s
  have hreadings : (cycleStopped s).lmd.readings = s.lmd.readings := by
    unfold cycleStopped dropHold
    dsimp only
    split <;> simp [silenceChimes, darken, Machine.enterPower, Machine.mapChannels]
  have hheld : LampsHanded (handing s) (cycleStopped s) := by
    refine ⟨?_, ?_⟩
    · rw [hframe.lamps (by decide)]; exact hs.held
    · rw [hframe.lamps (by decide), hreadings]; exact hs.subst
  have hinput := congrArg inputContribution (hframe.inputs (by decide))
  have haccount := congrArg accountContribution (hframe.aau (by decide))
  have hchannels : (cycleStopped s).ge.channels = s.ge.channels.map Channel.onIgnitionOff := by
    unfold cycleStopped dropHold
    dsimp only
    split <;> simp [silenceChimes, darken, Machine.enterPower, Machine.mapChannels]
  have hshow (i : Fin 8) : ((cycleStopped s).ge.channels.get i).showing = (s.ge.channels.get i).showing := by
    rw [hchannels, Tab.get_map, (Channel.onIgnitionOff_sameSignal _).showing]
  have hpwc : (cycleStopped s).pwc.state = offTarget s := by
    unfold cycleStopped dropHold
    dsimp only
    split <;> simp [silenceChimes, darken, Machine.enterPower]
  have hleft : HandedAll (cycleLeft s) := by
    unfold cycleLeft
    split
    · exact HandedAll.judgeTone (hheld.formAllGauge hinput haccount rfl hshow)
    · next hold =>
      refine HandedAll.judgeTone (.of hheld (Handing.ext hinput haccount ?_))
      refine funext fun n => gaugeContribution_congr ?_ fun i b => by rw [hshow]
      rw [hpwc]
      rcases offTarget_eq s with h | h <;> simp [h, hold]
  rw [leaveCycle_eq]
  split
  · exact hleft.frame (quiesce_frame _) (by decide) ((quiesce_frame _).handing (by decide))
  · exact hleft

theorem HandedAll.enterRunCheck (hs : HandedAll s) (hold : s.pwc.state ≠ .run) : HandedAll (enterRunCheck s) := by
  have hset : HandedAll (s.setPwc { s.pwc with selfCheck := .running Config.selfCheckPeriod }) := hs.setPwc Iff.rfl
  have hentered := hset.enterPower (p := .runCheck) (by decide) hold
  have hbegun : HandedAll (cycleBegun s) :=
    HandedAll.post (HandedAll.setHold (hentered.mapAll Channel.onRunCheck_sameSignal) _) _ _
  rw [enterRunCheck_eq]
  split
  · exact hbegun.frame (awaken_frame _) (by decide) ((awaken_frame _).handing (by decide))
  · exact hbegun

theorem handedAll_passages : PassagesKeep HandedAll where
  flag s b hs := hs.setPwc Iff.rfl
  runEntry s _ hs := hs.runEntry
  parkingDone s h hs := by
    have hentered : HandedAll (Machine.enterPower .standby s) := hs.enterPower (by decide) (by simp [h])
    exact hentered.frame (quiesce_frame _) (by decide) ((quiesce_frame _).handing (by decide))
  enterRunCheck s h hs := hs.enterRunCheck (by rcases not_inCycle_iff.1 h with h | h <;> simp [h])
  leaveCycle s _ hs := hs.leaveCycle

/-- R160, R161: an edge: the ignition's leads a passage, a LAMP input's forms its target's contribution again. -/
theorem HandedAll.edge (hs : HandedAll s) (i : Fin 12) : HandedAll (edge i s) := by
  let new := (s.inputs.get i).edged
  have hframe := edgeTold_frame s i
  have htold : LampsHanded (handing s) (edgeTold i s) := LampsHanded.frame hs hframe (by decide) (by decide)
  have haccount : (handing (edgeTold i s)).account = (handing s).account := congrArg accountContribution (hframe.aau (by decide))
  have hgauge : (handing (edgeTold i s)).gauge = (handing s).gauge := by
    show gaugeContribution _ _ = gaugeContribution _ _
    rw [hframe.ge (by decide), hframe.pwc (by decide)]
  have hinput (n : Fin 48) (h : new.ask n = (s.inputs.get i).ask n) : (handing (edgeTold i s)).input n = (handing s).input n := by
    show inputContribution (edgeTold i s).inputs n = inputContribution s.inputs n
    rw [edgeTold_inputs]
    exact inputContribution_set h
  have hquiet (h : ∀ n, new.ask n = (s.inputs.get i).ask n) : HandedAll (edgeTold i s) :=
    .of htold (Handing.ext (funext fun n => hinput n (h n)) haccount hgauge)
  have hnone (h : new.function ≠ .lamp) : HandedAll (edgeTold i s) := hquiet fun n =>
    (InputRecord.ask_of_not_maps fun hm => h hm.1).trans (InputRecord.ask_of_not_maps (r := s.inputs.get i) fun hm => h hm.1).symm
  rw [edge_eq]
  split
  · next hsame => exact hquiet fun n => by unfold InputRecord.ask; rw [hsame]; rfl
  · unfold handActive
    split
    · next hf =>
      split
      · exact handedAll_passages.ignitionOn (hnone (by simp [new, hf]))
      · exact handedAll_passages.ignitionOff (hnone (by simp [new, hf]))
    · refine htold.formInputs haccount hgauge fun n hn => hinput n ?_
      have htarget : new.target ≠ n := fun h => hn (by simp [← h, new])
      exact (InputRecord.ask_of_not_maps fun hm => htarget hm.2).trans (InputRecord.ask_of_not_maps (r := s.inputs.get i) fun hm => htarget hm.2).symm
    · next hf => exact hnone (by simp [new, hf])
    · next hf => exact hnone (by simp [new, hf])

theorem HandedAll.storeSample (hs : HandedAll s) (mv : Tab Int 12) : HandedAll (storeSample mv s) := by
  have hframe := storeSample_frame s mv
  refine hs.frame hframe (by decide) (handing_congr (fun i n => ?_) (by rw [hframe.aau (by decide)]; simp) (by rw [hframe.ge (by decide)]; simp)
    (by rw [hframe.pwc (by decide)]))
  show ((s.inputs.mapIdx fun i r => r.sample (mv.get i)).get i).ask n = _
  rw [Tab.get_mapIdx]
  rfl

theorem HandedAll.applyInput (hs : HandedAll s) (k : InputConfig) : HandedAll (applyInput k s) := by
  let old := s.inputs.get k.input
  let new := old.configure k
  let placed := s.setInputs (s.inputs.set k.input new)
  have hplaced : LampsHanded (handing s) placed := LampsHanded.frame hs (setInputs_frame s _) (by decide) (by decide)
  have hinput (n : Fin 48) (hn : n ∉ inputLamps old new) : (handing placed).input n = (handing s).input n := by
    refine inputContribution_set ?_
    rw [InputRecord.ask_of_not_maps fun hm => hn ?_, InputRecord.ask_of_not_maps fun hm => hn ?_]
    · simp [inputLamps, old, hm.1, hm.2]
    · simp [inputLamps, new, old, hm.1, hm.2]
  have happly : Machine.applyInput k s =
      if inputLamps old new = [] then placed else Machine.remapLamps (inputLamps old new) s.inputs placed := rfl
  rw [happly]
  split
  · next h => exact .of hplaced (Handing.ext (funext fun n => hinput n (by simp [h])) rfl rfl)
  · exact hplaced.remapLamps s.inputs rfl rfl hinput

theorem HandedAll.setCu (hs : HandedAll s) (u : ChimeUnit) : HandedAll (s.setCu u) :=
  hs.frame (setCu_frame s u) (by decide) ((setCu_frame s u).handing (by decide))

theorem HandedAll.supplyFalls (hs : HandedAll s) : HandedAll (supplyFalls s) := by
  have hlow : HandedAll (s.setPwc { s.pwc with supplyLow := true, supplyWait := 0 }) := hs.setPwc Iff.rfl
  unfold Machine.supplyFalls
  split
  · exact hs
  · exact ((hlow.mapChannels Channel.onSupplyLow_sameSignal rfl).setCu _).post _ _

theorem HandedAll.supplyReturns (hs : HandedAll s) : HandedAll (supplyReturns s) := by
  have hnormal : HandedAll (s.setPwc { s.pwc with supplyLow := false, supplyWait := 0 }) := hs.setPwc Iff.rfl
  unfold Machine.supplyReturns
  split
  · exact (hnormal.setCu _).post _ _
  · exact hs

theorem HandedAll.measure (hs : HandedAll s) (mv : Nat) : HandedAll (measure mv s) := by
  have hstore (n : Nat) : HandedAll (storeBattery mv n s) := ⟨hs.held, hs.subst⟩
  rw [measure_eq]
  split
  · split
    · exact (hstore _).supplyReturns
    · exact (hstore _).supplyFalls
  · exact hstore _

theorem HandedAll.tick (hs : HandedAll s) : HandedAll (tick s) := by
  cases h : isOut s
  · exact hs.frame (tick_frame_reset h) (by decide) ((tick_frame_reset h).handing (by decide))
  · have hpass : HandedAll (passOut s) :=
      .of ⟨hs.held, hs.subst⟩ (handing_congr (fun _ _ => rfl) (fun q => by cases q <;> rfl) (fun _ => rfl) (Iff.refl _))
    exact hpass.frame (tick_frame_out h) (by decide) ((tick_frame_out h).handing (by decide))

theorem handedAll_of_reset (hlamps : s.lamps = .ofFn Lamp.reset) (hlmd : s.lmd = .reset) (hinputs : s.inputs = State.reset.inputs)
    (haau : s.aau = State.reset.aau) (hge : s.ge = State.reset.ge) (hpwc : s.pwc.state = State.reset.pwc.state) :
    HandedAll s := by
  have hreset : HandedAll State.reset := (handedAll_iff _).1 (by decide)
  refine .of ⟨?_, ?_⟩ (handing_of_power hinputs haau hge (by rw [hpwc]))
  · rw [hlamps]; exact hreset.held
  · rw [hlamps, hlmd]; exact hreset.subst

end cycle

theorem handedAll_kept : Kept HandedAll where
  act {W s t} hout a hs := by
    by_cases hw : ∀ b ∈ [Block.lamps, .matrix, .inputs, .drivers, .gauges, .power], b ∉ W
    · exact hs.frame a.frame (fun b hb => hw b (by simp at hb ⊢; tauto))
        (a.frame.handing fun b hb => hw b (by simp at hb ⊢; tauto))
    · cases a <;> simp at hw
      case begin p => exact hs.beginFrame p
      case clearCauses => exact hs.setPwc Iff.rfl
      case closeWindow => exact hs.closeWindow
      case silencePort p => exact hs.silencePort p
      case deliver => exact hs.gaugeChange _ (fun c => by simp) fun c => by simp
      case applyChannel k _ _ _ _ => exact handedAll_passages.powerConditions (hs.channelShown k)
      case loadCurve i curve _ => exact hs.modifyChannel i rfl
      case dropPending i => exact hs.modifyChannel i rfl
      case keepPending i q _ => exact hs.modifyChannel i rfl
      case filterAll => exact hs.mapChannels Channel.filterUpdate_sameSignal rfl
      case motionInterval =>
        rw [motionInterval_eq]
        split
        · exact ⟨hs.held, hs.subst⟩
        · exact handedAll_passages.powerConditions hs.movedOn
      case writeLamps p pairs _ _ => exact hs.writeLamps p pairs
      case configureLamp k hk => exact hs.configureLamp hk
      case handRecorder n v hn _ => exact hs.handRecorder hn v
      case setDimming => exact hs.setLmd rfl
      case setFloor => exact hs.setLmd rfl
      case requestHold => exact hs.matrix (requestHold_frame s) (requestHold_readings s) (by decide) (by decide)
      case releaseHold => exact hs.matrix (releaseHold_frame s) (releaseHold_readings s) (by decide) (by decide)
      case dropInternal => exact hs.setLmd rfl
      case dropPortS => exact hs.setLmd rfl
      case scanFrameStart => exact hs.matrix (scanFrameStart_frame s) (scanFrameStart_readings s) (by decide) (by decide)
      case rowSlotEnd draws => exact hs.rowSlotEnd draws
      case loadClock dt b _ _ =>
        have hloaded : HandedAll (discardTallies (s.setCc (s.cc.load dt b))) :=
          (hs.frame (setCc_frame s _) (by decide) ((setCc_frame s _).handing (by decide))).setAau fun q => by cases q <;> rfl
        unfold loadClock
        dsimp only
        split
        · exact hloaded.post _ _
        · exact hloaded
      case tally => exact hs.setAau fun q => by cases q <;> exact DriverRecord.tally_warn _
      case discardTallies => exact hs.setAau fun q => by cases q <;> rfl
      case creditSlot stamp c => exact hs.creditSlot stamp c
      case slotActivity c => exact hs.slotActivity c
      case slotSummary c => exact hs.slotSummary c
      case setLead n _ => exact hs.setLead n
      case basisExpires slot => exact hs.modifyRecord slot rfl
      case linkTaken => exact hs.linkTaken
      case loseLink => exact hs.loseLink
      case applyInput args k _ _ => exact hs.applyInput k
      case edge i => exact hs.edge i
      case sampleInputs mv =>
        exact sampleInputs_keeps
          (fun n s hs => hs.frame (setChoices_frame s n) (by decide) ((setChoices_frame s n).handing (by decide)))
          (fun mv s hs => hs.storeSample mv) (fun i _ hs => hs.edge i) mv hs
      case selfCheckExpires => exact handedAll_passages.powerConditions (hs.setPwc Iff.rfl)
      case supplyFalls => exact hs.supplyFalls
      case supplyReturns => exact hs.supplyReturns
      case measure mv => exact hs.measure mv
  always {W s t} a hs := by
    by_cases hw : ∀ b ∈ [Block.lamps, .matrix, .inputs, .drivers, .gauges, .power], b ∉ W
    · exact hs.frame a.frame (fun b hb => hw b (by simp at hb ⊢; tauto))
        (a.frame.handing fun b hb => hw b (by simp at hb ⊢; tauto))
    · cases a <;> simp [resetBlocks, tickBlocks] at hw
      case beginCause c => exact handedAll_of_reset rfl rfl rfl rfl rfl rfl
      case commandReset => exact handedAll_of_reset rfl rfl rfl rfl rfl rfl
      case tick => exact hs.tick

/-- Settles O57: every operation keeps the lamps resolved and every contribution as its block would form it. -/
theorem everyStepKeepsLampsSound : Obligations.EveryStepKeepsLampsSound := by
  intro s t h
  simp only [lampsSound_iff, handedAll_iff]
  exact ⟨lampsSound_kept.step h, handedAll_kept.step h⟩

end Sys2Proof.Machine
end

section
/-! SUPPORT. The input records (chapter 9): what a sample, an edge and a request leave of each, and that they stay sound. -/
namespace Sys2Proof.Machine

/-! ### One record -/

/-- R156, R158, R159: `inputSound`. -/
structure InputRecord.Sound (i : Fin 12) (r : InputRecord) : Prop where
  active : r.active = true ↔ r.debounced = r.activeHigh
  waits : r.raw ≠ r.debounced ∨ r.wait = 0
  wait : r.wait ≤ 249
  debounce : 10 ≤ r.debounce ∧ r.debounce ≤ 250 ∧ r.debounce % 10 = 0
  ignition : r.function = .ignition ↔ i = 0
  fixed : i = 0 → r.activeHigh = true ∧ r.debounce = 50 ∧ r.edge = .none ∧ r.target = 0 ∧ r.lampState = .on

theorem inputSound_iff (i : Fin 12) (r : InputRecord) : inputSound i r = true ↔ r.Sound i := by
  simp only [inputSound, Bool.and_eq_true, Bool.or_eq_true, decide_eq_true_eq]
  constructor
  · rintro ⟨⟨⟨⟨⟨⟨⟨ha, hw⟩, hwait⟩, hlo⟩, hhi⟩, hmod⟩, hig⟩, hfix⟩
    refine ⟨Iff.of_eq ha, hw, hwait, ⟨hlo, hhi, hmod⟩, by simpa using hig, fun h => ?_⟩
    have := hfix.resolve_left (by simp [h])
    tauto
  · rintro ⟨ha, hw, hwait, ⟨hlo, hhi, hmod⟩, hig, hfix⟩
    refine ⟨⟨⟨⟨⟨⟨⟨propext ha, hw⟩, hwait⟩, hlo⟩, hhi⟩, hmod⟩, by simpa using hig⟩, ?_⟩
    by_cases h : i = 0
    · have := hfix h
      tauto
    · exact .inl h

section record
variable {i : Fin 12} {r : InputRecord}

@[simp] theorem InputRecord.edged_edged (r : InputRecord) : r.edged.edged = r.edged := rfl

theorem InputRecord.Sound.edged (h : r.Sound i) : r.edged.Sound i :=
  { h with active := decide_eq_true_iff, waits := .inr rfl, wait := Nat.zero_le _ }

/-- R157, R158: a sample that does not complete the wait counts it on, below its end. -/
theorem InputRecord.Sound.sample (h : r.Sound i) {mv : Int} (hwaited : (r.sample mv).waited = false) :
    (r.sample mv).Sound i := by
  have hdebounce := h.debounce
  unfold waited at hwaited
  have hcount : (r.sample mv).raw ≠ (r.sample mv).debounced ∨ (r.sample mv).wait = 0 := by
    unfold InputRecord.sample
    dsimp only
    split <;> simp_all
  refine { h with waits := hcount, wait := ?_ }
  rcases hcount with hne | h0
  · simp only [hne, ne_eq, not_false_eq_true, decide_true, Bool.true_and, decide_eq_false_iff_not, not_le] at hwaited
    have hsame : (r.sample mv).debounce = r.debounce := rfl
    omega
  · omega

theorem debounceOfByte_bounds (b : Byte) : 10 ≤ debounceOfByte b ∧ debounceOfByte b ≤ 250 ∧ debounceOfByte b % 10 = 0 := by
  have hclamp : 1 ≤ clamp 1 25 b.toNat ∧ clamp 1 25 b.toNat ≤ 25 := clamp_bounds (by decide) _
  unfold debounceOfByte
  omega

/-- R163: the settings of a SET_INPUT that has passed its checks. -/
theorem inputConfigOf_bounds {args : InputArgs} {k : InputConfig} (h : inputConfigOf args = some k) :
    k.function ≠ .ignition ∧ 10 ≤ k.debounce ∧ k.debounce ≤ 250 ∧ k.debounce % 10 = 0 := by
  unfold inputConfigOf at h
  split at h
  · next function _ _ _ _ hf _ _ _ _ =>
    cases h
    refine ⟨?_, ?_⟩
    · rintro rfl
      unfold functionOfCode at hf
      split at hf <;> simp at hf
    · exact debounceOfByte_bounds args.debounce
  · cases h

theorem InputRecord.Sound.configure (h : r.Sound i) {k : InputConfig} (h0 : i ≠ 0) (hf : k.function ≠ .ignition)
    (hd : 10 ≤ k.debounce ∧ k.debounce ≤ 250 ∧ k.debounce % 10 = 0) : (r.configure k).Sound i :=
  { active := decide_eq_true_iff, waits := h.waits, wait := h.wait, debounce := hd, ignition := ⟨fun e => absurd e hf, fun e => absurd e h0⟩,
    fixed := fun e => absurd e h0 }

end record

/-! ### The records of a state -/

section state
variable (s : State) (j : Fin 12)

theorem forEach_edge_input (l : List (Fin 12)) :
    (forEach edge l s).inputs.get j = if j ∈ l then (s.inputs.get j).edged else s.inputs.get j := by
  induction l generalizing s with
  | nil => rfl
  | cons i l ih =>
    rw [forEach_cons, ih, edge_inputs, Tab.get_set]
    by_cases hj : j = i
    · subst hj; simp
    · simp [hj]

@[simp] theorem storeSample_input (mv : Tab Int 12) :
    (storeSample mv s).inputs.get j = (s.inputs.get j).sample (mv.get j) := Tab.get_mapIdx _ _ _

/-- R157, R158: what a sample leaves of an input: counted, and with the edge that its wait completes. -/
theorem sampleInputs_input (mv : Tab Int 12) : (sampleInputs mv s).inputs.get j =
    if ((s.inputs.get j).sample (mv.get j)).waited then ((s.inputs.get j).sample (mv.get j)).edged
    else (s.inputs.get j).sample (mv.get j) := by
  rw [sampleInputs_eq, inSomeOrder, forEach_edge_input]
  simp only [(arrange_perm _ _).mem_iff, Tab.mem_indices, State.setChoices_inputs, storeSample_input]

theorem applyInput_inputs (k : InputConfig) :
    (applyInput k s).inputs = s.inputs.set k.input ((s.inputs.get k.input).configure k) := by
  unfold applyInput
  dsimp only
  split
  · rfl
  · simp [remapLamps]

end state

/-- `State.inputsSound`. -/
def InputsSound (s : State) : Prop := ∀ i, (s.inputs.get i).Sound i

theorem inputsSound_iff (s : State) : s.inputsSound = true ↔ InputsSound s := by
  simp [State.inputsSound, inputSound_iff, InputsSound]

theorem inputsSound_readsOnly : ReadsOnly [.inputs] InputsSound := by
  intro s t hsame hs
  have hinputs : t.inputs = s.inputs := hsame .inputs (by simp)
  rw [InputsSound, hinputs]
  exact hs

theorem InputsSound.set {s t : State} (hs : InputsSound s) {i : Fin 12} {r : InputRecord}
    (ht : t.inputs = s.inputs.set i r) (hr : r.Sound i) : InputsSound t := by
  intro j
  rw [ht, Tab.get_set]
  split
  · next h => subst h; exact hr
  · exact hs j

theorem inputsSound_of_reset {s : State} (h : s.inputs = State.reset.inputs) : InputsSound s := by
  rw [InputsSound, h]
  exact (inputsSound_iff State.reset).1 (by decide)

theorem inputsSound_kept : Kept InputsSound where
  act {W s t} hout a hs := by
    by_cases hw : ∀ b ∈ [Block.inputs], b ∉ W
    · exact inputsSound_readsOnly.keeps a.frame hw hs
    · cases a <;> simp at hw
      case applyInput args k hk h0 =>
        obtain ⟨hf, hd⟩ := inputConfigOf_bounds hk
        exact hs.set (applyInput_inputs s k) ((hs k.input).configure h0 hf hd)
      case edge i => exact hs.set (edge_inputs i s) (hs i).edged
      case sampleInputs mv =>
        intro j
        rw [sampleInputs_input]
        cases h : ((s.inputs.get j).sample (mv.get j)).waited
        · exact (hs j).sample h
        · exact { hs j with active := decide_eq_true_iff, waits := .inr rfl, wait := Nat.zero_le _ }
  always {W s t} a hs := by
    by_cases hw : ∀ b ∈ [Block.inputs], b ∉ W
    · exact inputsSound_readsOnly.keeps a.frame hw hs
    · cases a <;> simp [resetBlocks, tickBlocks] at hw
      case beginCause c => exact inputsSound_of_reset rfl
      case commandReset => exact inputsSound_of_reset rfl

end Sys2Proof.Machine
end

section
/-! CERTIFICATE. O56: the ignition cycle stays sound (`State.cycleSound`), with the inputs (`InputsSound`): every passage is taken
as its condition comes to hold, and leaves each channel in a state that the power state allows. -/
namespace Sys2Proof.Machine

/-! ### The parts of the invariant -/

/-- R33, R38, R41, R184: ignition, self-check timer and channel states as the power state asks, wherever the conditions of
the Gauge Engine stand. -/
structure PowerStands (s : State) : Prop where
  ignition : s.pwc.ignition = inCycle s
  timer : s.pwc.state = .runCheck ↔ s.pwc.selfCheck ≠ .stopped
  allowed : ∀ i, stateAllowed s.pwc.state (s.ge.channels.get i) = true
  disabled : ∀ i, (s.ge.channels.get i).enabled = true ∨ (s.ge.channels.get i).state = .unhomed

/-- R186, R188: a RUN_CHECK or a PARKING whose condition holds has been left. -/
structure Settled (s : State) : Prop where
  runCheck : ¬(s.pwc.state = .runCheck ∧ s.pwc.selfCheck = .runOut ∧ checkComplete s.ge = true)
  parking : ¬(s.pwc.state = .parking ∧ parkingComplete s.ge = true)

/-- R160, R184: DI0 alone is the ignition, and its active state is the ignition's. -/
structure InputsLead (s : State) : Prop where
  active : s.pwc.ignition = (s.inputs.get 0).active
  function : ∀ i, (s.inputs.get i).function = .ignition ↔ i = 0

/-- `State.cycleSound`. -/
structure CycleSound (s : State) : Prop where
  power : PowerStands s
  settled : Settled s
  inputs : InputsLead s

theorem cycleSound_iff (s : State) : s.cycleSound = true ↔ CycleSound s := by
  simp only [State.cycleSound, Bool.and_eq_true, decide_eq_true_eq, Tab.all_iff, List.all_eq_true, List.mem_finRange,
    forall_const, Bool.not_eq_true', Bool.eq_false_iff, ne_eq, Bool.or_eq_true]
  constructor
  · rintro ⟨⟨⟨⟨⟨⟨⟨hig, htimer⟩, hrun⟩, hpark⟩, hall⟩, hact⟩, hdis⟩, hfun⟩
    exact ⟨⟨hig, Iff.of_eq htimer, hall, hdis⟩, ⟨fun h => hrun ⟨⟨h.1, h.2.1⟩, h.2.2⟩, hpark⟩, ⟨hact, fun i => Iff.of_eq (hfun i)⟩⟩
  · rintro ⟨⟨hig, htimer, hall, hdis⟩, ⟨hrun, hpark⟩, ⟨hact, hfun⟩⟩
    exact ⟨⟨⟨⟨⟨⟨⟨hig, propext htimer⟩, fun h => hrun ⟨h.1.1, h.1.2, h.2⟩⟩, hpark⟩, hall⟩, hact⟩, hdis⟩, fun i => propext (hfun i)⟩

/-! ### What the cycle reads -/

/-- The running state of a channel, and that it is enabled. -/
structure Channel.SameStand (c d : Channel) : Prop where
  state : d.state = c.state
  enabled : d.enabled = c.enabled

section same
variable {s t : State}

theorem checkComplete_iff (g : GaugeEngine) :
    checkComplete g = true ↔ ∀ i, (g.channels.get i).enabled = true → (g.channels.get i).state = .tracking := by
  simp only [checkComplete, Tab.all_iff, Bool.or_eq_true, Bool.not_eq_true', decide_eq_true_eq]
  exact forall_congr' fun i => by cases (g.channels.get i).enabled <;> simp

theorem parkingComplete_iff (g : GaugeEngine) : parkingComplete g = true ↔
    ∀ i, (g.channels.get i).state = .unhomed ∨ (g.channels.get i).state = .homing ∨ (g.channels.get i).state = .parked := by
  simp only [parkingComplete, Channel.homed, Tab.all_iff, Bool.or_eq_true, Bool.not_eq_true', decide_eq_true_eq,
    Bool.and_eq_false_iff, decide_eq_false_iff_not, not_not, or_assoc]

theorem PowerStands.of_same (hs : PowerStands s) (hstate : t.pwc.state = s.pwc.state) (hig : t.pwc.ignition = s.pwc.ignition)
    (htimer : t.pwc.selfCheck = .stopped ↔ s.pwc.selfCheck = .stopped)
    (hch : ∀ i, (s.ge.channels.get i).SameStand (t.ge.channels.get i)) : PowerStands t where
  ignition := by rw [hig, inCycle, hstate]; exact hs.ignition
  timer := by rw [hstate, hs.timer, Ne, Ne, htimer]
  allowed i := by
    have h := hs.allowed i
    unfold stateAllowed at h ⊢
    rwa [hstate, (hch i).state, (hch i).enabled]
  disabled i := by rw [(hch i).state, (hch i).enabled]; exact hs.disabled i

theorem Settled.of_same (hs : Settled s) (hstate : t.pwc.state = s.pwc.state)
    (htimer : t.pwc.selfCheck = .runOut → s.pwc.selfCheck = .runOut)
    (hch : ∀ i, (s.ge.channels.get i).SameStand (t.ge.channels.get i)) : Settled t where
  runCheck := by
    rintro ⟨h, ho, hc⟩
    rw [checkComplete_iff] at hc
    refine hs.runCheck ⟨hstate ▸ h, htimer ho, (checkComplete_iff _).2 fun i hi => ?_⟩
    rw [← (hch i).state]
    exact hc i ((hch i).enabled.trans hi)
  parking := by
    rintro ⟨h, hc⟩
    rw [parkingComplete_iff] at hc
    exact hs.parking ⟨hstate ▸ h, (parkingComplete_iff _).2 fun i => by rw [← (hch i).state]; exact hc i⟩

theorem InputsLead.of_same (hs : InputsLead s) (hig : t.pwc.ignition = s.pwc.ignition) (hinputs : t.inputs = s.inputs) :
    InputsLead t := ⟨by rw [hig, hinputs]; exact hs.active, by rw [hinputs]; exact hs.function⟩

/-- Channels changed, and not in what the cycle reads. -/
theorem CycleSound.of_channels (hs : CycleSound s) (hpwc : t.pwc = s.pwc) (hinputs : t.inputs = s.inputs)
    (hch : ∀ i, (s.ge.channels.get i).SameStand (t.ge.channels.get i)) : CycleSound t where
  power := hs.power.of_same (by rw [hpwc]) (by rw [hpwc]) (by rw [hpwc]) hch
  settled := hs.settled.of_same (by rw [hpwc]) (by rw [hpwc]; exact id) hch
  inputs := hs.inputs.of_same (by rw [hpwc]) hinputs

theorem CycleSound.frame (hs : CycleSound s) {W : List Block} (h : OnlyChanges W s t)
    (hW : ∀ b ∈ [Block.gauges, .inputs, .power], b ∉ W) : CycleSound t :=
  hs.of_channels (h.pwc (hW _ (by simp))) (h.inputs (hW _ (by simp)))
    fun i => by rw [h.ge (hW _ (by simp))]; exact ⟨rfl, rfl⟩

/-- The power changed, and not in what the cycle reads. -/
theorem CycleSound.of_power (hs : CycleSound s) (hstate : t.pwc.state = s.pwc.state) (hig : t.pwc.ignition = s.pwc.ignition)
    (htimer : t.pwc.selfCheck = s.pwc.selfCheck) (hinputs : t.inputs = s.inputs)
    (hch : ∀ i, (s.ge.channels.get i).SameStand (t.ge.channels.get i)) : CycleSound t where
  power := hs.power.of_same hstate hig (by rw [htimer]) hch
  settled := hs.settled.of_same hstate (by rw [htimer]; exact id) hch
  inputs := hs.inputs.of_same hig hinputs

end same

/-! ### The passages -/

section passages
variable {s : State}

/-- R186, R188: acting on the conditions settles them. -/
theorem PowerStands.powerConditions (hs : PowerStands s) :
    PowerStands (powerConditions s) ∧ Settled (powerConditions s) ∧ (powerConditions s).pwc.ignition = s.pwc.ignition := by
  by_cases hrun : s.pwc.state = .runCheck ∧ s.pwc.selfCheck = .runOut ∧ checkComplete s.ge = true
  · rw [powerConditions_runCheck hrun.1 hrun.2.1 hrun.2.2]
    refine ⟨⟨?_, by simp, fun i => ?_, fun i => ?_⟩, ⟨by simp, by simp⟩, by simp⟩
    · rw [inCycle_runEntry, runEntry_pwc, hs.ignition]
      simp [inCycle, hrun.1]
    · have h := hs.allowed i
      rw [hrun.1] at h
      rw [runEntry_pwc, (runEntry_frame s).ge (by decide)]
      exact h
    · rw [(runEntry_frame s).ge (by decide)]
      exact hs.disabled i
  · by_cases hpark : s.pwc.state = .parking ∧ parkingComplete s.ge = true
    · have htimer : s.pwc.selfCheck = .stopped := by
        by_contra h
        rw [← Ne, ← hs.timer, hpark.1] at h
        cases h
      rw [powerConditions_parking hpark.1 hpark.2]
      refine ⟨⟨?_, by simp [htimer], fun i => ?_, fun i => ?_⟩, ⟨by simp, by simp⟩, by simp⟩
      · rw [inCycle_parkingDone, parkingDone_pwc, hs.ignition]
        simp [inCycle, hpark.1]
      · have h := hs.allowed i
        have hdone := (parkingComplete_iff _).1 hpark.2 i
        rw [hpark.1] at h
        rw [parkingDone_pwc, (parkingDone_frame s).ge (by decide)]
        simp only [stateAllowed, Bool.or_eq_true, decide_eq_true_eq] at h ⊢
        rcases hdone with h' | h' | h'
        · exact .inl h'
        · simp [h'] at h
        · exact .inr h'
      · rw [(parkingDone_frame s).ge (by decide)]
        exact hs.disabled i
    · rw [powerConditions_otherwise hrun hpark]
      exact ⟨hs, ⟨hrun, hpark⟩, rfl⟩

theorem CycleSound.powerConditions (hpower : PowerStands s) (hinputs : InputsLead s) : CycleSound (powerConditions s) := by
  obtain ⟨hstands, hsettled, hig⟩ := hpower.powerConditions
  exact ⟨hstands, hsettled, hinputs.of_same hig ((powerConditions_frame s).inputs (by decide))⟩

/-- R33: a channel as RUN_CHECK is entered homes, sweeps or tracks, unless it is disabled. -/
theorem stateAllowed_onRunCheck {c : Channel} (hoff : c.state = .unhomed ∨ c.state = .parked ∨ c.state = .parking)
    (hdisabled : c.enabled = true ∨ c.state = .unhomed) : stateAllowed .runCheck c.onRunCheck = true := by
  have hswept : stateAllowed .runCheck c.sweepOrTrack = true := by
    unfold Channel.sweepOrTrack
    split <;> rfl
  unfold Channel.onRunCheck
  split
  · rcases hoff with h | h | h <;> rw [h]
    · rfl
    · exact hswept
    · exact hswept
  · next he =>
    have hunhomed := hdisabled.resolve_left he
    simp [stateAllowed, hunhomed, he]

/-- R38: as the ignition goes off, a channel of the cycle parks where it has a way to run, and is unhomed otherwise. -/
theorem Channel.onIgnitionOff_state {c : Channel} (hallowed : c.state ≠ .parked ∧ c.state ≠ .parking) :
    c.onIgnitionOff.state = .unhomed ∨ c.onIgnitionOff.state = .parking := by
  unfold onIgnitionOff
  cases h : c.state
  case parked => exact absurd h hallowed.1
  case parking => exact absurd h hallowed.2
  case unhomed => exact .inl h
  case homing => exact .inl rfl
  all_goals exact .inr rfl

theorem Channel.onIgnitionOff_unhomed {c : Channel} (h : c.state = .unhomed) : c.onIgnitionOff.state = .unhomed := by
  unfold onIgnitionOff
  rw [h]
  exact h

theorem Channel.onRunCheck_disabled {c : Channel} (he : c.enabled = false) : c.onRunCheck = c := by
  simp [onRunCheck, he]

/-- R185: the ignition going on, as DI0 becomes active, leads into RUN_CHECK. -/
theorem PowerStands.ignitionOn (hs : PowerStands s) (hoff : s.pwc.ignition = false) :
    PowerStands (ignitionOn s) ∧ Settled (ignitionOn s) ∧ (ignitionOn s).pwc.ignition = true := by
  have hcycle : inCycle s = false := hs.ignition ▸ hoff
  rw [ignitionOn_off hcycle]
  refine ⟨⟨by simp, by simp, fun i => ?_, fun i => ?_⟩, ⟨by simp, by simp⟩, by simp⟩
  · rw [enterRunCheck_pwc, enterRunCheck_channels, Tab.get_map]
    refine stateAllowed_onRunCheck ?_ (hs.disabled i)
    have hallowed := hs.allowed i
    rcases not_inCycle_iff.1 hcycle with h | h <;> rw [h] at hallowed <;>
      simp only [stateAllowed, Bool.or_eq_true, decide_eq_true_eq] at hallowed <;> tauto
  · rw [enterRunCheck_channels, Tab.get_map, (Channel.onRunCheck_sameSignal _).enabled]
    show (s.ge.channels.get i).enabled = true ∨ (s.ge.channels.get i).onRunCheck.state = .unhomed
    cases he : (s.ge.channels.get i).enabled
    · have hunhomed := (hs.disabled i).resolve_left (by simp [he])
      exact .inr (by rw [Channel.onRunCheck_disabled he, hunhomed])
    · exact .inl rfl

/-- R187: the ignition going off, as DI0 becomes inactive, leads out of the cycle. -/
theorem PowerStands.ignitionOff (hs : PowerStands s) (hon : s.pwc.ignition = true) :
    PowerStands (ignitionOff s) ∧ Settled (ignitionOff s) ∧ (ignitionOff s).pwc.ignition = false := by
  have hcycle : inCycle s = true := hs.ignition ▸ hon
  let off := s.setPwc { s.pwc with ignition := false }
  have hout (i : Fin 8) : (s.ge.channels.get i).onIgnitionOff.state = .unhomed ∨
      (s.ge.channels.get i).onIgnitionOff.state = .parking := by
    have hallowed := hs.allowed i
    refine Channel.onIgnitionOff_state ?_
    rcases inCycle_iff.1 hcycle with h | h <;> rw [h] at hallowed <;>
      simp only [stateAllowed, Bool.and_eq_true, decide_eq_true_eq] at hallowed <;> exact hallowed.1
  have hany : (offTarget off = .parking ∧ ∃ i, (s.ge.channels.get i).onIgnitionOff.state = .parking) ∨
      (offTarget off = .standby ∧ ∀ i, (s.ge.channels.get i).onIgnitionOff.state ≠ .parking) := by
    unfold offTarget offState
    split
    · next h =>
      obtain ⟨i, hi⟩ := (Tab.any_iff _ _).1 h
      exact .inl ⟨rfl, i, by simpa [off] using hi⟩
    · next h =>
      refine .inr ⟨rfl, fun i hi => h ((Tab.any_iff _ _).2 ⟨i, ?_⟩)⟩
      simpa [off] using hi
  rw [ignitionOff_cycle hcycle]
  have hstate : (leaveCycle off).pwc.state = offTarget off := by simp
  have hchannel (i : Fin 8) : (leaveCycle off).ge.channels.get i = (s.ge.channels.get i).onIgnitionOff := by simp [off]
  refine ⟨⟨by simp, ?_, fun i => ?_, fun i => ?_⟩, ⟨?_, ?_⟩, by simp⟩
  · rw [hstate]
    rcases offTarget_eq off with h | h <;> simp [h]
  · rw [hstate, hchannel]
    rcases hany with ⟨h, -⟩ | ⟨h, hnone⟩ <;> rw [h]
    · rcases hout i with ho | ho <;> simp [stateAllowed, ho]
    · simp [stateAllowed, (hout i).resolve_right (hnone i)]
  · rw [hchannel, (Channel.onIgnitionOff_sameSignal _).enabled]
    exact (hs.disabled i).imp_right Channel.onIgnitionOff_unhomed
  · rw [hstate]
    rcases offTarget_eq off with h | h <;> simp [h]
  · rw [hstate, parkingComplete_iff]
    rintro ⟨h, hdone⟩
    rcases hany with ⟨-, i, hi⟩ | ⟨h', -⟩
    · have := hdone i
      rw [hchannel, hi] at this
      simp at this
    · rw [h] at h'
      cases h'

/-- R160: an edge of DI0 that changes its active state takes the ignition with it; no other edge bears on the cycle. -/
theorem CycleSound.edge (hs : CycleSound s) (i : Fin 12) : CycleSound (edge i s) := by
  let new := (s.inputs.get i).edged
  have hframe := edgeTold_frame s i
  have hinputs := edgeTold_inputs i s
  have hfunction (j : Fin 12) : ((edgeTold i s).inputs.get j).function = .ignition ↔ j = 0 := by
    rw [hinputs, Tab.get_set]
    split
    · next h => subst h; exact hs.inputs.function j
    · exact hs.inputs.function j
  have hpower : PowerStands (edgeTold i s) := by
    refine hs.power.of_same (by rw [hframe.pwc (by decide)]) (by rw [hframe.pwc (by decide)]) (by rw [hframe.pwc (by decide)]) fun j => ?_
    rw [hframe.ge (by decide)]
    exact ⟨rfl, rfl⟩
  have hsettled : Settled (edgeTold i s) := by
    refine hs.settled.of_same (by rw [hframe.pwc (by decide)]) (by rw [hframe.pwc (by decide)]; exact id) fun j => ?_
    rw [hframe.ge (by decide)]
    exact ⟨rfl, rfl⟩
  have hactive (hsame : i = 0 → new.active = (s.inputs.get i).active) :
      (edgeTold i s).pwc.ignition = ((edgeTold i s).inputs.get 0).active := by
    rw [hframe.pwc (by decide), hinputs, hs.inputs.active, Tab.get_set]
    split
    · next h => subst h; exact (hsame rfl).symm
    · rfl
  have hother (h0 : i ≠ 0) : CycleSound (edgeTold i s) :=
    ⟨hpower, hsettled, ⟨hactive fun h => absurd h h0, hfunction⟩⟩
  have hnot (f : InputFunction) (hf : new.function = f) (hne : f ≠ .ignition) : i ≠ 0 := fun h0 =>
    hne (hf ▸ (hs.inputs.function i).2 h0)
  rw [edge_eq]
  split
  · next hsame => exact ⟨hpower, hsettled, ⟨hactive fun _ => hsame, hfunction⟩⟩
  · next hchanged =>
    unfold handActive
    split
    · next hf =>
      have h0 : i = 0 := (hs.inputs.function i).1 hf
      have hled (b : Bool) (hb : new.active = b) {t : State} (ht : t.inputs = (edgeTold i s).inputs) (hig : t.pwc.ignition = b) :
          InputsLead t := by
        refine ⟨?_, by rw [ht]; exact hfunction⟩
        rw [hig, ht, hinputs, ← h0, Tab.get_set, if_pos rfl]
        exact hb.symm
      have hig : (edgeTold i s).pwc.ignition = (s.inputs.get i).active := by rw [hframe.pwc (by decide), hs.inputs.active, h0]
      split
      · next hon =>
        obtain ⟨hstands, hset, hnow⟩ := hpower.ignitionOn (by rw [hig]; simpa [hon] using hchanged)
        exact ⟨hstands, hset, hled true hon ((ignitionOn_frame _).inputs (by decide)) hnow⟩
      · next hoff =>
        obtain ⟨hstands, hset, hnow⟩ := hpower.ignitionOff (by rw [hig]; simpa [hoff] using hchanged)
        exact ⟨hstands, hset, hled false (by simpa using hoff) ((ignitionOff_frame _).inputs (by decide)) hnow⟩
    · next hf =>
      exact (hother (hnot _ hf (by decide))).frame (lampUpdate_frame _ _) (by decide)
    · next hf => exact hother (hnot _ hf (by decide))
    · next hf => exact hother (hnot _ hf (by decide))

end passages

/-! ### What the channels do outside the passages -/

section channels
variable (c : Channel)

theorem Channel.SameStand.refl : c.SameStand c := ⟨rfl, rfl⟩

variable {c} in
theorem Channel.SameStand.trans {d e : Channel} (h : c.SameStand d) (h' : d.SameStand e) : c.SameStand e :=
  ⟨h'.state.trans h.state, h'.enabled.trans h.enabled⟩

theorem Channel.reselect_sameStand (live : Source → Bool) : c.SameStand (c.reselect live) := by
  unfold reselect
  split <;> exact ⟨rfl, rfl⟩

theorem Channel.store_sameStand (a : Source) (v : Option Nat) : c.SameStand (c.store a v) := by
  cases a <;> exact ⟨rfl, rfl⟩

theorem Channel.filterUpdate_sameStand : c.SameStand c.filterUpdate := by
  unfold filterUpdate
  split <;> exact ⟨rfl, rfl⟩

theorem Channel.onSupplyLow_sameStand : c.SameStand c.onSupplyLow := by
  unfold onSupplyLow
  split <;> exact ⟨rfl, rfl⟩

theorem Channel.stepped_state : c.stepped.state = c.state := by
  have htravel (d : Channel) (n speed : Nat) : (d.travel n speed).state = d.state := by
    unfold travel
    split <;> split <;> rfl
  show c.move.state = c.state
  unfold move
  split
  · rfl
  · split
    · exact htravel _ _ _
    · split <;> exact htravel _ _ _

/-- R35 to R39: a motion interval leads no channel to a state that its power state does not allow. -/
theorem stateAllowed_interval {w : PowerState} {c : Channel} (h : stateAllowed w c = true) :
    stateAllowed w c.interval = true := by
  have henabled : c.interval.enabled = c.enabled := c.interval_sameSignal.enabled
  have hstate : c.interval.state = c.state ∨
      (c.state = .parking ∧ c.interval.state = .parked) ∨
      (c.state ≠ .unhomed ∧ c.state ≠ .parked ∧ c.state ≠ .parking ∧ c.interval.state ≠ .unhomed ∧
        c.interval.state ≠ .parked ∧ c.interval.state ≠ .parking) := by
    unfold Channel.interval
    cases hc : c.state
    case unhomed => exact .inl hc
    case parked => exact .inl hc
    case homing =>
      refine .inr (.inr ⟨by simp, by simp, by simp, ?_⟩)
      dsimp only
      unfold Channel.homingStep
      dsimp only
      split
      · unfold Channel.sweepOrTrack
        split <;> simp [Channel.enterSweepUp, Channel.enterTracking]
      · simp [hc]
    all_goals
      dsimp only
      split
      · simp [Channel.onArrival, Channel.stepped_state, hc, Channel.enterTracking]
      · exact .inl ((Channel.stepped_state c).trans hc)
  rcases hstate with h' | ⟨h', h''⟩ | h'
  · unfold stateAllowed at h ⊢
    rwa [h', henabled]
  · unfold stateAllowed at h ⊢
    rw [h'']
    rw [h'] at h
    cases w <;> simp_all
  · unfold stateAllowed at h ⊢
    cases w <;> simp_all

theorem Channel.interval_disabled {c : Channel} (h : c.state = .unhomed) : c.interval = c := by simp [interval, h]

end channels

section ops
variable {s t : State}

theorem CycleSound.modifyChannel (hs : CycleSound s) (i : Fin 8) {f : Channel → Channel}
    (hf : (s.ge.channels.get i).SameStand (f (s.ge.channels.get i))) : CycleSound (modifyChannel i f s) := by
  refine hs.of_channels rfl rfl fun j => ?_
  show (s.ge.channels.get j).SameStand ((s.ge.channels.modify i f).get j)
  rw [Tab.get_modify]
  split
  · next h => subst h; exact hf
  · exact .refl _

theorem closeWindow_sameStand (s : State) (i : Fin 8) :
    (s.ge.channels.get i).SameStand ((closeWindow s).ge.channels.get i) := by
  rcases closeWindow_channel i s with h | h <;> rw [h]
  · exact .refl _
  · exact ⟨rfl, rfl⟩

theorem handSpeed_sameStand (old : Option Nat) (s : State) (i : Fin 8) :
    (s.ge.channels.get i).SameStand ((handSpeed old s).ge.channels.get i) := by
  rcases handSpeed_channel i old s with h | h <;> rw [h]
  · exact .refl _
  · exact ⟨rfl, rfl⟩

theorem gaugeSelect_sameStand (c : Fin 8 → Bool) (a : Source) (v : Option Nat) (s : State) (i : Fin 8) :
    (s.ge.channels.get i).SameStand ((gaugeSelect c (Channel.store a v) s).ge.channels.get i) := by
  refine Channel.SameStand.trans ?_ (handSpeed_sameStand _ _ i)
  simp only [postAll_ge, State.setGe_ge, Tab.get_mapIdx]
  split
  · exact (Channel.store_sameStand _ a v).trans (Channel.reselect_sameStand _ _)
  · exact .refl _

theorem CycleSound.silenceSource (hs : CycleSound s) (a : Source) {other : State → State}
    (hframe : ∀ s, OnlyChanges [.lamps, .chimes, .events] s (other s)) : CycleSound (silenceSource a other s) := by
  have hsel : CycleSound (gaugeSelect (fun _ => true) (Channel.store a none) s) :=
    hs.of_channels (by simp) (by simp) (gaugeSelect_sameStand _ a none s)
  exact hsel.frame (withGaugeUpdate_frame _ hframe) (by decide)

theorem CycleSound.closeWindow (hs : CycleSound s) : CycleSound (closeWindow s) :=
  hs.of_channels (by simp) (by simp) (closeWindow_sameStand s)

theorem CycleSound.silencePort (hs : CycleSound s) (p : Port) : CycleSound (silencePort p s) := by
  have htold : CycleSound (post .sourceSilent (portSource p).code (s.setPort p { s.port p with live := false, timer := none })) :=
    (hs.frame (setLive_frame p s false none) (by decide)).frame (post_frame _ _ _) (by decide)
  cases p
  · exact htold.silenceSource _ fun s => lampUpdate_frame s _
  · exact htold.closeWindow.silenceSource _ fun s => lampUpdate_frame s _

theorem CycleSound.loseLink (hs : CycleSound s) : CycleSound (loseLink s) := by
  have hset := hs.frame (setRlu_frame s { s.rlu with live := false, timer := none, vehicle := s.rlu.vehicle.hold }) (by decide)
  have hlost := (hset.frame (post_frame _ .sourceSilent Source.recorder.code) (by decide)).silenceSource .recorder
    (other := discardRecorder) fun s => lampUpdate_frame s _
  exact hlost.frame (setAau_frame _ _) (by decide)

theorem stateAllowed_disabled {c : Channel} (he : c.enabled = false) (h : c.state = .unhomed) (w : PowerState) :
    stateAllowed w c = true := by cases w <;> simp [stateAllowed, he, h]

theorem stateAllowed_resting {c : Channel} (h : c.state = .unhomed ∨ c.state = .parked) (hc : inCycle s = false) :
    stateAllowed s.pwc.state c = true := by
  rcases not_inCycle_iff.1 hc with hw | hw <;> rw [hw] <;> rcases h with h | h <;> simp [stateAllowed, h]

theorem stateAllowed_cycle {c : Channel} (hc : inCycle s = true) : stateAllowed s.pwc.state c = true ↔
    c.state ≠ .parked ∧ c.state ≠ .parking ∧ (c.state = .unhomed → c.enabled = false) := by
  rcases inCycle_iff.1 hc with hw | hw <;> rw [hw] <;> simp [stateAllowed, and_assoc, imp_iff_not_or]

/-- R22, R34, R41, R44: the channel that a request leaves stands in a state that the power state allows. -/
theorem stateAllowed_configured {k : ChannelConfig} (hs : PowerStands s)
    (hrest : k.enabled = true → (s.ge.channels.get k.channel).state = .unhomed ∨
      (s.ge.channels.get k.channel).state = .parked) :
    stateAllowed s.pwc.state (configured k s) = true ∧
      ((configured k s).enabled = true ∨ (configured k s).state = .unhomed) := by
  have hallowed := hs.allowed k.channel
  have hsame : ((s.ge.channels.get k.channel).configure (inCycle s) k).SameStand (configured k s) :=
    Channel.reselect_sameStand _ _
  have hcongr : stateAllowed s.pwc.state (configured k s) =
      stateAllowed s.pwc.state ((s.ge.channels.get k.channel).configure (inCycle s) k) := by
    unfold stateAllowed
    rw [hsame.state, hsame.enabled]
  rw [hcongr, hsame.state, hsame.enabled]
  generalize s.ge.channels.get k.channel = c at *
  unfold Channel.configure
  by_cases hk : k.enabled = true
  · have hstate := hrest hk
    rw [if_pos hk]
    cases hcycle : inCycle s
    · split
      · exact ⟨stateAllowed_resting hstate hcycle, .inl hk⟩
      · exact ⟨stateAllowed_resting hstate hcycle, .inl hk⟩
    · rw [stateAllowed_cycle hcycle] at hallowed
      split
      · next he =>
        have hunhomed := hstate.resolve_right hallowed.1
        rw [hallowed.2.2 hunhomed] at he
        cases he
      · exact ⟨(stateAllowed_cycle hcycle).2 ⟨by simp [Channel.enterHoming], by simp [Channel.enterHoming],
          by simp [Channel.enterHoming]⟩, .inl hk⟩
  · rw [if_neg hk]
    exact ⟨stateAllowed_disabled (Bool.eq_false_of_not_eq_true hk) rfl _, .inr rfl⟩

theorem PowerStands.channelShown (hs : PowerStands s) {k : ChannelConfig}
    (hrest : k.enabled = true → (s.ge.channels.get k.channel).state = .unhomed ∨
      (s.ge.channels.get k.channel).state = .parked) : PowerStands (channelShown k s) := by
  have hframe := channelShown_frame k s
  have hchannel (i : Fin 8) : ((s.ge.channels.set k.channel (configured k s)).get i).SameStand
      ((Machine.channelShown k s).ge.channels.get i) := by
    unfold Machine.channelShown channelTold
    rw [formGaugeAny_ge]
    have h := handSpeed_sameStand (vehicleSpeed s) (postSignalChange k.channel (s.ge.channels.get k.channel) (configured k s)
      (s.setGe { s.ge with channels := s.ge.channels.set k.channel (configured k s) })) i
    rwa [(postSignalChange_frame _ _ _ _).ge (by decide)] at h
  have hplaced : PowerStands (s.setGe { s.ge with channels := s.ge.channels.set k.channel (configured k s) }) := by
    obtain ⟨hallowed, hdisabled⟩ := stateAllowed_configured hs hrest
    refine ⟨hs.ignition, hs.timer, fun i => ?_, fun i => ?_⟩
    · show stateAllowed s.pwc.state ((s.ge.channels.set k.channel (configured k s)).get i) = true
      rw [Tab.get_set]
      split
      · exact hallowed
      · exact hs.allowed i
    · show ((s.ge.channels.set k.channel (configured k s)).get i).enabled = true ∨
        ((s.ge.channels.set k.channel (configured k s)).get i).state = .unhomed
      rw [Tab.get_set]
      split
      · exact hdisabled
      · exact hs.disabled i
  exact hplaced.of_same (by rw [hframe.pwc (by decide)]; rfl) (by rw [hframe.pwc (by decide)]; rfl) (by rw [hframe.pwc (by decide)]; rfl) hchannel

@[simp] theorem movedOn_channels (s : State) : (movedOn s).ge.channels = s.ge.channels.map Channel.interval := by
  simp [movedOn, moveAll]

theorem PowerStands.movedOn (hs : PowerStands s) : PowerStands (movedOn s) := by
  have hpwc := (movedOn_frame s).pwc (by decide)
  refine ⟨by rw [hpwc, inCycle, hpwc]; exact hs.ignition, by rw [hpwc]; exact hs.timer, fun i => ?_, fun i => ?_⟩
  · rw [hpwc, movedOn_channels, Tab.get_map]
    exact stateAllowed_interval (hs.allowed i)
  · rw [movedOn_channels, Tab.get_map, (Channel.interval_sameSignal _).enabled]
    refine (hs.disabled i).imp_right fun h => ?_
    rw [Channel.interval_disabled h, h]

theorem CycleSound.mapChannels (hs : CycleSound s) {f : Channel → Channel} (hf : ∀ c : Channel, c.SameStand (f c))
    {g : GaugeEngine} (hg : g.channels = s.ge.channels.map f) : CycleSound (s.setGe g) := by
  refine hs.of_channels rfl rfl fun i => ?_
  show (s.ge.channels.get i).SameStand (g.channels.get i)
  rw [hg, Tab.get_map]
  exact hf _

theorem CycleSound.setInputs (hs : CycleSound s) {inputs : Tab InputRecord 12}
    (hsame : ∀ i, (inputs.get i).active = (s.inputs.get i).active ∧ (inputs.get i).function = (s.inputs.get i).function)
    (ht : OnlyChanges [.inputs, .leads] s t) (hinputs : t.inputs = inputs) : CycleSound t := by
  have hch (i : Fin 8) : (s.ge.channels.get i).SameStand (t.ge.channels.get i) := by rw [ht.ge (by decide)]; exact .refl _
  refine ⟨hs.power.of_same (by rw [ht.pwc (by decide)]) (by rw [ht.pwc (by decide)]) (by rw [ht.pwc (by decide)]) hch,
    hs.settled.of_same (by rw [ht.pwc (by decide)]) (by rw [ht.pwc (by decide)]; exact id) hch, ⟨?_, fun i => ?_⟩⟩
  · rw [ht.pwc (by decide), hinputs, (hsame 0).1]; exact hs.inputs.active
  · rw [hinputs, (hsame i).2]; exact hs.inputs.function i

/-- R164: a request leaves DI0, and gives no other input its function. -/
theorem CycleSound.applyInput (hs : CycleSound s) {k : InputConfig} (h0 : k.input ≠ 0) (hf : k.function ≠ .ignition) :
    CycleSound (applyInput k s) := by
  have hframe := applyInput_frame s k
  have hch (i : Fin 8) : (s.ge.channels.get i).SameStand ((Machine.applyInput k s).ge.channels.get i) := by
    rw [hframe.ge (by decide)]; exact .refl _
  refine ⟨hs.power.of_same (by rw [hframe.pwc (by decide)]) (by rw [hframe.pwc (by decide)]) (by rw [hframe.pwc (by decide)]) hch,
    hs.settled.of_same (by rw [hframe.pwc (by decide)]) (by rw [hframe.pwc (by decide)]; exact id) hch, ⟨?_, fun i => ?_⟩⟩
  · rw [hframe.pwc (by decide), applyInput_inputs, Tab.get_set, if_neg (Ne.symm h0)]
    exact hs.inputs.active
  · rw [applyInput_inputs, Tab.get_set]
    split
    · next h =>
      subst h
      exact ⟨fun e => absurd e hf, fun e => absurd e h0⟩
    · exact hs.inputs.function i

theorem CycleSound.supplyFalls (hs : CycleSound s) : CycleSound (supplyFalls s) := by
  unfold Machine.supplyFalls
  split
  · exact hs
  · have hlow : CycleSound (s.setPwc { s.pwc with supplyLow := true, supplyWait := 0 }) :=
      hs.of_power rfl rfl rfl rfl fun _ => .refl _
    have hmoved : CycleSound (Machine.mapChannels Channel.onSupplyLow _) := hlow.mapChannels Channel.onSupplyLow_sameStand rfl
    exact (hmoved.frame (setCu_frame _ _) (by decide)).frame (post_frame _ _ _) (by decide)

theorem CycleSound.supplyReturns (hs : CycleSound s) : CycleSound (supplyReturns s) := by
  unfold Machine.supplyReturns
  split
  · have hnormal : CycleSound (s.setPwc { s.pwc with supplyLow := false, supplyWait := 0 }) :=
      hs.of_power rfl rfl rfl rfl fun _ => .refl _
    exact (hnormal.frame (setCu_frame _ _) (by decide)).frame (post_frame _ _ _) (by decide)
  · exact hs

theorem CycleSound.measure (hs : CycleSound s) (mv : Nat) : CycleSound (measure mv s) := by
  have hstore (n : Nat) : CycleSound (storeBattery mv n s) := hs.of_power rfl rfl rfl rfl fun _ => .refl _
  rw [measure_eq]
  split
  · split
    · exact (hstore _).supplyReturns
    · exact (hstore _).supplyFalls
  · exact hstore _

theorem CycleSound.tick (hs : CycleSound s) : CycleSound (tick s) := by
  cases h : isOut s
  · exact hs.frame (tick_frame_reset h) (by decide)
  · have hch (i : Fin 8) : (s.ge.channels.get i).SameStand ((passOut s).ge.channels.get i) := .refl _
    have hpass : CycleSound (passOut s) := by
      refine ⟨hs.power.of_same rfl rfl ?_ hch, hs.settled.of_same rfl ?_ hch, hs.inputs.of_same rfl rfl⟩
      · show s.pwc.selfCheck.pass = .stopped ↔ _
        cases s.pwc.selfCheck <;> simp [SelfCheck.pass]
      · show s.pwc.selfCheck.pass = .runOut → _
        cases s.pwc.selfCheck <;> simp [SelfCheck.pass]
    exact hpass.frame (tick_frame_out h) (by decide)

theorem cycleSound_of_reset (hge : s.ge = State.reset.ge) (hpwc : s.pwc = .reset s.pwc.causes)
    (hinputs : s.inputs = State.reset.inputs) : CycleSound s := by
  have hreset : CycleSound State.reset := (cycleSound_iff _).1 (by decide)
  exact hreset.of_power (by rw [hpwc]; rfl) (by rw [hpwc]; rfl) (by rw [hpwc]; rfl) hinputs fun i => by rw [hge]; exact .refl _

end ops

theorem cycleSound_kept : Kept CycleSound where
  act {W s t} hout a hs := by
    by_cases hw : ∀ b ∈ [Block.gauges, .inputs, .power], b ∉ W
    · exact hs.frame a.frame hw
    · cases a <;> simp at hw
      case clearCauses => exact hs.of_power rfl rfl rfl rfl fun _ => .refl _
      case closeWindow => exact hs.closeWindow
      case silencePort p => exact hs.silencePort p
      case deliver c src v _ _ _ =>
        have hsel : CycleSound (gaugeSelect c (Channel.store src (some v)) s) :=
          hs.of_channels (by simp) (by simp) (gaugeSelect_sameStand c src (some v) s)
        exact hsel.frame (formGaugeAny_frame _ _) (by decide)
      case applyChannel args k _ _ hrest _ =>
        have hframe := channelShown_frame k s
        exact .powerConditions (hs.power.channelShown hrest)
          (hs.inputs.of_same (congrArg Power.ignition (hframe.pwc (by decide))) (hframe.inputs (by decide)))
      case loadCurve i curve _ => exact hs.modifyChannel i ⟨rfl, rfl⟩
      case dropPending i => exact hs.modifyChannel i ⟨rfl, rfl⟩
      case keepPending i q _ => exact hs.modifyChannel i ⟨rfl, rfl⟩
      case filterAll => exact hs.mapChannels Channel.filterUpdate_sameStand rfl
      case motionInterval =>
        rw [motionInterval_eq]
        split
        · exact hs.of_channels rfl rfl fun _ => .refl _
        · exact .powerConditions hs.power.movedOn
            (hs.inputs.of_same (by rw [(movedOn_frame s).pwc (by decide)]) ((movedOn_frame s).inputs (by decide)))
      case loseLink => exact hs.loseLink
      case applyInput args k hk h0 => exact hs.applyInput h0 (inputConfigOf_bounds hk).1
      case edge i => exact hs.edge i
      case sampleInputs mv =>
        exact sampleInputs_keeps (fun n s hs => hs.frame (setChoices_frame s n) (by decide))
          (fun mv s hs => hs.setInputs (fun i => by rw [storeSample_input]; exact ⟨rfl, rfl⟩) (storeSample_frame s mv) rfl)
          (fun i _ hs => hs.edge i) mv hs
      case selfCheckExpires hrun =>
        have hstopped : s.pwc.selfCheck ≠ .stopped := by
          rintro h
          rw [h] at hrun
          cases hrun
        refine .powerConditions (s := s.setPwc { s.pwc with selfCheck := .runOut }) ?_ (hs.inputs.of_same rfl rfl)
        exact hs.power.of_same rfl rfl (by simp [hstopped]) fun _ => .refl _
      case supplyFalls => exact hs.supplyFalls
      case supplyReturns => exact hs.supplyReturns
      case measure mv => exact hs.measure mv
  always {W s t} a hs := by
    by_cases hw : ∀ b ∈ [Block.gauges, .inputs, .power], b ∉ W
    · exact hs.frame a.frame hw
    · cases a <;> simp [resetBlocks, tickBlocks] at hw
      case beginCause c => exact cycleSound_of_reset rfl rfl rfl
      case commandReset => exact cycleSound_of_reset rfl rfl rfl
      case tick => exact hs.tick

/-- Settles O56: every operation keeps the input records, and the ignition cycle that DI0 leads. -/
theorem everyStepKeepsCycleSound : Obligations.EveryStepKeepsCycleSound := by
  intro s t h
  simp only [inputsSound_iff, cycleSound_iff]
  exact ⟨inputsSound_kept.step h, cycleSound_kept.step h⟩

end Sys2Proof.Machine
end

section
/-! SUPPORT. The filter and curve stages (R16, R18): the quotient rounded to the nearest whole number, and that neither stage leaves
its range. -/
namespace Sys2Proof.Machine

/-! ### The rounded quotient (R18) -/

section quotient
variable {num k : Int} {den : Nat}

theorem roundQuotient_nonneg_bounds (h0 : 0 ≤ num) (hk : num ≤ k * den) (hden : 0 < den) :
    0 ≤ roundQuotient num den ∧ roundQuotient num den ≤ k := by
  have hpos : (0 : Int) < 2 * den := by omega
  unfold roundQuotient
  rw [if_pos h0]
  refine ⟨Int.ediv_nonneg (by omega) (by omega), Int.le_of_lt_add_one ((Int.ediv_lt_iff_lt_mul hpos).2 ?_)⟩
  calc 2 * num + den ≤ 2 * (k * den) + den := by omega
    _ < (k + 1) * (2 * den) := by ring_nf; omega

theorem roundQuotient_nonpos (h0 : num ≤ 0) (hden : 0 < den) : roundQuotient num den ≤ 0 := by
  unfold roundQuotient
  split
  · have hzero : num = 0 := by omega
    subst hzero
    have hhalf : (2 * (0 : Int) + den) / (2 * den) = 0 := Int.ediv_eq_zero_of_lt (by omega) (by omega)
    omega
  · have := Int.ediv_nonneg (a := 2 * -num + den) (b := 2 * den) (by omega) (by omega)
    omega

/-- R18: the quotient taken is the nearest whole number, a half going away from zero. -/
theorem roundQuotient_nearest (num : Int) (hden : 0 < den) : NearestQuotient num den (roundQuotient num den) := by
  have hpos : (0 : Int) < 2 * den := by omega
  have hround (n : Int) : 0 ≤ 2 * ((2 * n + den) / (2 * den) * den - n) + den ∧
      2 * ((2 * n + den) / (2 * den) * den - n) ≤ den ∧
      2 * ((2 * n + den) / (2 * den) * den - n) ≠ -den := by
    have hdiv := Int.mul_ediv_add_emod (2 * n + den) (2 * den)
    have hlo := Int.emod_nonneg (2 * n + den) (show (2 * den : Int) ≠ 0 by omega)
    have hhi := Int.emod_lt_of_pos (2 * n + den) hpos
    have hq : 2 * den * ((2 * n + den) / (2 * den)) = 2 * ((2 * n + den) / (2 * den) * den) := by ring
    omega
  unfold roundQuotient NearestQuotient
  split
  · next h0 =>
    obtain ⟨hlo, hhi, hne⟩ := hround num
    generalize (2 * num + den) / (2 * den) * (den : Int) = m at *
    omega
  · next h0 =>
    obtain ⟨hlo, hhi, hne⟩ := hround (-num)
    have hneg : -((2 * -num + den) / (2 * den)) * (den : Int) = -((2 * -num + den) / (2 * den) * den) := by ring
    rw [hneg]
    generalize (2 * -num + den) / (2 * den) * (den : Int) = m at *
    omega

end quotient

/-! ### The filter stage (R16) -/

/-- R16: F stays between where it was and the value. -/
theorem filterStage_le {shift x f limit : Nat} (hx : 256 * x ≤ limit) (hf : f ≤ limit) : filterStage shift x f ≤ limit := by
  have hden : (0 : Int) ≤ 2 ^ shift := by positivity
  have hdiff : ((256 * x : Int) - f).tdiv (2 ^ shift) ≤ max ((256 * x : Int) - f) 0 := by
    rcases le_total 0 ((256 * x : Int) - f) with h | h
    · exact (Int.tdiv_le_self _ h).trans (le_max_left _ _)
    · refine le_trans ?_ (le_max_right _ _)
      have hneg : ((256 * x : Int) - f).tdiv (2 ^ shift) = -((f - 256 * x : Int).tdiv (2 ^ shift)) := by
        rw [← Int.neg_tdiv]
        ring_nf
      have := Int.tdiv_nonneg (a := (f - 256 * x : Int)) (by omega) hden
      omega
  unfold filterStage
  omega

/-! ### The curve stage (R18) -/

section curve
variable {p q : Point} {v limit : Nat}

/-- R18: between two neighbouring points the target stays between theirs. -/
theorem interpolate_le (hp : p.a ≤ limit) (hq : q.a ≤ limit) (hlo : p.x ≤ v) (hhi : v < q.x) : interpolate p q v ≤ limit := by
  have hden : 0 < q.x - p.x := by omega
  have hround : roundQuotient (((v : Int) - p.x) * ((q.a : Int) - p.a)) (q.x - p.x) ≤ max ((q.a : Int) - p.a) 0 := by
    rcases le_total (p.a : Int) q.a with h | h
    · refine le_trans (roundQuotient_nonneg_bounds ?_ ?_ hden).2 (le_max_left _ _)
      · exact mul_nonneg (by omega) (by omega)
      · rw [mul_comm]
        exact mul_le_mul_of_nonneg_left (by omega) (by omega)
    · refine le_trans (roundQuotient_nonpos ?_ hden) (le_max_right _ _)
      exact mul_nonpos_of_nonneg_of_nonpos (by omega) (by omega)
  unfold interpolate
  omega

theorem targetFrom_le {rest : List Point} (hp : p.a ≤ limit) (hrest : ∀ q ∈ rest, q.a ≤ limit) (hlo : p.x ≤ v) :
    targetFrom p rest v ≤ limit := by
  induction rest generalizing p with
  | nil => exact hp
  | cons q rest ih =>
    unfold targetFrom
    split
    · next h => exact interpolate_le hp (hrest q (by simp)) hlo h
    · next h => exact ih (hrest q (by simp)) (fun r hr => hrest r (by simp [hr])) (by omega)

theorem curveTarget_le {curve : List Point} (h : ∀ q ∈ curve, q.a ≤ limit) : curveTarget curve v ≤ limit := by
  unfold curveTarget
  split
  · exact Nat.zero_le _
  · next p rest =>
    split
    · exact h p (by simp)
    · exact targetFrom_le (h p (by simp)) (fun q hq => h q (by simp [hq])) (by omega)

end curve

end Sys2Proof.Machine
end

section
/-! SUPPORT. A channel record within its ranges (`Channel.sound`): that every change its rules make of it keeps it so. -/
namespace Sys2Proof.Machine

/-! ### The parts of a sound channel -/

/-- R4 to R40: what `Channel.sound` asks, but that the active source is listed and holds a value. -/
structure Channel.InRange (c : Channel) : Prop where
  sweepLimit : 60 ≤ c.sweepLimit ∧ c.sweepLimit ≤ 3780
  vmax : 1 ≤ c.vmax ∧ c.vmax ≤ 12
  filterShift : c.filterShift ≤ 7
  sources : c.fallback ≠ some c.primary
  curve : CurveLegal c.sweepLimit c.curve
  valueD : valueSound c.valueD = true
  valueS : valueSound c.valueS = true
  valueR : valueSound c.valueR = true
  idle : c.active = none → c.filter = 0
  filter : c.filter ≤ 16776960
  target : c.target ≤ c.sweepLimit
  position : c.position ≤ c.sweepLimit
  speed : c.speed ≤ c.vmax
  overdrive : c.overdrive ≤ c.sweepLimit + 120
  homed : c.state = .homing ∨ c.overdrive = 0
  aim : c.targetSound = true
  walk : c.walkSound = true
  rest : c.mustRest = true → c.position = 0 ∧ c.speed = 0
  disabled : c.enabled = true ∨ (c.state = .unhomed ∧ c.valueD = none ∧ c.valueS = none ∧ c.valueR = none)

/-- R4 to R40: `Channel.sound`. -/
structure Channel.Sound (c : Channel) : Prop extends c.InRange where
  listed : ∀ a, c.active = some a → c.enabled = true ∧ c.lists a = true ∧ (c.value a).isSome = true

theorem Channel.sound_iff (c : Channel) : c.sound = true ↔ c.Sound := by
  simp only [Channel.sound, Bool.and_eq_true, Bool.or_eq_true, decide_eq_true_eq, Bool.not_eq_true', curvePasses_iff]
  constructor
  · rintro ⟨⟨⟨⟨⟨⟨⟨⟨⟨⟨⟨⟨⟨⟨⟨⟨⟨⟨⟨⟨hlo, hhi⟩, hv⟩, hv'⟩, hshift⟩, hsrc⟩, hcurve⟩, hd⟩, hs⟩, hr⟩, hact⟩, hf⟩, ht⟩, hp⟩, hsp⟩, ho⟩, hh⟩, haim⟩, hw⟩, hrest⟩, hdis⟩
    refine ⟨⟨⟨hlo, hhi⟩, ⟨hv, hv'⟩, hshift, hsrc, hcurve, hd, hs, hr, fun h => ?_, hf, ht, hp, hsp, ho, hh, haim, hw,
      fun h => hrest.resolve_left (by simp [h]), by tauto⟩, fun a h => ?_⟩
    · rw [h] at hact; simpa using hact
    · rw [h] at hact; simpa [and_assoc] using hact
  · rintro ⟨⟨⟨hlo, hhi⟩, ⟨hv, hv'⟩, hshift, hsrc, hcurve, hd, hs, hr, hidle, hf, ht, hp, hsp, ho, hh, haim, hw, hrest, hdis⟩, hact⟩
    refine ⟨⟨⟨⟨⟨⟨⟨⟨⟨⟨⟨⟨⟨⟨⟨⟨⟨⟨⟨⟨hlo, hhi⟩, hv⟩, hv'⟩, hshift⟩, hsrc⟩, hcurve⟩, hd⟩, hs⟩, hr⟩, ?_⟩, hf⟩, ht⟩, hp⟩, hsp⟩, ho⟩, hh⟩, haim⟩, hw⟩, ?_⟩, by tauto⟩
    · cases ha : c.active with
      | none => simpa using hidle ha
      | some a => simpa [and_assoc] using hact a ha
    · cases hm : c.mustRest
      · exact .inl rfl
      · exact .inr (hrest hm)

/-! ### The walk of the coils (R31) -/

section walk

theorem phaseWalk_lt (start goal : Nat) : (phaseWalk start goal).all (· < 48) = true := by
  have hlt (n : Nat) : phaseOf n < 48 := Nat.mod_lt _ (by decide)
  unfold phaseWalk
  split <;> simp [hlt]

/-- R31: a walk ends at the phase index it goes to. -/
theorem phaseWalk_last (start goal : Nat) :
    phaseWalk start goal = [] ∨ (phaseWalk start goal).getLast? = some (phaseOf goal) := by
  unfold phaseWalk
  split
  · next h =>
    obtain ⟨n, rfl⟩ := Nat.exists_eq_add_of_le h
    rw [Nat.add_sub_cancel_left]
    cases n with
    | zero => exact .inl rfl
    | succ n => right; simp [List.range_succ, Nat.add_assoc]
  · next h =>
    obtain ⟨n, rfl⟩ := Nat.exists_eq_add_of_lt (not_le.1 h)
    right
    rw [show goal + n + 1 - goal = n + 1 by omega]
    simp [List.range_succ, Nat.add_assoc]

theorem Channel.walkSound_phaseWalk {c : Channel} {start goal : Nat} (hcoils : c.coils = .energized (phaseOf goal))
    (hwalk : c.walk = phaseWalk start goal) : c.walkSound = true := by
  unfold walkSound
  rw [hcoils, hwalk]
  simpa [phaseWalk_lt] using phaseWalk_last start goal

theorem Channel.walkSound_nil {c : Channel} (h : c.walk = []) : c.walkSound = true := by
  unfold walkSound
  split <;> simp [h]

end walk

/-! ### Selection and configuration -/

section select
variable {c : Channel} (live : Source → Bool)

/-- R9: the source selected is listed, LIVE and holds a value. -/
theorem Channel.select_some {a : Source} (h : c.select live = some a) :
    c.enabled = true ∧ c.lists a = true ∧ live a = true ∧ (c.value a).isSome = true := by
  unfold select at h
  split at h
  · next he =>
    split at h
    · next hp =>
      simp only [Bool.and_eq_true] at hp
      cases h
      exact ⟨he, by simp [lists], hp.1, hp.2⟩
    · split at h
      · next f hf =>
        split at h
        · next hl =>
          simp only [Bool.and_eq_true] at hl
          cases h
          exact ⟨he, by simp [lists, hf], hl.1, hl.2⟩
        · cases h
      · cases h
  · cases h

@[simp] theorem Channel.reselect_active : (c.reselect live).active = c.select live := by
  unfold reselect
  split
  · next h => exact h.symm
  · rfl

/-- R11: whatever else a selection changes, on an entry to NO_SIGNAL. -/
theorem Channel.reselect_eq : c.reselect live = if c.active.isSome ∧ c.select live = none then
    { c with active := none, filter := 0, target := if c.state = .tracking then 0 else c.target }
    else { c with active := c.select live } := by
  unfold reselect
  cases ha : c.active <;> cases hs : c.select live <;> simp

/-- R9 to R13: the selection made again leaves a channel sound, whatever its active source was. -/
theorem Channel.InRange.reselect (h : c.InRange) : (c.reselect live).Sound := by
  have hlisted (a : Source) (ha : (c.reselect live).active = some a) :
      (c.reselect live).enabled = true ∧ (c.reselect live).lists a = true ∧ ((c.reselect live).value a).isSome = true := by
    rw [reselect_active] at ha
    obtain ⟨he, hl, -, hv⟩ := select_some live ha
    rw [Channel.reselect_eq]
    split <;> exact ⟨he, hl, by cases a <;> exact hv⟩
  refine ⟨?_, hlisted⟩
  have haim := h.aim
  rw [Channel.reselect_eq]
  split
  · refine { h with idle := fun _ => rfl, filter := Nat.zero_le _, target := ?_, aim := ?_ }
    · dsimp only
      split
      · exact Nat.zero_le _
      · exact h.target
    · unfold targetSound at haim ⊢
      cases hc : c.state <;> simp_all
  · next hno =>
    refine { h with idle := fun hnone => ?_, aim := ?_ }
    · have hnone' : c.select live = none := hnone
      exact h.idle (by simpa [hnone'] using hno)
    · unfold targetSound at haim ⊢
      cases hc : c.state <;> simp_all
      rcases haim with ha | ha
      · exact .inl (by
          by_contra hne
          exact hno ha (by simpa using hne))
      · exact .inr ha

/-- R6, R7: a value stored or discarded. -/
theorem Channel.InRange.store (h : c.InRange) (a : Source) {v : Option Nat} (hv : valueSound v = true)
    (hlisted : v = none ∨ c.enabled = true) : (c.store a v).InRange := by
  have hdis : c.enabled = true ∨ (c.state = .unhomed ∧ v = none ∧ c.valueD = none ∧ c.valueS = none ∧ c.valueR = none) := by
    rcases h.disabled with he | he
    · exact .inl he
    · exact hlisted.symm.imp_right fun hn => ⟨he.1, hn, he.2⟩
  cases a with
  | portD => exact { h with valueD := hv, disabled := hdis.imp_right fun ⟨hs, hn, _, h2, h3⟩ => ⟨hs, hn, h2, h3⟩ }
  | portS => exact { h with valueS := hv, disabled := hdis.imp_right fun ⟨hs, hn, h1, _, h3⟩ => ⟨hs, h1, hn, h3⟩ }
  | recorder => exact { h with valueR := hv, disabled := hdis.imp_right fun ⟨hs, hn, h1, h2, _⟩ => ⟨hs, h1, h2, hn⟩ }

theorem sourceListOfArgs_distinct {args : ChannelArgs} {a : Source} {b : Option Source}
    (h : sourceListOfArgs args = some (a, b)) : b ≠ some a := by
  unfold sourceListOfArgs at h
  split at h
  · simp only [Option.map_eq_some_iff, Prod.mk.injEq] at h
    obtain ⟨_, _, -, rfl⟩ := h
    simp
  · split at h
    · split at h
      · cases h
      · next hne =>
        cases h
        simpa [eq_comm] using hne
    · cases h
  · cases h

/-- R21: what check 3 and the clamps make sure of. -/
theorem channelConfigOf_bounds {args : ChannelArgs} {k : ChannelConfig} (h : channelConfigOf args = some k) :
    (60 ≤ k.sweepLimit ∧ k.sweepLimit ≤ 3780) ∧ (1 ≤ k.vmax ∧ k.vmax ≤ 12) ∧ k.filterShift ≤ 7 ∧
      k.fallback ≠ some k.primary := by
  unfold channelConfigOf at h
  split at h
  · next hlist =>
    cases h
    exact ⟨clamp_bounds (by decide) _, clamp_bounds (by decide) _, (clamp_bounds (by decide) _).2,
      sourceListOfArgs_distinct hlist⟩
  · cases h

/-- R21, R22: what the checks of a request have made sure of. -/
structure ChannelConfig.Passes (k : ChannelConfig) (c : Channel) : Prop where
  sweepLimit : 60 ≤ k.sweepLimit ∧ k.sweepLimit ≤ 3780
  vmax : 1 ≤ k.vmax ∧ k.vmax ≤ 12
  filterShift : k.filterShift ≤ 7
  sources : k.fallback ≠ some k.primary
  rest : k.enabled = true → c.state = .unhomed ∨ c.state = .parked
  curve : ∀ q ∈ c.curve, q.a ≤ k.sweepLimit

/-- R22, R44: the new settings, on a channel that the request leaves or makes resting. -/
theorem Channel.InRange.withConfig (h : c.InRange) {k : ChannelConfig} (hk : k.Passes c) (he : k.enabled = true) :
    (c.withConfig k).InRange := by
  have hrest : c.position = 0 ∧ c.speed = 0 := h.rest (by rcases hk.rest he with hs | hs <;> simp [mustRest, hs])
  have htarget : c.target = 0 := by
    have haim := h.aim
    unfold targetSound at haim
    rcases hk.rest he with hs | hs <;> simpa [hs] using haim
  have hoverdrive : c.overdrive = 0 := h.homed.resolve_left (by rcases hk.rest he with hs | hs <;> simp [hs])
  have haim : (c.withConfig k).targetSound = true := by
    show (match c.state with
      | .unhomed | .homing | .parked | .parking | .sweepDown => c.target = 0
      | .sweepUp => c.target = k.sweepLimit
      | .tracking => c.active.isSome || c.target = 0 : Bool) = true
    rcases hk.rest he with hs | hs <;> simp [hs, htarget]
  exact { h with
    sweepLimit := hk.sweepLimit, vmax := hk.vmax, filterShift := hk.filterShift, sources := hk.sources
    curve := ⟨h.curve.1, h.curve.2.1, h.curve.2.2.1, hk.curve⟩
    target := by rw [show (c.withConfig k).target = 0 from htarget]; exact Nat.zero_le _
    position := by rw [show (c.withConfig k).position = 0 from hrest.1]; exact Nat.zero_le _
    speed := by rw [show (c.withConfig k).speed = 0 from hrest.2]; exact Nat.zero_le _
    overdrive := by rw [show (c.withConfig k).overdrive = 0 from hoverdrive]; exact Nat.zero_le _
    aim := haim, disabled := .inl he }

theorem Channel.InRange.keepListed (h : c.InRange) (he : c.enabled = true) : c.keepListed.InRange := by
  have hvalue (b : Bool) {v : Option Nat} (hv : valueSound v = true) : valueSound (if b then v else none) = true := by
    cases b
    · rfl
    · exact hv
  exact { h with valueD := hvalue _ h.valueD, valueS := hvalue _ h.valueS, valueR := hvalue _ h.valueR, disabled := .inl he }

/-- R32, R34: a channel that begins to home stands at 0 with its coils at the index of the whole overdrive. -/
theorem Channel.InRange.enterHoming (h : c.InRange) (he : c.enabled = true) : c.enterHoming.InRange :=
  { h with target := Nat.zero_le _, position := Nat.zero_le _, speed := Nat.zero_le _, overdrive := le_refl _,
           homed := .inl rfl, aim := rfl, walk := walkSound_nil rfl, rest := fun _ => ⟨rfl, rfl⟩, disabled := .inl he }

theorem Channel.InRange.configure (h : c.InRange) (cycle : Bool) {k : ChannelConfig} (hk : k.Passes c) :
    (c.configure cycle k).InRange := by
  unfold Channel.configure
  split
  · next he =>
    have hset := h.withConfig hk he
    split
    · exact hset.keepListed he
    · split
      · exact hset.enterHoming he
      · exact hset
  · exact { h with
      sweepLimit := hk.sweepLimit, vmax := hk.vmax, filterShift := hk.filterShift, sources := hk.sources
      curve := ⟨h.curve.1, h.curve.2.1, h.curve.2.2.1, hk.curve⟩
      valueD := rfl, valueS := rfl, valueR := rfl, idle := fun _ => rfl, filter := Nat.zero_le _, target := Nat.zero_le _
      position := Nat.zero_le _, speed := Nat.zero_le _, overdrive := Nat.zero_le _, homed := .inr rfl, aim := rfl
      walk := walkSound_nil rfl, rest := fun _ => ⟨rfl, rfl⟩, disabled := .inr ⟨rfl, rfl, rfl, rfl⟩ }

end select

/-! ### The filter and the motion law -/

section motion
variable {c : Channel}

theorem Channel.InRange.filterUpdate (h : c.InRange) : c.filterUpdate.InRange := by
  unfold Channel.filterUpdate
  split
  · next x hstate hvalue =>
    have hx : x ≤ 65535 := by
      unfold activeValue at hvalue
      cases ha : c.active with
      | none => simp [ha] at hvalue
      | some a =>
        rw [ha] at hvalue
        have hsound : valueSound (c.value a) = true := by
          cases a
          · exact h.valueD
          · exact h.valueS
          · exact h.valueR
        rw [show c.value a = some x from hvalue] at hsound
        simpa [valueSound] using hsound
    have hactive : c.active.isSome = true := by
      unfold activeValue at hvalue
      cases ha : c.active <;> simp_all
    refine { h with idle := fun hn => ?_, filter := filterStage_le (by omega) h.filter,
                    target := curveTarget_le h.curve.2.2.2, aim := ?_ }
    · have hn' : c.active = none := hn
      simp [hn'] at hactive
    · simp [targetSound, hstate, hactive]
  · exact h

/-- R30: a move ends within the sweep limit. -/
theorem Channel.travel_bounds (n : Nat) {speed limit : Nat} (hp : c.position ≤ c.sweepLimit) (hs : speed ≤ limit) :
    (c.travel n speed).position ≤ c.sweepLimit ∧ (c.travel n speed).speed ≤ limit := by
  unfold travel
  split
  · split
    · exact ⟨le_refl _, Nat.zero_le _⟩
    · exact ⟨by simp only; omega, hs⟩
  · split
    · exact ⟨Nat.zero_le _, Nat.zero_le _⟩
    · exact ⟨by simp only; omega, hs⟩

theorem Channel.candidate_le {r v : Nat} (h : c.candidate r = some v) (hs : c.speed ≤ c.vmax) : v ≤ c.vmax := by
  have hmem := List.mem_of_find?_eq_some h
  simp only [candidates, List.mem_cons, List.not_mem_nil, or_false] at hmem
  omega

theorem Channel.move_bounds (hp : c.position ≤ c.sweepLimit) (hs : c.speed ≤ c.vmax) :
    c.move.position ≤ c.sweepLimit ∧ c.move.speed ≤ c.vmax := by
  unfold move
  split
  · exact ⟨hp, Nat.zero_le _⟩
  · split
    · exact travel_bounds _ hp (by omega)
    · split
      · next v hv => exact travel_bounds (c := { c with direction := c.toward }) _ hp (candidate_le hv hs)
      · exact travel_bounds (c := { c with direction := c.toward }) _ hp (by omega)

/-- What a move leaves of a channel. -/
theorem Channel.move_eq : ∃ p n d, c.move = { c with position := p, speed := n, direction := d } := by
  have htravel (d : Channel) (n speed : Nat) : ∃ p m, d.travel n speed = { d with position := p, speed := m } := by
    unfold travel
    split <;> split <;> exact ⟨_, _, rfl⟩
  unfold move
  split
  · exact ⟨_, _, _, rfl⟩
  · split
    · obtain ⟨p, m, h⟩ := htravel c (c.speed - 1) (c.speed - 1)
      exact ⟨p, m, _, h⟩
    · split
      · next v _ =>
        obtain ⟨p, m, h⟩ := htravel { c with direction := c.toward } (min v c.distance.natAbs) v
        exact ⟨p, m, _, h⟩
      · obtain ⟨p, m, h⟩ := htravel { c with direction := c.toward } (c.speed - 1) (c.speed - 1)
        exact ⟨p, m, _, h⟩

theorem Channel.InRange.stepped (h : c.InRange) (hmoves : c.mustRest = false) : c.stepped.InRange := by
  obtain ⟨hp, hs⟩ := move_bounds h.position h.speed
  obtain ⟨p, n, d, hmove⟩ := c.move_eq
  unfold Channel.stepped
  rw [hmove] at hp hs ⊢
  refine { h with position := hp, speed := hs, walk := ?_, rest := fun hm => ?_ }
  · refine walkSound_phaseWalk (start := c.position) (goal := p) ?_ rfl
    unfold mustRest at hmoves
    unfold coils
    cases hc : c.state <;> simp_all
  · have hm' : c.mustRest = true := hm
    rw [hmoves] at hm'
    cases hm'

theorem Channel.enterTracking_targetSound (c : Channel) : c.enterTracking.targetSound = true := by
  cases ha : c.active with
  | none => simp [targetSound, enterTracking, ha]
  | some a => simp [targetSound, enterTracking, ha]

/-- R36, R39: an arrival. -/
theorem Channel.InRange.onArrival (h : c.InRange) (harrived : c.distance = 0 ∧ c.speed = 0) : c.onArrival.InRange := by
  have haim := h.aim
  have hwalk := h.walk
  unfold Channel.onArrival
  split
  · next hs =>
    refine { h with target := Nat.zero_le _, homed := .inr (h.homed.resolve_left (by simp [hs])), aim := rfl, walk := ?_,
                    rest := fun hm => by simp [mustRest] at hm, disabled := ?_ }
    · unfold walkSound coils at hwalk ⊢
      simpa [hs] using hwalk
    · exact .inl (h.disabled.resolve_right (by simp [hs]))
  · next hs =>
    refine { h with target := ?_, homed := .inr (h.homed.resolve_left (by simp [hs])), aim := ?_, walk := ?_,
                    rest := fun hm => by simp [mustRest, enterTracking] at hm, disabled := ?_ }
    · unfold enterTracking
      dsimp only
      split
      · exact Nat.zero_le _
      · exact h.target
    · exact enterTracking_targetSound c
    · unfold walkSound coils at hwalk ⊢
      simpa [hs, enterTracking] using hwalk
    · exact .inl (h.disabled.resolve_right (by simp [hs]))
  · next hs =>
    have htarget : c.target = 0 := by simpa [targetSound, hs] using haim
    have hposition : c.position = 0 := by
      have hd := harrived.1
      unfold distance at hd
      omega
    exact { h with homed := .inr (h.homed.resolve_left (by simp [hs])), aim := by simp [targetSound, htarget]
                   walk := walkSound_nil rfl, rest := fun _ => ⟨hposition, harrived.2⟩
                   disabled := .inl (h.disabled.resolve_right (by simp [hs])) }
  · exact h
  all_goals exact h

/-- R33, R35: a channel at rest at 0 that begins to sweep or to track. -/
theorem Channel.InRange.sweepOrTrack (h : c.InRange) (hoverdrive : c.overdrive = 0) (he : c.enabled = true)
    (hwalk : ∀ s : ChannelState, s = .sweepUp ∨ s = .tracking → Channel.walkSound { c with state := s } = true) :
    c.sweepOrTrack.InRange := by
  unfold Channel.sweepOrTrack
  split
  · exact { h with target := le_refl _, homed := .inr hoverdrive, aim := by simp [targetSound, enterSweepUp]
                   walk := hwalk _ (.inl rfl), rest := fun hm => by simp [mustRest, enterSweepUp] at hm, disabled := .inl he }
  · refine { h with target := ?_, homed := .inr hoverdrive, aim := ?_
                    walk := hwalk _ (.inr rfl), rest := fun hm => by simp [mustRest, enterTracking] at hm, disabled := .inl he }
    · unfold enterTracking
      dsimp only
      split
      · exact Nat.zero_le _
      · exact h.target
    · exact enterTracking_targetSound c

/-- R35: the overdrive runs down, the coils with it, and the channel is homed as it reaches 0. -/
theorem Channel.InRange.homingStep (h : c.InRange) (hs : c.state = .homing) : c.homingStep.InRange := by
  have he : c.enabled = true := h.disabled.resolve_right (by simp [hs])
  have hrest := h.rest (by simp [mustRest, hs])
  let left := c.overdrive - min 4 c.overdrive
  let d : Channel := { c with overdrive := left, walk := phaseWalk c.overdrive left }
  have hd : d.InRange := { h with
    overdrive := (Nat.sub_le _ _).trans h.overdrive, homed := .inl hs, walk := walkSound_phaseWalk (start := c.overdrive)
      (goal := left) (by simp [d, coils, hs]) rfl }
  have hstep : c.homingStep = if left = 0 then ({ d with direction := .up } : Channel).sweepOrTrack else d := rfl
  rw [hstep]
  split
  · next h0 =>
    refine InRange.sweepOrTrack { hd with } h0 he fun s hsw => ?_
    refine walkSound_phaseWalk (start := c.overdrive) (goal := left) ?_ rfl
    have hposition : d.position = 0 := hrest.1
    rcases hsw with rfl | rfl <;> simp [coils, hposition, h0]
  · exact hd

theorem Channel.InRange.interval (h : c.InRange) : c.interval.InRange := by
  have hmoved (hm : c.mustRest = false) : (if c.arrives then c.stepped.onArrival else c.stepped).InRange := by
    have hst := h.stepped hm
    split
    · next ha =>
      refine hst.onArrival ?_
      have hmove : c.move = { c with speed := 0 } := by simp [move, ha]
      simp only [arrives, Bool.and_eq_true, decide_eq_true_eq] at ha
      unfold Channel.stepped
      rw [hmove]
      exact ⟨ha.1, rfl⟩
    · exact hst
  unfold Channel.interval
  cases hs : c.state
  case homing => exact h.homingStep hs
  case unhomed => exact h
  case parked => exact h
  all_goals exact hmoved (by simp [mustRest, hs])

theorem Channel.InRange.onRunCheck (h : c.InRange) : c.onRunCheck.InRange := by
  have hwalk := h.walk
  unfold Channel.onRunCheck
  split
  · next he =>
    split
    · exact h.enterHoming he
    · next hs =>
      refine h.sweepOrTrack (h.homed.resolve_left (by simp [hs])) he fun s _ => walkSound_nil ?_
      simpa [walkSound, coils, hs] using hwalk
    · next hs =>
      refine h.sweepOrTrack (h.homed.resolve_left (by simp [hs])) he fun s hsw => ?_
      unfold walkSound coils at hwalk ⊢
      rcases hsw with rfl | rfl <;> simpa [hs] using hwalk
    all_goals exact h
  · exact h

theorem Channel.InRange.onIgnitionOff (h : c.InRange) : c.onIgnitionOff.InRange := by
  have hwalk := h.walk
  have hpark (hs : c.state = .tracking ∨ c.state = .sweepUp ∨ c.state = .sweepDown) :
      Channel.InRange { c with state := .parking, target := 0 } := by
    refine { h with target := Nat.zero_le _, homed := .inr (h.homed.resolve_left ?_), aim := rfl, walk := ?_,
                    rest := fun hm => by simp [mustRest] at hm, disabled := .inl (h.disabled.resolve_right ?_) }
    · rcases hs with hs | hs | hs <;> simp [hs]
    · unfold walkSound coils at hwalk ⊢
      rcases hs with hs | hs | hs <;> simpa [hs] using hwalk
    · rcases hs with hs | hs | hs <;> simp [hs]
  unfold Channel.onIgnitionOff
  split
  · next hs => exact hpark (.inl hs)
  · next hs => exact hpark (.inr (.inl hs))
  · next hs => exact hpark (.inr (.inr hs))
  · next hs =>
    exact { h with target := Nat.zero_le _, position := Nat.zero_le _, speed := Nat.zero_le _, overdrive := Nat.zero_le _
                   homed := .inr rfl, aim := rfl, walk := walkSound_nil rfl, rest := fun _ => ⟨rfl, rfl⟩
                   disabled := .inl (h.disabled.resolve_right (by simp [hs])) }
  all_goals exact h

theorem Channel.InRange.onSupplyLow (h : c.InRange) : c.onSupplyLow.InRange := by
  have hquiet : Channel.InRange { c with walk := [] } := { h with walk := walkSound_nil rfl }
  have hstopped : Channel.InRange { c with speed := 0, walk := [] } :=
    { h with walk := walkSound_nil rfl, speed := Nat.zero_le _, rest := fun hm => ⟨(h.rest hm).1, rfl⟩ }
  unfold Channel.onSupplyLow
  split
  iterate 4 exact hstopped
  iterate 3 exact hquiet

/-- A channel whose configuration, values and active source stand keeps its active source listed. -/
theorem Channel.Sound.of_same {d : Channel} (h : c.Sound) (hd : d.InRange) (hsame : c.SameSignal d) : d.Sound := by
  refine ⟨hd, fun a ha => ?_⟩
  obtain ⟨he, hl, hv⟩ := h.listed a (hsame.active.symm.trans ha)
  refine ⟨hsame.enabled.trans he, ?_, ?_⟩
  · simpa [lists, hsame.primary, hsame.fallback] using hl
  · cases a <;> simpa [value, hsame.valueD, hsame.valueS, hsame.valueR] using hv

end motion

end Sys2Proof.Machine
end

section
/-! CERTIFICATE. O55: the channels within their ranges (`State.gaugesSound`), on the first LIVE source of their list that holds a
value (`State.sourcesFollowed`), and the window shut at speed (`State.windowSound`), whatever the part does. -/
namespace Sys2Proof.Machine

/-! ### Channels within their ranges -/

/-- `State.gaugesSound`. -/
structure GaugesSound (s : State) : Prop where
  sound : ∀ i, (s.ge.channels.get i).Sound
  still : s.pwc.supplyLow = true → ∀ i, (s.ge.channels.get i).walk = []

theorem gaugesSound_iff (s : State) : s.gaugesSound = true ↔ GaugesSound s := by
  simp only [State.gaugesSound, Tab.all_iff, Bool.and_eq_true, Bool.or_eq_true, Bool.not_eq_true', decide_eq_true_eq,
    Channel.sound_iff]
  constructor
  · exact fun h => ⟨fun i => (h i).1, fun hl i => (h i).2.resolve_left (by simp [hl])⟩
  · intro h i
    refine ⟨h.sound i, ?_⟩
    cases hl : s.pwc.supplyLow
    · exact .inl rfl
    · exact .inr (h.still hl i)

/-- A change of a channel that keeps it sound, and its coils still where they were. -/
structure Channel.KeptSound (c d : Channel) : Prop where
  sound : c.Sound → d.Sound
  still : c.walk = [] → d.walk = []

section keptSound
variable {c d e : Channel}

theorem Channel.KeptSound.refl (c : Channel) : c.KeptSound c := ⟨id, id⟩

theorem Channel.KeptSound.trans (h : c.KeptSound d) (h' : d.KeptSound e) : c.KeptSound e :=
  ⟨h'.sound ∘ h.sound, h'.still ∘ h.still⟩

theorem Channel.dropPending_keptSound (c : Channel) : c.KeptSound c.dropPending := ⟨fun h => { h with }, id⟩

theorem Channel.select_walk (live : Source → Bool) (c : Channel) : (c.reselect live).walk = c.walk := by
  rw [reselect_eq]
  split <;> rfl

theorem Channel.store_reselect_keptSound (c : Channel) (live : Source → Bool) (a : Source) {v : Option Nat}
    (hv : valueSound v = true) (hlisted : v = none ∨ c.enabled = true) : c.KeptSound ((c.store a v).reselect live) :=
  ⟨fun h => (h.store a hv hlisted).reselect live, fun h => by rw [select_walk]; cases a <;> exact h⟩

theorem Channel.filterUpdate_keptSound (c : Channel) : c.KeptSound c.filterUpdate :=
  ⟨fun h => h.of_same h.filterUpdate c.filterUpdate_sameSignal, fun h => by unfold filterUpdate; split <;> exact h⟩

theorem Channel.sweepOrTrack_walk (c : Channel) : c.sweepOrTrack.walk = c.walk := by
  unfold sweepOrTrack
  split <;> rfl

theorem Channel.onRunCheck_keptSound (c : Channel) : c.KeptSound c.onRunCheck := by
  refine ⟨fun h => h.of_same h.onRunCheck c.onRunCheck_sameSignal, fun h => ?_⟩
  unfold onRunCheck
  split
  · split
    · rfl
    · exact (sweepOrTrack_walk c).trans h
    · exact (sweepOrTrack_walk c).trans h
    all_goals exact h
  · exact h

theorem Channel.onIgnitionOff_keptSound (c : Channel) : c.KeptSound c.onIgnitionOff := by
  refine ⟨fun h => h.of_same h.onIgnitionOff c.onIgnitionOff_sameSignal, fun h => ?_⟩
  unfold onIgnitionOff
  split
  case h_4 => rfl
  all_goals exact h

@[simp] theorem Channel.onSupplyLow_walk (c : Channel) : c.onSupplyLow.walk = [] := by
  unfold onSupplyLow
  split <;> rfl

/-- R22: a request that has passed its checks. -/
theorem Channel.configure_keptSound (c : Channel) (cycle : Bool) (live : Source → Bool) {k : ChannelConfig} (hk : k.Passes c) :
    c.KeptSound ((c.configure cycle k).reselect live) := by
  refine ⟨fun h => (h.configure cycle hk).reselect live, fun h => ?_⟩
  rw [select_walk]
  unfold configure
  split
  · split
    · exact h
    · split
      · rfl
      · exact h
  · rfl

end keptSound

section gauges
variable {s t : State}

theorem GaugesSound.of_channels (hs : GaugesSound s) (hlow : t.pwc.supplyLow = s.pwc.supplyLow)
    (h : ∀ i, (s.ge.channels.get i).KeptSound (t.ge.channels.get i)) : GaugesSound t :=
  ⟨fun i => (h i).sound (hs.sound i), fun hl i => (h i).still (hs.still (hlow ▸ hl) i)⟩

theorem GaugesSound.frame (hs : GaugesSound s) {W : List Block} (h : OnlyChanges W s t)
    (hW : ∀ b ∈ [Block.gauges, .power], b ∉ W) : GaugesSound t :=
  hs.of_channels (by rw [h.pwc (hW _ (by simp))]) fun i => by rw [h.ge (hW _ (by simp))]; exact .refl _

/-- The power changed, and not the supply. -/
theorem GaugesSound.setPwc (hs : GaugesSound s) {w : Power} (hlow : w.supplyLow = s.pwc.supplyLow) : GaugesSound (s.setPwc w) :=
  hs.of_channels hlow fun _ => .refl _

theorem GaugesSound.mapChannels (hs : GaugesSound s) {f : Channel → Channel} (hf : ∀ c : Channel, c.KeptSound (f c))
    {g : GaugeEngine} (hg : g.channels = s.ge.channels.map f) : GaugesSound (s.setGe g) := by
  refine hs.of_channels rfl fun i => ?_
  show (s.ge.channels.get i).KeptSound (g.channels.get i)
  rw [hg, Tab.get_map]
  exact hf _

theorem GaugesSound.modifyChannel (hs : GaugesSound s) (i : Fin 8) {f : Channel → Channel}
    (hf : (s.ge.channels.get i).KeptSound (f (s.ge.channels.get i))) : GaugesSound (modifyChannel i f s) := by
  refine hs.of_channels rfl fun j => ?_
  show (s.ge.channels.get j).KeptSound ((s.ge.channels.modify i f).get j)
  rw [Tab.get_modify]
  split
  · next h => subst h; exact hf
  · exact .refl _

theorem closeWindow_keptSound (s : State) (i : Fin 8) : (s.ge.channels.get i).KeptSound ((closeWindow s).ge.channels.get i) := by
  rcases closeWindow_channel i s with h | h <;> rw [h]
  · exact .refl _
  · exact Channel.dropPending_keptSound _

theorem handSpeed_keptSound (old : Option Nat) (s : State) (i : Fin 8) :
    (s.ge.channels.get i).KeptSound ((handSpeed old s).ge.channels.get i) := by
  rcases handSpeed_channel i old s with h | h <;> rw [h]
  · exact .refl _
  · exact Channel.dropPending_keptSound _

theorem GaugesSound.closeWindow (hs : GaugesSound s) : GaugesSound (closeWindow s) :=
  hs.of_channels (by simp) (closeWindow_keptSound s)

theorem GaugesSound.gaugeSelect (hs : GaugesSound s) (c : Fin 8 → Bool) (a : Source) {v : Option Nat}
    (hv : valueSound v = true) (hlisted : ∀ i, c i = true → v = none ∨ (s.ge.channels.get i).enabled = true) :
    GaugesSound (gaugeSelect c (Channel.store a v) s) := by
  refine hs.of_channels (by simp) fun i => Channel.KeptSound.trans ?_ (handSpeed_keptSound _ _ i)
  simp only [postAll_ge, State.setGe_ge, Tab.get_mapIdx]
  split
  · next hc => exact Channel.store_reselect_keptSound _ _ a hv (hlisted i hc)
  · exact .refl _

theorem GaugesSound.silenceSource (hs : GaugesSound s) (a : Source) {other : State → State}
    (hframe : ∀ s, OnlyChanges [.lamps, .chimes, .events] s (other s)) : GaugesSound (silenceSource a other s) :=
  (hs.gaugeSelect (fun _ => true) a rfl fun _ _ => .inl rfl).frame (withGaugeUpdate_frame _ hframe) (by decide)

theorem GaugesSound.silencePort (hs : GaugesSound s) (p : Port) : GaugesSound (silencePort p s) := by
  have htold : GaugesSound (post .sourceSilent (portSource p).code (s.setPort p { s.port p with live := false, timer := none })) :=
    (hs.frame (setLive_frame p s false none) (by decide)).frame (post_frame _ _ _) (by decide)
  cases p
  · exact htold.silenceSource _ fun s => lampUpdate_frame s _
  · exact htold.closeWindow.silenceSource _ fun s => lampUpdate_frame s _

theorem GaugesSound.loseLink (hs : GaugesSound s) : GaugesSound (loseLink s) := by
  have hset := hs.frame (setRlu_frame s { s.rlu with live := false, timer := none, vehicle := s.rlu.vehicle.hold }) (by decide)
  have hlost := (hset.frame (post_frame _ .sourceSilent Source.recorder.code) (by decide)).silenceSource .recorder
    (other := discardRecorder) fun s => lampUpdate_frame s _
  exact hlost.frame (setAau_frame _ _) (by decide)

theorem GaugesSound.channelShown (hs : GaugesSound s) {k : ChannelConfig} (hk : k.Passes (s.ge.channels.get k.channel)) :
    GaugesSound (channelShown k s) := by
  have hplaced : GaugesSound (s.setGe { s.ge with channels := s.ge.channels.set k.channel (configured k s) }) := by
    refine hs.of_channels rfl fun i => ?_
    show (s.ge.channels.get i).KeptSound ((s.ge.channels.set k.channel (configured k s)).get i)
    rw [Tab.get_set]
    split
    · next h => subst h; exact Channel.configure_keptSound _ _ _ hk
    · exact .refl _
  have hposted := hplaced.frame (postSignalChange_frame _ k.channel (s.ge.channels.get k.channel) (configured k s)) (by decide)
  have htold : GaugesSound (channelTold k s) := hposted.of_channels (congrArg Power.supplyLow ((handSpeed_frame _ _).pwc (by decide))) (handSpeed_keptSound _ _)
  exact htold.frame (formGaugeAny_frame _ _) (by decide)

theorem gaugesSound_passages : PassagesKeep GaugesSound where
  flag s b hs := hs.setPwc rfl
  runEntry s _ hs := hs.of_channels (by simp) fun i => by rw [(runEntry_frame s).ge (by decide)]; exact .refl _
  parkingDone s _ hs := hs.of_channels (by simp) fun i => by rw [(parkingDone_frame s).ge (by decide)]; exact .refl _
  enterRunCheck s _ hs := hs.of_channels (by simp) fun i => by
    rw [enterRunCheck_channels, Tab.get_map]; exact Channel.onRunCheck_keptSound _
  leaveCycle s _ hs := hs.of_channels (by simp) fun i => by
    rw [leaveCycle_channels, Tab.get_map]; exact Channel.onIgnitionOff_keptSound _

theorem GaugesSound.edge (hs : GaugesSound s) (i : Fin 12) : GaugesSound (edge i s) :=
  gaugesSound_passages.edge (fun i s hs => hs.frame (edgeTold_frame s i) (by decide))
    (fun _ _ hs => hs.frame (lampUpdate_frame _ _) (by decide)) i hs

/-- R26, R42: an interval moves the channels while the supply is not low. -/
theorem GaugesSound.movedOn (hs : GaugesSound s) (hlow : s.pwc.supplyLow = false) : GaugesSound (movedOn s) := by
  refine ⟨fun i => ?_, fun hl => ?_⟩
  · rw [movedOn_channels, Tab.get_map]
    exact (hs.sound i).of_same (hs.sound i).interval (Channel.interval_sameSignal _)
  · rw [(movedOn_frame s).pwc (by decide), hlow] at hl
    cases hl

theorem GaugesSound.supplyFalls (hs : GaugesSound s) : GaugesSound (supplyFalls s) := by
  unfold Machine.supplyFalls
  split
  · exact hs
  · refine GaugesSound.frame (GaugesSound.frame (s := Machine.mapChannels Channel.onSupplyLow
      (s.setPwc { s.pwc with supplyLow := true, supplyWait := 0 })) ?_ (setCu_frame _ _) (by decide)) (post_frame _ _ _)
      (by decide)
    refine ⟨fun i => ?_, fun _ i => ?_⟩
    · rw [mapChannels_channels, Tab.get_map]
      exact (hs.sound i).of_same (hs.sound i).onSupplyLow (Channel.onSupplyLow_sameSignal _)
    · rw [mapChannels_channels, Tab.get_map, Channel.onSupplyLow_walk]

theorem GaugesSound.supplyReturns (hs : GaugesSound s) : GaugesSound (supplyReturns s) := by
  unfold Machine.supplyReturns
  split
  · refine GaugesSound.frame (GaugesSound.frame (s := s.setPwc { s.pwc with supplyLow := false, supplyWait := 0 }) ?_
      (setCu_frame _ _) (by decide)) (post_frame _ _ _) (by decide)
    exact ⟨hs.sound, fun hl => by cases hl⟩
  · exact hs

theorem GaugesSound.measure (hs : GaugesSound s) (mv : Nat) : GaugesSound (measure mv s) := by
  have hstore (n : Nat) : GaugesSound (storeBattery mv n s) := hs.of_channels rfl fun _ => .refl _
  rw [measure_eq]
  split
  · split
    · exact (hstore _).supplyReturns
    · exact (hstore _).supplyFalls
  · exact hstore _

theorem GaugesSound.tick (hs : GaugesSound s) : GaugesSound (tick s) := by
  cases h : isOut s
  · exact hs.frame (tick_frame_reset h) (by decide)
  · have hpass : GaugesSound (passOut s) := hs.of_channels rfl fun _ => .refl _
    exact hpass.frame (tick_frame_out h) (by decide)

theorem gaugesSound_of_reset (hge : s.ge = State.reset.ge) (hpwc : s.pwc = .reset s.pwc.causes) : GaugesSound s := by
  have hreset : GaugesSound State.reset := (gaugesSound_iff _).1 (by decide)
  exact hreset.of_channels (by rw [hpwc]; rfl) fun i => by rw [hge]; exact .refl _

end gauges

theorem gaugesSound_kept : Kept GaugesSound where
  act {W s t} hout a hs := by
    by_cases hw : ∀ b ∈ [Block.gauges, .power], b ∉ W
    · exact hs.frame a.frame hw
    · cases a <;> simp at hw
      case clearCauses => exact hs.setPwc rfl
      case closeWindow => exact hs.closeWindow
      case silencePort p => exact hs.silencePort p
      case deliver c src v hv _ hc =>
        exact (hs.gaugeSelect c src (v := some v) (by simpa [valueSound] using hv) fun i hi => .inr (hc i hi).1).frame
          (formGaugeAny_frame _ _) (by decide)
      case applyChannel args k hk _ hrest hcurve =>
        obtain ⟨hlimit, hvmax, hshift, hsrc⟩ := channelConfigOf_bounds hk
        exact gaugesSound_passages.powerConditions (hs.channelShown ⟨hlimit, hvmax, hshift, hsrc, hrest, hcurve⟩)
      case loadCurve i curve h =>
        exact hs.modifyChannel i ⟨fun hc => { hc with curve := (curvePasses_iff _ _).1 h }, id⟩
      case dropPending i => exact hs.modifyChannel i (Channel.dropPending_keptSound _)
      case keepPending i q _ => exact hs.modifyChannel i ⟨fun hc => { hc with }, id⟩
      case filterAll => exact hs.mapChannels Channel.filterUpdate_keptSound rfl
      case motionInterval =>
        rw [motionInterval_eq]
        split
        · exact hs.of_channels rfl fun _ => .refl _
        · next hlow => exact gaugesSound_passages.powerConditions (hs.movedOn (by simpa using hlow))
      case loseLink => exact hs.loseLink
      case edge i => exact hs.edge i
      case sampleInputs mv =>
        exact sampleInputs_keeps (fun n s hs => hs.frame (setChoices_frame s n) (by decide))
          (fun mv s hs => hs.frame (storeSample_frame s mv) (by decide)) (fun i _ hs => hs.edge i) mv hs
      case selfCheckExpires => exact gaugesSound_passages.powerConditions (hs.setPwc rfl)
      case supplyFalls => exact hs.supplyFalls
      case supplyReturns => exact hs.supplyReturns
      case measure mv => exact hs.measure mv
  always {W s t} a hs := by
    by_cases hw : ∀ b ∈ [Block.gauges, .power], b ∉ W
    · exact hs.frame a.frame hw
    · cases a <;> simp [resetBlocks, tickBlocks] at hw
      case beginCause c => exact gaugesSound_of_reset rfl rfl
      case commandReset => exact gaugesSound_of_reset rfl rfl
      case tick => exact hs.tick

/-! ### Channels on their sources -/

/-- R7, R9: `Channel.follows`. -/
structure Channel.Follows (live : Source → Bool) (c : Channel) : Prop where
  held : ∀ a, live a = true ∨ c.value a = none
  active : c.active = c.select live

theorem Channel.follows_iff (live : Source → Bool) (c : Channel) : c.follows live = true ↔ c.Follows live := by
  simp only [follows, Bool.and_eq_true, Bool.or_eq_true, decide_eq_true_eq]
  constructor
  · rintro ⟨⟨⟨hd, hs⟩, hr⟩, ha⟩
    exact ⟨fun a => by cases a <;> assumption, ha⟩
  · exact fun h => ⟨⟨⟨h.held .portD, h.held .portS⟩, h.held .recorder⟩, h.active⟩

/-- What the selection of a channel reads. -/
structure Channel.SameSources (c d : Channel) : Prop where
  active : d.active = c.active
  value : ∀ a, d.value a = c.value a
  enabled : d.enabled = c.enabled
  primary : d.primary = c.primary
  fallback : d.fallback = c.fallback

section follows
variable {c d : Channel} {live live' : Source → Bool}

theorem Channel.SameSources.refl (c : Channel) : c.SameSources c := ⟨rfl, fun _ => rfl, rfl, rfl, rfl⟩

theorem Channel.SameSignal.sources (h : c.SameSignal d) : c.SameSources d :=
  ⟨h.active, fun a => by cases a; exacts [h.valueD, h.valueS, h.valueR], h.enabled, h.primary, h.fallback⟩

theorem Channel.dropPending_sameSources (c : Channel) : c.SameSources c.dropPending :=
  ⟨rfl, fun a => by cases a <;> rfl, rfl, rfl, rfl⟩

/-- R9: a selection made among other sources that are LIVE is the same where the values are of sources alike LIVE. -/
theorem Channel.select_congr (hvalue : ∀ a, d.value a = c.value a) (he : d.enabled = c.enabled) (hp : d.primary = c.primary)
    (hf : d.fallback = c.fallback) (hlive : ∀ a, c.value a ≠ none → live' a = live a) : d.select live' = c.select live := by
  have hentry (a : Source) : (live' a && (d.value a).isSome) = (live a && (c.value a).isSome) := by
    rw [hvalue]
    cases h : c.value a with
    | none => simp
    | some v => simp [hlive a (by simp [h])]
  unfold select
  simp only [he, hp, hf, hentry]

theorem Channel.Follows.of_same (h : c.Follows live) (hs : c.SameSources d) : d.Follows live := by
  refine ⟨fun a => by rw [hs.value]; exact h.held a, ?_⟩
  rw [hs.active, h.active]
  exact (select_congr hs.value hs.enabled hs.primary hs.fallback fun _ _ => rfl).symm

/-- R7: more sources LIVE, or fewer, where none of them holds a value. -/
theorem Channel.Follows.of_live (h : c.Follows live) (hlive : ∀ a, c.value a ≠ none → live' a = live a) : c.Follows live' := by
  refine ⟨fun a => ?_, ?_⟩
  · by_cases hv : c.value a = none
    · exact .inr hv
    · rw [hlive a hv]; exact h.held a
  · rw [h.active]
    exact (select_congr (fun _ => rfl) rfl rfl rfl hlive).symm

/-- R9: once made again, the selection follows. -/
theorem Channel.follows_reselect (h : ∀ a, live a = true ∨ c.value a = none) : (c.reselect live).Follows live := by
  have hvalue (a : Source) : (c.reselect live).value a = c.value a := by
    rw [reselect_eq]
    cases a <;> split <;> rfl
  have hsame : (c.reselect live).enabled = c.enabled ∧ (c.reselect live).primary = c.primary ∧
      (c.reselect live).fallback = c.fallback := by
    rw [reselect_eq]
    split <;> exact ⟨rfl, rfl, rfl⟩
  refine ⟨fun a => by rw [hvalue]; exact h a, ?_⟩
  rw [reselect_active]
  exact (select_congr hvalue hsame.1 hsame.2.1 hsame.2.2 fun _ _ => rfl).symm

theorem Channel.store_value (c : Channel) (a b : Source) (v : Option Nat) :
    (c.store a v).value b = if b = a then v else c.value b := by
  cases a <;> cases b <;> rfl

theorem Channel.keepListed_value (c : Channel) (a : Source) :
    c.keepListed.value a = if c.lists a then c.value a else none := by cases a <;> rfl

/-- R22: a request takes values away, and gives none. -/
theorem Channel.configure_value (c : Channel) (cycle : Bool) (k : ChannelConfig) (a : Source) :
    (c.configure cycle k).value a = none ∨ (c.configure cycle k).value a = c.value a := by
  have hkept : (c.withConfig k).keepListed.value a = none ∨ (c.withConfig k).keepListed.value a = c.value a := by
    rw [keepListed_value]
    split
    · exact .inr (by cases a <;> rfl)
    · exact .inl rfl
  unfold configure
  split
  · split
    · exact hkept
    · split <;> exact .inr (by cases a <;> rfl)
  · exact .inl (by cases a <;> rfl)

end follows

/-- `State.sourcesFollowed`. -/
def SourcesFollowed (s : State) : Prop := ∀ i, (s.ge.channels.get i).Follows (sourceLive s)

theorem sourcesFollowed_iff (s : State) : s.sourcesFollowed = true ↔ SourcesFollowed s := by
  simp [State.sourcesFollowed, Tab.all_iff, Channel.follows_iff, SourcesFollowed]

section sources
variable {s t : State}

theorem SourcesFollowed.of_channels (hs : SourcesFollowed s) (hlive : sourceLive t = sourceLive s)
    (h : ∀ i, (s.ge.channels.get i).SameSources (t.ge.channels.get i)) : SourcesFollowed t := by
  intro i
  rw [hlive]
  exact (hs i).of_same (h i)

theorem SourcesFollowed.frame (hs : SourcesFollowed s) {W : List Block} (h : OnlyChanges W s t)
    (hlive : sourceLive t = sourceLive s) (hW : .gauges ∉ W) : SourcesFollowed t :=
  hs.of_channels hlive fun i => by rw [h.ge hW]; exact .refl _

theorem SourcesFollowed.mapChannels (hs : SourcesFollowed s) (hlive : sourceLive t = sourceLive s) {f : Channel → Channel}
    (hf : ∀ c : Channel, c.SameSignal (f c)) (ht : t.ge.channels = s.ge.channels.map f) : SourcesFollowed t :=
  hs.of_channels hlive fun i => by rw [ht, Tab.get_map]; exact (hf _).sources

theorem handSpeed_sameSources (old : Option Nat) (s : State) (i : Fin 8) :
    (s.ge.channels.get i).SameSources ((handSpeed old s).ge.channels.get i) := by
  rcases handSpeed_channel i old s with h | h <;> rw [h]
  · exact .refl _
  · exact Channel.dropPending_sameSources _

theorem closeWindow_sameSources (s : State) (i : Fin 8) :
    (s.ge.channels.get i).SameSources ((closeWindow s).ge.channels.get i) := by
  rcases closeWindow_channel i s with h | h <;> rw [h]
  · exact .refl _
  · exact Channel.dropPending_sameSources _

/-- R6, R7, R9: the channels concerned select again among what is LIVE; the others followed what was, and still do. -/
theorem sourcesFollowed_gaugeSelect {c : Fin 8 → Bool} {a : Source} {v : Option Nat}
    (hheld : ∀ i, c i = true → ∀ b, b ≠ a → sourceLive s b = true ∨ (s.ge.channels.get i).value b = none)
    (hv : sourceLive s a = true ∨ v = none) (hrest : ∀ i, c i = false → (s.ge.channels.get i).Follows (sourceLive s)) :
    SourcesFollowed (gaugeSelect c (Channel.store a v) s) := by
  intro i
  rw [(gaugeSelect_frame s c _).sources (by decide) (by decide)]
  refine Channel.Follows.of_same ?_ (handSpeed_sameSources _ _ i)
  simp only [postAll_ge, State.setGe_ge, Tab.get_mapIdx]
  split
  · next hc =>
    refine Channel.follows_reselect fun b => ?_
    rw [Channel.store_value]
    split
    · next h => subst h; exact hv
    · next h => exact hheld i hc b h
  · next hc => exact hrest i (by simpa using hc)

/-- R7: a source just become SILENT loses its values. -/
theorem SourcesFollowed.silenceSource (hs : SourcesFollowed s) {a : Source} {other : State → State}
    (hge : t.ge.channels = s.ge.channels ∨ t.ge.channels = s.ge.channels.map Channel.dropPending)
    (hlive : ∀ b, b ≠ a → sourceLive t b = sourceLive s b)
    (hframe : ∀ s, OnlyChanges [.lamps, .chimes, .events] s (other s)) : SourcesFollowed (silenceSource a other t) := by
  have hvalue (i : Fin 8) (b : Source) : (t.ge.channels.get i).value b = (s.ge.channels.get i).value b := by
    rcases hge with h | h <;> rw [h]
    rw [Tab.get_map]
    cases b <;> rfl
  have hsel : SourcesFollowed (gaugeSelect (fun _ => true) (Channel.store a none) t) :=
    sourcesFollowed_gaugeSelect (fun i _ b hb => by rw [hlive b hb, hvalue]; exact (hs i).held b) (.inr rfl)
      fun _ h => by cases h
  exact hsel.frame (withGaugeUpdate_frame _ hframe) ((withGaugeUpdate_frame _ hframe).sources (by decide) (by decide)) (by decide)

theorem closeWindow_channels (s : State) : (closeWindow s).ge.channels = s.ge.channels ∨
    (closeWindow s).ge.channels = s.ge.channels.map Channel.dropPending := by
  unfold closeWindow
  split
  · exact .inr rfl
  · exact .inl rfl

theorem SourcesFollowed.silencePort (hs : SourcesFollowed s) (p : Port) : SourcesFollowed (silencePort p s) := by
  let silenced := post .sourceSilent (portSource p).code (s.setPort p { s.port p with live := false, timer := none })
  have hlive (b : Source) (hb : b ≠ portSource p) : sourceLive silenced b = sourceLive s b := by
    rw [(post_frame _ _ _).sources (by decide) (by decide)]
    cases p <;> cases b <;> simp_all [sourceLive, State.setPort, portSource]
  have hge : silenced.ge = s.ge := by simp [silenced]
  cases p
  · exact hs.silenceSource (.inl (congrArg _ hge)) hlive fun s => lampUpdate_frame s _
  · refine hs.silenceSource (t := Machine.closeWindow silenced) ?_ (fun b hb => ?_) fun s => lampUpdate_frame s _
    · rw [← hge]; exact closeWindow_channels silenced
    · rw [(closeWindow_frame silenced).sources (by decide) (by decide)]; exact hlive b hb

theorem SourcesFollowed.loseLink (hs : SourcesFollowed s) : SourcesFollowed (loseLink s) := by
  have hsilenced : SourcesFollowed (linkSilenced s) := by
    refine hs.silenceSource (.inl (by simp)) (fun b hb => ?_) fun s => lampUpdate_frame s _
    rw [(post_frame _ _ _).sources (by decide) (by decide)]
    cases b with
    | portD | portS => rfl
    | recorder => exact absurd rfl hb
  exact hsilenced.frame (setAau_frame _ _) ((setAau_frame _ _).sources (by decide) (by decide)) (by decide)

/-- R170, R117: a source that becomes LIVE holds no value yet. -/
theorem SourcesFollowed.returned (hs : SourcesFollowed s) (hge : t.ge = s.ge)
    (hlive : ∀ a, sourceLive s a = true → sourceLive t a = true) : SourcesFollowed t := by
  intro i
  rw [hge]
  refine (hs i).of_live fun a ha => ?_
  have hold := ((hs i).held a).resolve_right ha
  rw [hold, hlive a hold]

theorem SourcesFollowed.channelShown (hs : SourcesFollowed s) (k : ChannelConfig) : SourcesFollowed (channelShown k s) := by
  intro i
  rw [(channelShown_frame k s).sources (by decide) (by decide)]
  have hconfigured : (configured k s).Follows (sourceLive s) := by
    refine Channel.follows_reselect fun a => ?_
    rcases Channel.configure_value (s.ge.channels.get k.channel) (inCycle s) k a with h | h
    · exact .inr h
    · rw [h]; exact (hs k.channel).held a
  have hplaced : ((s.ge.channels.set k.channel (configured k s)).get i).Follows (sourceLive s) := by
    rw [Tab.get_set]
    split
    · exact hconfigured
    · exact hs i
  unfold Machine.channelShown channelTold
  rw [formGaugeAny_ge]
  refine hplaced.of_same ?_
  have h := handSpeed_sameSources (vehicleSpeed s) (postSignalChange k.channel (s.ge.channels.get k.channel) (configured k s)
    (s.setGe { s.ge with channels := s.ge.channels.set k.channel (configured k s) })) i
  rwa [(postSignalChange_frame _ _ _ _).ge (by decide)] at h

theorem SourcesFollowed.modifyChannel (hs : SourcesFollowed s) (i : Fin 8) {f : Channel → Channel}
    (hf : (s.ge.channels.get i).SameSources (f (s.ge.channels.get i))) : SourcesFollowed (modifyChannel i f s) := by
  refine hs.of_channels ((setGe_frame s _).sources (by decide) (by decide)) fun j => ?_
  show (s.ge.channels.get j).SameSources ((s.ge.channels.modify i f).get j)
  rw [Tab.get_modify]
  split
  · next h => subst h; exact hf
  · exact .refl _

theorem sourcesFollowed_passages : PassagesKeep SourcesFollowed where
  flag s b hs := hs.frame (setPwc_frame s _) ((setPwc_frame s _).sources (by decide) (by decide)) (by decide)
  runEntry s _ hs := hs.frame (runEntry_frame s) ((runEntry_frame s).sources (by decide) (by decide)) (by decide)
  parkingDone s h hs := hs.frame (parkingDone_frame s)
    ((quiesce_sources _).trans ((enterPower_frame s _).sources (by decide) (by decide))) (by decide)
  enterRunCheck s h hs := by
    refine hs.mapChannels ?_ Channel.onRunCheck_sameSignal (enterRunCheck_channels s)
    exact (sources_passages (sourceLive s)).enterRunCheck s h rfl
  leaveCycle s h hs := by
    refine hs.mapChannels ?_ Channel.onIgnitionOff_sameSignal (leaveCycle_channels s)
    exact (sources_passages (sourceLive s)).leaveCycle s h rfl

theorem SourcesFollowed.edge (hs : SourcesFollowed s) (i : Fin 12) : SourcesFollowed (edge i s) :=
  sourcesFollowed_passages.edge (fun i s hs => hs.frame (edgeTold_frame s i) ((edgeTold_frame s i).sources (by decide) (by decide)) (by decide))
    (fun _ _ hs => hs.frame (lampUpdate_frame _ _) ((lampUpdate_frame _ _).sources (by decide) (by decide)) (by decide)) i hs

theorem supplyFalls_channels (s : State) : (supplyFalls s).ge.channels = s.ge.channels ∨
    (supplyFalls s).ge.channels = s.ge.channels.map Channel.onSupplyLow := by
  unfold supplyFalls
  split
  · exact .inl rfl
  · exact .inr (by simp)

theorem measure_channels (mv : Nat) (s : State) : (measure mv s).ge.channels = s.ge.channels ∨
    (measure mv s).ge.channels = s.ge.channels.map Channel.onSupplyLow := by
  rw [measure_eq]
  split
  · split
    · rw [(supplyReturns_frame _).ge (by decide)]; exact .inl rfl
    · exact supplyFalls_channels _
  · exact .inl rfl

/-- Every channel as it was, or stopped by the supply. -/
theorem SourcesFollowed.supply (hs : SourcesFollowed s) (hlive : sourceLive t = sourceLive s)
    (h : t.ge.channels = s.ge.channels ∨ t.ge.channels = s.ge.channels.map Channel.onSupplyLow) : SourcesFollowed t := by
  rcases h with h | h
  · exact hs.of_channels hlive fun i => by rw [h]; exact .refl _
  · exact hs.mapChannels hlive Channel.onSupplyLow_sameSignal h

theorem sourcesFollowed_of_reset (hge : s.ge = State.reset.ge) : SourcesFollowed s := by
  have hreset : SourcesFollowed State.reset := (sourcesFollowed_iff _).1 (by decide)
  refine hreset.returned hge fun a ha => ?_
  cases a <;> exact absurd ha (by decide)

end sources

theorem sourcesFollowed_kept : Kept SourcesFollowed where
  act {W s t} hout a hs := by
    by_cases hmoves : (∃ p, t = beginFrame p s) ∨ (∃ p, t = silencePort p s) ∨ t = linkTaken s ∨ t = loseLink s
    · rcases hmoves with ⟨p, rfl⟩ | ⟨p, rfl⟩ | rfl | rfl
      · refine hs.returned ((beginFrame_frame p s).ge (by decide)) fun a ha => ?_
        have hport (q : Port) := (beginFrame_port p q s).1
        cases a
        · exact (hport .d).trans (by rw [show (s.port .d).live = true from ha, Bool.or_true])
        · exact (hport .s).trans (by rw [show (s.port .s).live = true from ha, Bool.or_true])
        · rw [show sourceLive (beginFrame p s) .recorder = (beginFrame p s).rlu.live from rfl, (beginFrame_frame p s).rlu (by decide)]
          exact ha
      · exact hs.silencePort p
      · refine hs.returned ((linkTaken_frame s).ge (by decide)) fun a ha => ?_
        cases a
        · exact ((linkTaken_frame s).live .d (by decide)).trans ha
        · exact ((linkTaken_frame s).live .s (by decide)).trans ha
        · exact linkTaken_live s
      · exact hs.loseLink
    · have hlive : sourceLive t = sourceLive s := (act_sources a).resolve_right hmoves
      by_cases hw : Block.gauges ∉ W
      · exact hs.frame a.frame hlive hw
      · cases a <;> simp at hw
        case closeWindow => exact hs.of_channels hlive (closeWindow_sameSources s)
        case silencePort p => exact hs.silencePort p
        case deliver c src v hv hl hc =>
          have hsel : SourcesFollowed (gaugeSelect c (Channel.store src (some v)) s) :=
            sourcesFollowed_gaugeSelect (fun i _ b _ => (hs i).held b) (.inl (by assumption)) fun i _ => hs i
          exact hsel.frame (formGaugeAny_frame _ _) ((formGaugeAny_frame _ _).sources (by decide) (by decide)) (by decide)
        case applyChannel args k _ _ _ _ => exact sourcesFollowed_passages.powerConditions (hs.channelShown k)
        case loadCurve i curve h => exact hs.modifyChannel i ⟨rfl, fun a => by cases a <;> rfl, rfl, rfl, rfl⟩
        case dropPending i => exact hs.modifyChannel i (Channel.dropPending_sameSources _)
        case keepPending i q _ => exact hs.modifyChannel i ⟨rfl, fun a => by cases a <;> rfl, rfl, rfl, rfl⟩
        case filterAll => exact hs.mapChannels hlive Channel.filterUpdate_sameSignal rfl
        case motionInterval =>
          rw [motionInterval_eq]
          split
          · exact hs.of_channels ((setGe_frame s _).sources (by decide) (by decide)) fun _ => .refl _
          · exact sourcesFollowed_passages.powerConditions
              (hs.mapChannels ((movedOn_frame s).sources (by decide) (by decide)) Channel.interval_sameSignal (movedOn_channels s))
        case loseLink => exact hs.loseLink
        case edge i => exact hs.edge i
        case sampleInputs mv =>
          exact sampleInputs_keeps (fun n s hs => hs.frame (setChoices_frame s n) ((setChoices_frame s n).sources (by decide) (by decide)) (by decide))
            (fun mv s hs => hs.frame (storeSample_frame s mv) ((storeSample_frame s mv).sources (by decide) (by decide)) (by decide)) (fun i _ hs => hs.edge i) mv hs
        case supplyFalls => exact hs.supply hlive (supplyFalls_channels s)
        case measure mv => exact hs.supply hlive (measure_channels mv s)
  always {W s t} a hs := by
    by_cases hw : ∀ b ∈ [Block.gauges, .ports, .recorder], b ∉ W
    · exact hs.frame a.frame (a.frame.sources (hw _ (by simp)) (hw _ (by simp))) (hw _ (by simp))
    · cases a <;> simp [resetBlocks, tickBlocks] at hw
      case beginCause c => exact sourcesFollowed_of_reset rfl
      case commandReset => exact sourcesFollowed_of_reset rfl
      case comeOut => exact hs.frame (comeOut_frame s) (comeOut_sources s) (by decide)
      case tick =>
        refine hs.of_channels (tick_sources s) fun i => ?_
        cases h : isOut s
        · rw [(tick_frame_reset h).ge (by decide)]; exact .refl _
        · rw [(tick_frame_out h).ge (by decide)]; exact .refl _

/-! ### The config window -/

/-- R25, R176: `State.windowSound`. -/
structure WindowSound (s : State) : Prop where
  slow : s.window = true → ∀ v, vehicleSpeed s = some v → v < 100
  settled : s.window = false → ∀ i, (s.ge.channels.get i).pendingCurve = none

theorem windowSound_iff (s : State) : s.windowSound = true ↔ WindowSound s := by
  unfold State.windowSound
  rw [Bool.and_eq_true, Bool.or_eq_true, Bool.or_eq_true, Tab.all_iff]
  simp only [Bool.not_eq_true', Option.isNone_iff_eq_none]
  constructor
  · rintro ⟨hslow, hsettled⟩
    refine ⟨fun hw v hv => ?_, fun hw => hsettled.resolve_left (by simp [hw])⟩
    rw [hv] at hslow
    simpa [hw] using hslow
  · intro h
    cases hw : s.window
    · exact ⟨.inl rfl, .inr (h.settled hw)⟩
    · refine ⟨.inr ?_, .inl rfl⟩
      cases hv : vehicleSpeed s with
      | none => rfl
      | some v => exact decide_eq_true (h.slow hw v hv)

section window
variable {s t : State}

theorem WindowSound.of_same (hs : WindowSound s) (hwindow : t.window = s.window) (hspeed : vehicleSpeed t = vehicleSpeed s)
    (hpending : ∀ i, (s.ge.channels.get i).pendingCurve = none → (t.ge.channels.get i).pendingCurve = none) : WindowSound t :=
  ⟨fun hw => by rw [hspeed]; exact hs.slow (hwindow ▸ hw), fun hw i => hpending i (hs.settled (hwindow ▸ hw) i)⟩

theorem WindowSound.frame (hs : WindowSound s) {W : List Block} (h : OnlyChanges W s t)
    (hW : ∀ b ∈ [Block.gauges, .window], b ∉ W) : WindowSound t := by
  have hge := h.ge (hW _ (by simp))
  exact hs.of_same (h.window (hW _ (by simp))) (by rw [vehicleSpeed, hge]; rfl) fun i hi => by rw [hge]; exact hi

theorem WindowSound.mapChannels (hs : WindowSound s) (hwindow : t.window = s.window) {f : Channel → Channel}
    (hf : ∀ c : Channel, c.SameSignal (f c)) (ht : t.ge.channels = s.ge.channels.map f) : WindowSound t :=
  hs.of_same hwindow (vehicleSpeed_map (fun c => (hf c).activeValue) ht) fun i hi => by
    rw [ht, Tab.get_map, (hf _).pendingCurve, hi]

theorem windowSound_closeWindow (hs : WindowSound s) : WindowSound (closeWindow s) := by
  unfold closeWindow
  split
  · exact ⟨fun h => (by cases h), fun _ i => by simp [Channel.dropPending]⟩
  · exact hs

theorem closeWindow_closed (s : State) : (closeWindow s).window = false := by
  unfold closeWindow
  split
  · rfl
  · next h => simpa using h

/-- R15, R176: a vehicle speed that has changed is handed on, and shuts the window at 1 km/h and above. -/
theorem windowSound_handSpeed (hs : WindowSound s) (hwindow : t.window = s.window)
    (hpending : s.window = false → ∀ i, (t.ge.channels.get i).pendingCurve = none) :
    WindowSound (handSpeed (vehicleSpeed s) t) := by
  have hpending' (hw : t.window = false) := hpending (hwindow ▸ hw)
  unfold handSpeed
  split
  · next hsame => exact ⟨fun hw => by rw [hsame]; exact hs.slow (hwindow ▸ hw), hpending'⟩
  · split
    · next v hv =>
      refine WindowSound.frame ?_ (judgeTone_frame _) (by decide)
      split
      · refine ⟨fun hw => ?_, fun _ i => ?_⟩
        · rw [closeWindow_closed] at hw; cases hw
        · unfold closeWindow
          split
          · simp [Channel.dropPending]
          · next hopen => exact hpending' (by simpa using hopen) i
      · next hlow =>
        refine ⟨fun _ u hu => ?_, hpending'⟩
        rw [hv] at hu
        cases hu
        exact not_le.1 hlow
    · next hnone =>
      refine WindowSound.frame ?_ (judgeTone_frame _) (by decide)
      exact ⟨fun _ u hu => (by rw [hnone] at hu; cases hu), hpending'⟩

theorem WindowSound.gaugeSelect (hs : WindowSound s) (c : Fin 8 → Bool) (a : Source) (v : Option Nat) :
    WindowSound (gaugeSelect c (Channel.store a v) s) := by
  refine windowSound_handSpeed hs (by simp) fun hw i => ?_
  have hstore (c : Channel) : (c.store a v).pendingCurve = c.pendingCurve := by cases a <;> rfl
  have hreselect (c : Channel) (live : Source → Bool) : (c.reselect live).pendingCurve = c.pendingCurve := by
    rw [Channel.reselect_eq]
    split <;> rfl
  simp only [postAll_ge, State.setGe_ge, Tab.get_mapIdx]
  split
  · rw [hreselect, hstore]; exact hs.settled hw i
  · exact hs.settled hw i

theorem WindowSound.silenceSource (hs : WindowSound s) (a : Source) {other : State → State}
    (hframe : ∀ s, OnlyChanges [.lamps, .chimes, .events] s (other s)) : WindowSound (silenceSource a other s) :=
  (hs.gaugeSelect (fun _ => true) a none).frame (withGaugeUpdate_frame _ hframe) (by decide)

theorem WindowSound.silencePort (hs : WindowSound s) (p : Port) : WindowSound (silencePort p s) := by
  have htold : WindowSound (post .sourceSilent (portSource p).code (s.setPort p { s.port p with live := false, timer := none })) :=
    (hs.frame (setLive_frame p s false none) (by decide)).frame (post_frame _ _ _) (by decide)
  cases p
  · exact htold.silenceSource _ fun s => lampUpdate_frame s _
  · exact (windowSound_closeWindow htold).silenceSource _ fun s => lampUpdate_frame s _

theorem WindowSound.loseLink (hs : WindowSound s) : WindowSound (loseLink s) := by
  have hset := hs.frame (setRlu_frame s { s.rlu with live := false, timer := none, vehicle := s.rlu.vehicle.hold }) (by decide)
  have hlost := (hset.frame (post_frame _ .sourceSilent Source.recorder.code) (by decide)).silenceSource .recorder
    (other := discardRecorder) fun s => lampUpdate_frame s _
  exact hlost.frame (setAau_frame _ _) (by decide)

/-- R22: a request is taken in an open window alone, so no pending curve has to go. -/
theorem WindowSound.channelShown (hs : WindowSound s) (k : ChannelConfig) (hw : s.window = true) :
    WindowSound (channelShown k s) := by
  refine WindowSound.frame ?_ (formGaugeAny_frame _ _) (by decide)
  refine windowSound_handSpeed hs ?_ fun hclosed => ?_
  · rw [(postSignalChange_frame _ _ _ _).window (by decide)]; rfl
  · rw [hw] at hclosed; cases hclosed

theorem windowSound_modifyChannel (hs : WindowSound s) (i : Fin 8) {f : Channel → Channel}
    (hf : ∀ c, (f c).activeValue = c.activeValue)
    (hpending : s.window = false → (s.ge.channels.get i).pendingCurve = none → (f (s.ge.channels.get i)).pendingCurve = none) :
    WindowSound (modifyChannel i f s) := by
  refine ⟨fun hw => by rw [vehicleSpeed_modifyChannel i hf]; exact hs.slow hw, fun hw j => ?_⟩
  show ((s.ge.channels.modify i f).get j).pendingCurve = none
  rw [Tab.get_modify]
  split
  · next h => subst h; exact hpending hw (hs.settled hw j)
  · exact hs.settled hw j

theorem windowSound_passages : PassagesKeep WindowSound where
  flag s b hs := hs.frame (setPwc_frame s _) (by decide)
  runEntry s _ hs := hs.frame (runEntry_frame s) (by decide)
  parkingDone s _ hs := hs.frame (parkingDone_frame s) (by decide)
  enterRunCheck s _ hs :=
    hs.mapChannels ((enterRunCheck_frame s).window (by decide)) Channel.onRunCheck_sameSignal (enterRunCheck_channels s)
  leaveCycle s _ hs :=
    hs.mapChannels ((leaveCycle_frame s).window (by decide)) Channel.onIgnitionOff_sameSignal (leaveCycle_channels s)

theorem WindowSound.edge (hs : WindowSound s) (i : Fin 12) : WindowSound (edge i s) :=
  windowSound_passages.edge (fun i s hs => hs.frame (edgeTold_frame s i) (by decide)) (fun _ _ hs => hs.frame (lampUpdate_frame _ _) (by decide)) i hs

theorem WindowSound.supply (hs : WindowSound s) (hwindow : t.window = s.window)
    (h : t.ge.channels = s.ge.channels ∨ t.ge.channels = s.ge.channels.map Channel.onSupplyLow) : WindowSound t := by
  rcases h with h | h
  · exact hs.of_same hwindow (by rw [vehicleSpeed, h]; rfl) fun i hi => by rw [h]; exact hi
  · exact hs.mapChannels hwindow Channel.onSupplyLow_sameSignal h

theorem windowSound_of_reset (hge : s.ge = State.reset.ge) (hwindow : s.window = State.reset.window) : WindowSound s := by
  have hreset : WindowSound State.reset := (windowSound_iff _).1 (by decide)
  exact hreset.of_same hwindow (by rw [vehicleSpeed, hge]; rfl) fun i hi => by rw [hge]; exact hi

end window

theorem windowSound_kept : Kept WindowSound where
  act {W s t} hout a hs := by
    by_cases hw : ∀ b ∈ [Block.gauges, .window], b ∉ W
    · exact hs.frame a.frame hw
    · cases a <;> simp at hw
      case openWindow h =>
        refine ⟨fun _ v hv => ?_, fun hclosed => by cases hclosed⟩
        have hv' : vehicleSpeed s = some v := hv
        rw [tooFast, hv'] at h
        exact not_le.1 (of_decide_eq_false h)
      case closeWindow => exact windowSound_closeWindow hs
      case silencePort p => exact hs.silencePort p
      case deliver c src v _ _ _ => exact (hs.gaugeSelect c src (some v)).frame (formGaugeAny_frame _ _) (by decide)
      case applyChannel args k _ hopen _ _ => exact windowSound_passages.powerConditions (hs.channelShown k hopen)
      case loadCurve i curve _ => exact windowSound_modifyChannel hs i (fun _ => rfl) fun _ _ => rfl
      case dropPending i => exact windowSound_modifyChannel hs i (fun _ => rfl) fun _ _ => rfl
      case keepPending i q hopen =>
        exact windowSound_modifyChannel hs i (fun _ => rfl) fun hclosed => by rw [hopen] at hclosed; cases hclosed
      case filterAll => exact hs.mapChannels rfl Channel.filterUpdate_sameSignal rfl
      case motionInterval =>
        rw [motionInterval_eq]
        split
        · exact hs.of_same rfl rfl fun _ => id
        · exact windowSound_passages.powerConditions
            (hs.mapChannels ((movedOn_frame s).window (by decide)) Channel.interval_sameSignal (movedOn_channels s))
      case loseLink => exact hs.loseLink
      case edge i => exact hs.edge i
      case sampleInputs mv =>
        exact sampleInputs_keeps (fun n s hs => hs.frame (setChoices_frame s n) (by decide)) (fun mv s hs => hs.frame (storeSample_frame s mv) (by decide))
          (fun i _ hs => hs.edge i) mv hs
      case supplyFalls => exact hs.supply ((supplyFalls_frame s).window (by decide)) (supplyFalls_channels s)
      case measure mv => exact hs.supply ((measure_frame s mv).window (by decide)) (measure_channels mv s)
  always {W s t} a hs := by
    by_cases hw : ∀ b ∈ [Block.gauges, .window], b ∉ W
    · exact hs.frame a.frame hw
    · cases a <;> simp [resetBlocks, tickBlocks] at hw
      case beginCause c => exact windowSound_of_reset rfl rfl
      case commandReset => exact windowSound_of_reset rfl rfl
      case tick =>
        cases h : isOut s
        · exact hs.frame (tick_frame_reset h) (by decide)
        · have hpass : WindowSound (passOut s) := hs.of_same rfl rfl fun _ => id
          exact hpass.frame (tick_frame_out h) (by decide)

/-- Settles O55: every operation keeps the channels within their ranges and on their sources, and the window shut at speed. -/
theorem everyStepKeepsGaugesSound : Obligations.EveryStepKeepsGaugesSound := by
  intro s t h
  simp only [gaugesSound_iff, sourcesFollowed_iff, windowSound_iff]
  exact ⟨gaugesSound_kept.step h, sourcesFollowed_kept.step h, windowSound_kept.step h⟩

end Sys2Proof.Machine
end

section
/-! SUPPORT. When a timer command acts (log 3), and what an act that waits for no reset does out of one. -/
namespace Sys2Proof.Machine

section timed
variable {c : Instr} {running out : Prop} {r o : Bool} {act : State → State} {s : State}

/-- Log 3: the event of a timer command takes place exactly where it comes. -/
theorem takesPlace_iff (hr : r = true ↔ running) (ho : o = true ↔ out) : takesPlace c r o s = true ↔ Comes c running out s := by
  by_cases hdue : c ∈ s.due
  · simp [takesPlace_due hdue, Comes, hdue, ho]
  · simp [takesPlace_given hdue, Comes, hdue, hr]

/-- Log 3: where its event does not come, a timer command is only struck off those found due. -/
theorem lapses_of_timed (hexec : exec c s = .next (timed c r o act s)) (hr : r = true ↔ running) (ho : o = true ↔ out) :
    Lapses c running out s := fun hnot => by
  have hlapse : takesPlace c r o s = false := Bool.eq_false_iff.2 fun h => hnot ((takesPlace_iff hr ho).1 h)
  rw [hexec, timed_lapses act hlapse]
  rfl

/-- Log 3: where its event comes, a timer command acts once it is struck off. -/
theorem acts_of_timed (hexec : exec c s = .next (timed c r o act s)) (hr : r = true ↔ running) (ho : o = true ↔ out)
    (hcomes : Comes c running out s) : exec c s = .next (act (ranBy c s)) := by
  rw [hexec, timed_acts act ((takesPlace_iff hr ho).2 hcomes)]
  rfl

end timed

@[simp] theorem isOut_ranBy (c : Instr) (s : State) : isOut (ranBy c s) = isOut s := rfl

theorem whenOut_of_isOut {act : State → State} {s : State} (h : isOut s = true) : whenOut act s = act s := if_pos h

theorem ranBy_frame (c : Instr) (s : State) : OnlyChanges [.due] s (ranBy c s) := setDue_frame s _

theorem ranOut_iff {t : Option Nat} : ranOut t = true ↔ t = some 0 := decide_eq_true_iff

end Sys2Proof.Machine
end

section
/-! CERTIFICATE. The step, the state after a reset, frames that are refused or not taken (R167 to R170). -/
namespace Sys2Proof.Machine

/-- Settles O1: the step takes the front of its queue. -/
theorem stepRunsFrontCommand : Obligations.StepRunsFrontCommand := fun _ _ _ => rfl

/-- Settles O54: each invariant evaluated at the reset state. -/
theorem resetIsSound : Obligations.ResetIsSound := by
  refine ⟨?_, ?_, ?_, ?_, ?_, ?_, ?_, ?_, ?_, ?_, ?_, ?_, ?_, ?_⟩
  all_goals decide

theorem exec_unknownCommand (p : Port) (code : Byte) (s : State) :
    exec (.unknownCommand p code) s = .next (takenFrame p code (refuse .unknownCommand) s) := rfl

theorem exec_badFrame (p : Port) (s : State) :
    exec (.badFrame p) s = .next (whenOut (fun s => respond p .badFrame (shiftOut p none s)) s) := rfl

/-- Settles O4: an unknown code by the refusal of its request, and a frame that is not taken by `shiftOut`. -/
theorem unknownAndDamagedFramesRefused : Obligations.UnknownAndDamagedFramesRefused := by
  refine ⟨fun p code s hout => refuses_of_takenFrame (exec_unknownCommand ..) hout rfl, fun p s hout => ?_⟩
  rw [exec_badFrame, whenOut_of_isOut hout]
  simp only [respond, shiftOut, State.setSpi_port, Option.or_none, responseFrame]
  rfl

end Sys2Proof.Machine
end

section
/-! SUPPORT. Frames to the recorder (R127, R128): what falls due, and the level of RLTX at each bit of a frame. -/
namespace Sys2Proof.Machine

/-! ### Frames that fall due -/

theorem txBytes_eq_frame (k : TxKind) (s : State) : txBytes s k = k.frame s := by cases k <;> rfl

/-- The contents of a frame are taken from blocks that the transmitter does not change. -/
theorem TxKind.frame_setRlu (k : TxKind) (s : State) (r : RecorderLink) : k.frame (s.setRlu r) = k.frame s := by
  cases k <;> rfl

/-- R128: a frame that falls due starts on an idle transmitter, and waits behind the others otherwise. -/
theorem frameDue_txDue (k : TxKind) (s : State) : FrameDue k s (txDue k s) := by
  unfold txDue
  split
  · next h =>
    rw [Option.isNone_iff_eq_none] at h
    refine ⟨fun _ => ⟨?_, rfl⟩, fun hbusy => absurd h hbusy⟩
    rw [txStart, TxKind.frame_setRlu, txBytes_eq_frame]
    rfl
  · next h =>
    exact ⟨fun hidle => absurd (Option.isNone_iff_eq_none.2 hidle) h, fun _ => ⟨rfl, rfl⟩⟩

/-- What a frame due bears on before it falls due: the frame being sent and those that wait. -/
theorem FrameDue.of_rlu {k : TxKind} {s s' t : State} (h : FrameDue k s' t) (hsending : s'.rlu.sending = s.rlu.sending)
    (hwaiting : s'.rlu.waiting = s.rlu.waiting) : FrameDue k s t := by
  unfold FrameDue at h ⊢
  rwa [hsending, hwaiting] at h

theorem txDue_rlu_but_frames (k : TxKind) (s : State) :
    { (txDue k s).rlu with sending := s.rlu.sending, waiting := s.rlu.waiting } = s.rlu := by
  unfold txDue
  split <;> rfl

/-! ### The level of RLTX (R114) -/

theorem frameBit_past {f : List Byte} {n : Nat} (h : 10 * f.length ≤ n) : frameBit f n = true := if_neg (Nat.not_lt.2 h)

/-- R114: bit k of a character on the line, counted from its start bit. -/
theorem frameBit_of_getElem? {f : List Byte} {n k : Nat} {b : Byte} (hb : f[n]? = some b) (hk : k < 10) :
    frameBit f (10 * n + k) = characterBit b k := by
  obtain ⟨hn, -⟩ := List.getElem?_eq_some_iff.1 hb
  rw [frameBit, if_pos (by omega), byteAt, show (10 * n + k) / 10 = n by omega, show (10 * n + k) % 10 = k by omega,
    List.getD_eq_getElem?_getD, hb]
  rfl

section lead
variable {s : State}

theorem recorderLead_idle (h : s.rlu.sending = none) : recorderLead s = true := by simp [recorderLead, h]

theorem recorderLead_held (h : isOut s = false) : recorderLead s = true := by
  unfold recorderLead
  split <;> simp [h]

theorem recorderLead_sending {f : Sending} (hout : isOut s = true) (h : s.rlu.sending = some f) :
    recorderLead s = frameBit f.bytes ((100 * f.bytes.length - f.left) / 10) := by simp [recorderLead, h, hout]

end lead

theorem sent_iff (r : RecorderLink) : r.sent = true ↔ ∃ f ∈ r.sending, f.left = 0 := by
  cases h : r.sending <;> simp [RecorderLink.sent, h]

end Sys2Proof.Machine
end

section
/-! CERTIFICATE. The transmitter (R127, R128). -/
namespace Sys2Proof.Machine

theorem exec_statusCadence (s : State) : exec .statusCadence s =
    .next (timed .statusCadence s.rlu.cadence.isSome (ranOut s.rlu.cadence) (whenOut cadence) s) := rfl

theorem exec_transmitComplete (s : State) : exec .transmitComplete s =
    .next (timed .transmitComplete s.rlu.sending.isSome s.rlu.sent (whenOut transmitted) s) := rfl

/-- R128: a complete frame lets the first that waits start, with its contents taken then. -/
theorem transmitted_of_head {k : TxKind} {s : State} (h : k ∈ s.rlu.waiting.head?) : transmitted s =
    s.setRlu { s.rlu with
      sending := some { bytes := k.frame s, left := 100 * (k.frame s).length }, waiting := s.rlu.waiting.tail } := by
  obtain ⟨rest, hw⟩ := List.head?_eq_some_iff.1 h
  simp only [transmitted, hw, txStart, txBytes_eq_frame, TxKind.frame_setRlu]
  rfl

/-- Settles O44: the cadence by `frameDue_txDue`, the end of a frame by what waits, and RLTX by `frameBit_of_getElem?`. -/
theorem framesSentInOrder : Obligations.FramesSentInOrder := by
  intro s hout sentOut complete
  have hcadence (h : Comes .statusCadence (s.rlu.cadence ≠ none) (s.rlu.cadence = some 0) s) :=
    acts_of_timed (exec_statusCadence s) Option.isSome_iff_ne_none ranOut_iff h
  have hcomplete (h : complete) := acts_of_timed (exec_transmitComplete s) Option.isSome_iff_ne_none (sent_iff _) h
  rw [whenOut_of_isOut (by simpa using hout)] at hcadence hcomplete
  refine ⟨lapses_of_timed (exec_statusCadence s) Option.isSome_iff_ne_none ranOut_iff,
    lapses_of_timed (exec_transmitComplete s) Option.isSome_iff_ne_none (sent_iff _), fun h => ⟨_, hcadence h, ?_, ?_, ?_, ?_⟩,
    fun h hnone => ?_, fun k hk h => ?_, fun h => ?_, fun f hf hleft n k b hb hat => ?_, fun u hu => recorderLead_held hu⟩
  · exact (txDue_keeps _ .status).2.2
  · exact (frameDue_txDue _ _).of_rlu rfl rfl
  · unfold cadence txDue
    split <;> rfl
  · exact .after (cadence_frame _) (by decide) ((ranBy_frame _ s).mono (by decide))
  · rw [hcomplete h, transmitted, show (ranBy .transmitComplete s).rlu.waiting = [] from hnone]
    rfl
  · rw [hcomplete h, transmitted_of_head (s := ranBy .transmitComplete s) hk]
    cases k <;> rfl
  · rcases h with hidle | ⟨f, hf, hzero⟩
    · exact recorderLead_idle hidle
    · rw [recorderLead_sending hout hf, hzero]
      exact frameBit_past (by omega)
  · have hlead (hk : k < 10) : recorderLead s = characterBit b k := by
      rw [recorderLead_sending hout hf, hat, frameBit_of_getElem? hb hk]
    refine ⟨?_, ?_, ?_⟩
    · rintro rfl
      exact hlead (by decide)
    · rintro i hi rfl
      rw [hlead (by omega), characterBit, if_neg (by omega), if_pos (by omega)]
      rfl
    · rintro rfl
      exact hlead (by decide)

end Sys2Proof.Machine
end

section
/-! SUPPORT. What a reset cause leaves, and the postings at the end of the hold (R190 to R192). -/
namespace Sys2Proof.Machine

/-! ### Causes (R190, R191, R97) -/

section causes
variable {s : State}

theorem heldSound_beginCause (c : Cause) (s : State) : (beginCause c s).heldSound = true :=
  (heldSound_iff _).2 fun _ => heldAtReset_heldBlocks c s .cause

theorem heldSound_commandReset (s : State) : (commandReset s).heldSound = true :=
  (heldSound_iff _).2 fun _ => heldAtReset_heldBlocks .command s _

theorem causesWith_out (c : Cause) (h : isOut s = true) : causesWith c s = CauseSet.empty.add c := if_pos h

theorem causesWith_held (c : Cause) (h : isOut s = false) : causesWith c s = s.rst.causes.add c := if_neg (by simp [h])

/-- R190: a power-on cause makes a power-on reset, whatever went before. -/
theorem causesWith_powerOn (s : State) : (causesWith .powerOn s).powerOn = true := by
  unfold causesWith
  split <;> rfl

/-- R97: a pin cause alone does not make a power-on reset. -/
theorem causesWith_pin_powerOn (h : isOut s = true ∨ s.rst.causes.powerOn = false) :
    (causesWith .pin s).powerOn = false := by
  rcases h with h | h
  · rw [causesWith_out _ h]
    rfl
  · unfold causesWith
    split
    · rfl
    · exact h

theorem heldBlocks_cc (c : Cause) (s : State) :
    (heldBlocks c s).cc = if (causesWith c s).powerOn then .reset else s.cc.keep := rfl

theorem heldBlocks_causes (c : Cause) (s : State) :
    (heldBlocks c s).pwc.causes = recordCauses s.pwc.causes (causesWith c s) := rfl

/-- R191: the record after a power-on cause holds that cause alone. -/
theorem recordCauses_powerOn (held : CauseSet) {made : CauseSet} (h : made.powerOn = true) :
    recordCauses held made = { powerOn := true, pin := false, command := false } := if_pos h

/-- R191: the record after another cause gains what the reset has. -/
theorem recordCauses_other (held : CauseSet) {made : CauseSet} (h : made.powerOn = false) :
    recordCauses held made =
      { powerOn := held.powerOn, pin := held.pin || made.pin, command := held.command || made.command } :=
  if_neg (by simp [h])

end causes

/-! ### The postings at the end of the hold (R192, R107) -/

theorem posted_of_level_zero {r : EventRecord} (n : Nat) (h : r.level = 0) : r.posted n = r := if_pos h

theorem posted_of_level {r : EventRecord} (n : Nat) (h : r.level ≠ 0) :
    r.posted n = { r with count := min 255 (r.count + 1), argument := n } := if_neg h

/-- R180: several postings of one kind with one argument, recorded in one event table. -/
theorem iterate_posted (n : Nat) (r : EventRecord) (m : Nat) :
    (EventRecord.posted n)^[m] r =
      if r.level = 0 ∨ m = 0 then r else { r with count := min 255 (r.count + m), argument := n } := by
  induction m with
  | zero => simp
  | succ m ih =>
    rw [Function.iterate_succ_apply', ih]
    by_cases hlevel : r.level = 0
    · simp [hlevel, posted_of_level_zero]
    · by_cases hm : m = 0
      · simp [hlevel, hm, posted_of_level]
      · simp only [hlevel, hm, or_self, Nat.succ_ne_zero, if_false]
        rw [posted_of_level _ (by exact hlevel)]
        have hcount : min 255 (min 255 (r.count + m) + 1) = min 255 (r.count + (m + 1)) := by omega
        simp [hcount]

theorem forEach_post_events (k : EventKind) (n : Nat) (l : List Nat) (s : State) (p : Port) :
    ((forEach (fun _ => post k n) l s).port p).events.get k.number =
      (EventRecord.posted n)^[l.length] ((s.port p).events.get k.number) := by
  induction l generalizing s with
  | nil => rfl
  | cons a l ih =>
    rw [forEach_cons, ih, posted_post k n s p, List.length_cons, Function.iterate_succ_apply]

theorem isHold_iff (r : ResetProgress) : r.isHold = true ↔ ∃ n, r = .hold n := by
  cases r <;> simp [ResetProgress.isHold]

end Sys2Proof.Machine
end

section
/-! CERTIFICATE. Reset causes, the reset hold and its end (R190 to R192, R179, R97). -/
namespace Sys2Proof.Machine

theorem exec_resetPart (p : Port) (s : State) : exec (.resetPart p) s = .next (whenOut (resetPart p) s) := rfl

theorem exec_resetCauseEnd (s : State) : exec .resetCauseEnd s = .next (causeEnds s) := rfl

theorem exec_resetHoldEnd (s : State) : exec .resetHoldEnd s =
    .next (timed .resetHoldEnd s.rst.progress.isHold (s.rst.progress = .hold 0) comeOut s) := rfl

/-- RESET_PART from Port D is refused as any other frame. -/
theorem refuses_resetPart_d {s : State} (hout : isOut s = true) : Refuses (.resetPart .d) .d 0x08 .notPermitted s :=
  refuses_of_takenFrame (by rw [exec_resetPart, whenOut_of_isOut hout]; rfl) hout rfl

/-- Settles O10: each cause by the blocks that `heldBlocks` leaves, with the causes of the reset and of the record. -/
theorem causesHoldThePartInReset : Obligations.CausesHoldThePartInReset := by
  refine ⟨fun s => ?_, fun s h => ?_, fun s hout hp => ?_, fun s hout => ?_, fun s hout => refuses_resetPart_d hout,
    fun s => ⟨fun hcause hvdd hrst => ?_, fun h => ?_⟩⟩
  · have hp := causesWith_powerOn s
    exact ⟨beginCause .powerOn s, rfl, rfl, heldSound_beginCause .powerOn s, if_pos hp, rfl, recordCauses_powerOn _ hp⟩
  · have hp := causesWith_pin_powerOn h
    refine ⟨beginCause .pin s, rfl, rfl, heldSound_beginCause .pin s, rfl, ?_, if_neg (by simp [hp])⟩
    refine (recordCauses_other _ hp).trans ?_
    cases hout : isOut s
    · simp [causesWith_held _ hout, CauseSet.add]
    · simp [causesWith_out _ hout, CauseSet.add, CauseSet.empty]
  · have hp' : (causesWith .pin s).powerOn = true := by rw [causesWith_held _ hout]; exact hp
    exact ⟨beginCause .pin s, rfl, rfl, heldSound_beginCause .pin s, if_pos hp', recordCauses_powerOn _ hp'⟩
  · have hc := causesWith_out (s := beginFrame .s s) .command (by rwa [isOut_beginFrame])
    refine ⟨commandReset (beginFrame .s s), by rw [exec_resetPart, whenOut_of_isOut hout]; rfl, rfl,
      heldSound_commandReset _, rfl, ?_, ?_⟩
    · refine (heldBlocks_causes .command (beginFrame .s s)).trans ?_
      simp [hc, recordCauses, CauseSet.add, CauseSet.empty]
    · refine (heldBlocks_cc .command (beginFrame .s s)).trans ?_
      rw [hc, beginFrame_cc]
      rfl
  · simp [exec_resetCauseEnd, causeEnds, hcause, Pins.holdsCause, hvdd, hrst, Config.resetHold]
  · have hstays : ¬(s.rst.progress = .cause && !s.pins.holdsCause) = true := by
      simp only [Pins.holdsCause, Bool.and_eq_true, decide_eq_true_eq, Bool.not_eq_true', Bool.or_eq_false_iff]
      rintro ⟨hcause, hvdd, hrst⟩
      simp [hcause, hvdd, hrst] at h
    rw [exec_resetCauseEnd, causeEnds, if_neg hstays]

/-- R107, R192: what the end of the hold posts, before the STANDBY frame falls due. -/
def holdTold (s : State) : State :=
  forEach (fun _ => post .clockFault 0) (List.range s.rst.clockFaults)
    (post .resetReport (reportedCause s.rst).code (s.setRst { s.rst with progress := .out, clockFaults := 0 }))

theorem comeOut_eq (s : State) : comeOut s = txDue .standby (holdTold s) := rfl

theorem holdTold_frame (s : State) : OnlyChanges [.events] (s.setRst { s.rst with progress := .out, clockFaults := 0 }) (holdTold s) :=
  (post_frame _ _ _).trans (forEach_frame (fun _ t => post_frame t _ _) _ _)

theorem comeOut_posted (s : State) : Posted .resetReport (reportedCause s.rst).code s (comeOut s) := by
  have hreport : Posted .resetReport (reportedCause s.rst).code s _ :=
    (NotPosted.of_frame (setRst_frame s { s.rst with progress := .out, clockFaults := 0 }) (by decide)).trans_posted
      (posted_post _ _ _)
  have hfaults : Tells [.clockFault] _ (holdTold s) := forEach_tells _ (fun _ _ u => post_tells .clockFault (by decide) u) _
  exact (hreport.trans_notPosted (hfaults.notPosted (by decide))).trans_notPosted
    (.of_frame (txDue_frame _ _) (by decide))

/-- R107: the clock faults found in the reset are posted, one for each. -/
theorem comeOut_clockFault (s : State) (p : Port) : ((comeOut s).port p).events.get EventKind.clockFault.number =
    (EventRecord.posted 0)^[s.rst.clockFaults] ((s.port p).events.get EventKind.clockFault.number) := by
  rw [comeOut_eq, txDue_port, holdTold, forEach_post_events, List.length_range,
    notPosted_post (k := .resetReport) (by decide) _ _ p, State.setRst_port]

theorem reportedCause_code (r : Reset) : (reportedCause r).code = if r.causes.powerOn then 0 else r.latest.code := by
  unfold reportedCause
  split <;> rfl

/-- Settles O11: the end of the hold by the two postings and the frame of `comeOut`. -/
theorem holdEndBringsThePartOut : Obligations.HoldEndBringsThePartOut := by
  have hstart (s : State) : s.rst.progress.isHold = true ↔ ∃ n, s.rst.progress = .hold n := isHold_iff _
  refine ⟨rfl, fun s => ⟨lapses_of_timed (exec_resetHoldEnd s) (hstart s) decide_eq_true_iff, fun h =>
    ⟨comeOut (ranBy .resetHoldEnd s), acts_of_timed (exec_resetHoldEnd s) (hstart s) decide_eq_true_iff h, isOut_comeOut _, ?_⟩⟩⟩
  have hran := ranBy_frame .resetHoldEnd s
  have hquiet (k : EventKind) : NotPosted k s (ranBy .resetHoldEnd s) := .of_frame hran (by decide)
  have hset := setRst_frame (ranBy .resetHoldEnd s) { s.rst with progress := .out, clockFaults := 0 }
  have htold : (holdTold (ranBy .resetHoldEnd s)).rlu = s.rlu := (holdTold_frame _).rlu (by decide)
  refine ⟨?_, fun p => ?_, fun k hreport hfault => ?_, ?_, ?_, ?_, ?_, ?_⟩
  · rw [← reportedCause_code]
    exact (hquiet _).trans_posted (comeOut_posted _)
  · have hfaults := comeOut_clockFault (ranBy .resetHoldEnd s) p
    rw [hquiet .clockFault p, iterate_posted] at hfaults
    refine hfaults.trans ?_
    have hmin (n : Nat) : min 255 n = if n ≤ 255 then n else 255 := by split <;> omega
    rw [hmin]
    rfl
  · exact (hquiet k).trans ((NotPosted.of_frame hset (by decide)).trans ((comeOut_tells _).notPosted (by simp [hreport, hfault])))
  · exact (frameDue_txDue .standby _).of_rlu (congrArg (·.sending) htold) (congrArg (·.waiting) htold)
  · have hrlu := txDue_rlu_but_frames .standby (holdTold (ranBy .resetHoldEnd s))
    rw [htold] at hrlu
    exact hrlu
  · exact (comeOut_frame_out _).rst (by decide)
  · exact (comeOut_frame _).due (by decide)
  · exact .after (comeOut_frame _) (by decide) (hran.mono (by decide))

end Sys2Proof.Machine
end

section
/-! SUPPORT. What one update of the lamp table stores in each lamp, and what a taken frame brings before its request (R170). -/
namespace Sys2Proof.Machine

/-! ### Stored contributions -/

section stored
variable {l m : Lamp}

/-- A quantity of a lamp that an update does not form itself is the same in two lamps that store the same. -/
theorem Lamp.eq_of_stored {α : Type} (f : Lamp → α) (hf : ∀ l : Lamp, f l = f l.stored) (h : l.stored = m.stored) : f l = f m := by
  rw [hf, h, ← hf]

end stored

theorem lampUpdate_stored (change : Fin 48 → Lamp → Lamp) (s : State) (n : Fin 48) :
    ((lampUpdate change s).lamps.get n).stored = (change n (s.lamps.get n)).stored := by
  rw [lampUpdate_lamps, updatedLamps_stored]

theorem lossNow_congr {s t : State} (h : sourceLive t = sourceLive s) (l : Lamp) : lossNow t l = lossNow s l := by
  have hd : t.portD.live = s.portD.live := congrFun h .portD
  have hs : t.portS.live = s.portS.live := congrFun h .portS
  have hr : t.rlu.live = s.rlu.live := congrFun h .recorder
  rw [lossNow, hd, hs, hr]
  rfl

/-- R54: once they are formed again, the loss contributions stand as they would now be formed. -/
theorem reformLoss_loss (s : State) (n : Fin 48) :
    ((reformLoss s).lamps.get n).loss = lossNow (reformLoss s) ((reformLoss s).lamps.get n) := by
  have h := lampUpdate_stored (fun _ l => { l with loss := lossNow s l }) s n
  rw [lossNow_congr (t := reformLoss s) (s := s) ((lampUpdate_frame s _).sources (by decide) (by decide))]
  exact (Lamp.eq_of_stored (·.loss) (fun _ => rfl) h).trans (Lamp.eq_of_stored (lossNow s) (fun _ => rfl) h).symm

/-- R54: forming the loss contributions again leaves every other contribution. -/
theorem reformLoss_stored (s : State) (n : Fin 48) :
    { ((reformLoss s).lamps.get n).stored with loss := (s.lamps.get n).loss } = (s.lamps.get n).stored := by
  rw [reformLoss, lampUpdate_stored]
  rfl

/-! ### What a taken frame brings -/

section beginFrame
variable {p : Port} {s : State}

theorem beginFrame_of_live (h : (s.port p).live = true) :
    beginFrame p s = restartTimer p (clearFresh p (shiftOut p (some 192) s)) := by
  have hlive : ((clearFresh p (shiftOut p (some 192) s)).port p).live = true := by simp [(clearFresh_port p p _).1, h]
  rw [beginFrame, returnSource, if_pos hlive]

theorem beginFrame_frame_live (h : (s.port p).live = true) : OnlyChanges [.ports, .spi] s (beginFrame p s) := by
  rw [beginFrame_of_live h]
  exact .after (restartTimer_frame p _) (by decide) <| .after (clearFresh_frame p _) (by decide) <|
    (shiftOut_frame p s _).mono (by decide)

/-- R172: the state in which the source of a taken frame has become LIVE. -/
def sourceBack (p : Port) (s : State) : State :=
  let t := clearFresh p (shiftOut p (some 192) s)
  t.setPort p { t.port p with live := true }

theorem sourceBack_frame (p : Port) (s : State) : OnlyChanges [.spi, .ports] s (sourceBack p s) :=
  .after (setPort_frame p _ rfl rfl) (by decide) <| .after (clearFresh_frame p _) (by decide) <|
    (shiftOut_frame p s _).mono (by decide)

theorem beginFrame_of_silent (h : (s.port p).live = false) :
    beginFrame p s = restartTimer p (reformLoss (post .sourceRestored (portSource p).code (sourceBack p s))) := by
  have hlive : ¬((clearFresh p (shiftOut p (some 192) s)).port p).live = true := by simp [(clearFresh_port p p _).1, h]
  rw [beginFrame, returnSource, if_neg hlive, sourceBack]

theorem restartTimer_fresh (p q : Port) (s : State) : ((restartTimer p s).port q).fresh = (s.port q).fresh := by
  unfold restartTimer
  split
  · rfl
  · rw [State.setPort_port]
    split
    · next h => rw [h]
    · rfl

theorem restartTimer_port_other {q : Port} (h : q ≠ p) : (restartTimer p s).port q = s.port q := by
  unfold restartTimer
  split
  · rfl
  · exact State.setPort_port_other _ _ _ h

/-- R169: fresh is clear once a frame has been taken. -/
theorem beginFrame_fresh : ((beginFrame p s).port p).fresh = false := by
  have hclear : ((clearFresh p (shiftOut p (some 192) s)).port p).fresh = false := by simp [clearFresh]
  rw [beginFrame, restartTimer_fresh, returnSource]
  split
  · exact hclear
  · rw [reformLoss, lampUpdate_fresh, post_fresh, State.setPort_port_same]
    exact hclear

/-- A frame of a LIVE port leaves the other port as it is. -/
theorem beginFrame_port_other (h : (s.port p).live = true) {q : Port} (hq : q ≠ p) : (beginFrame p s).port q = s.port q := by
  rw [beginFrame_of_live h, restartTimer_port_other hq, clearFresh, State.setPort_port_other _ _ _ hq, shiftOut_port]

/-- R172: a frame of a SILENT port posts SOURCE_RESTORED. -/
theorem beginFrame_posted (h : (s.port p).live = false) :
    Posted .sourceRestored (portSource p).code s (beginFrame p s) := by
  rw [beginFrame_of_silent h]
  have hpost : Posted .sourceRestored (portSource p).code s (post .sourceRestored (portSource p).code (sourceBack p s)) :=
    (NotPosted.of_frame (sourceBack_frame p s) (by decide)).trans_posted (posted_post _ _ _)
  exact (hpost.trans_notPosted ((lampUpdate_tells _ _).notPosted (by decide))).trans_notPosted
    (.of_frame (restartTimer_frame _ _) (by decide))

/-- R172: a frame of a SILENT port leaves the loss contributions formed again, and every other contribution. -/
theorem beginFrame_lamp (h : (s.port p).live = false) (n : Fin 48) :
    ((beginFrame p s).lamps.get n).loss = lossNow (beginFrame p s) ((beginFrame p s).lamps.get n) ∧
      { ((beginFrame p s).lamps.get n).stored with loss := (s.lamps.get n).loss } = (s.lamps.get n).stored := by
  generalize ht : post .sourceRestored (portSource p).code (sourceBack p s) = t
  have hlamps : t.lamps = s.lamps := by
    rw [← ht, post_lamps]
    exact (sourceBack_frame p s).lamps (by decide)
  have hsources : sourceLive (restartTimer p (reformLoss t)) = sourceLive (reformLoss t) :=
    sourceLive_congr (fun q => (restartTimer_port p q _).1) (congrArg (·.live) ((restartTimer_frame p _).rlu (by decide)))
  rw [beginFrame_of_silent h, ht, restartTimer_lamps, lossNow_congr hsources, ← hlamps]
  exact ⟨reformLoss_loss t n, reformLoss_stored t n⟩

theorem spi_congr {s t : State} (h : t.pins = s.pins) (p : Port) : t.spi p = s.spi p := by
  cases p
  · exact congrArg Pins.spiD h
  · exact congrArg Pins.spiS h

theorem beginFrame_spi (q : Port) : (beginFrame p s).spi q = (shiftOut p (some 192) s).spi q := spi_congr (beginFrame_pins p s) q

end beginFrame

end Sys2Proof.Machine
end

section
/-! SUPPORT. Bytes of a response, and what the commands of the ports reply (chapter 10). -/
namespace Sys2Proof.Machine

/-! ### Bytes (R193) -/

@[simp] theorem byteOf_toNat (b : Byte) : byteOf b.toNat = b := by simp [byteOf]

theorem byteOf_of_eq {b : Byte} {n : Nat} (h : b.toNat = n) : byteOf n = b := h ▸ byteOf_toNat b

@[simp] theorem bitByte_eq (c : Bool) : bitByte c = if c then 1 else 0 := by cases c <;> rfl

/-- R193: a quantity of one byte in a 16-bit field. -/
theorem word16_of_lt {n : Nat} (h : n < 256) : word16 n = [0, byteOf n] := by
  have hhi : hiByte (BitVec.ofNat 16 n) = 0 := BitVec.eq_of_toNat_eq (by simp [hiByte, Nat.shiftRight_eq_div_pow]; omega)
  have hlo : loByte (BitVec.ofNat 16 n) = byteOf n := BitVec.eq_of_toNat_eq (by simp [loByte, byteOf])
  rw [word16, wordBytes, hhi, hlo]

theorem toNat_eq_zero_iff (b : Byte) : b.toNat = 0 ↔ b = 0 := BitVec.toNat_inj (y := 0)

/-! ### The kind that a fetch picks (R182) -/

theorem foldl_max_eq {l : List Nat} {m : Nat} (hmem : m ∈ l) (hle : ∀ n ∈ l, n ≤ m) : l.foldl max 0 = m := by
  rw [List.foldl_eq_foldr]
  exact le_antisymm (List.max_le_of_forall_le _ _ hle) (List.le_max_of_le hmem le_rfl)

theorem mem_levels {t : Tab EventRecord 26} {n : Nat} :
    n ∈ (t.val.filter EventRecord.isPending).map (·.level) ↔ ∃ i, (t.get i).count ≠ 0 ∧ (t.get i).level = n := by
  simp only [List.mem_map, List.mem_filter, Tab.mem_val_iff, EventRecord.isPending, decide_eq_true_eq]
  constructor
  · rintro ⟨r, ⟨⟨i, rfl⟩, hpending⟩, hlevel⟩
    exact ⟨i, hpending, hlevel⟩
  · rintro ⟨i, hpending, hlevel⟩
    exact ⟨t.get i, ⟨⟨i, rfl⟩, hpending⟩, hlevel⟩

theorem topLevel_eq {t : Tab EventRecord 26} {k : Fin 26} (hk : (t.get k).count ≠ 0)
    (hle : ∀ j, (t.get j).count ≠ 0 → (t.get j).level ≤ (t.get k).level) : topLevel t = (t.get k).level := by
  refine foldl_max_eq (mem_levels.2 ⟨k, hk, rfl⟩) fun n hn => ?_
  obtain ⟨j, hj, rfl⟩ := mem_levels.1 hn
  exact hle j hj

theorem pickedKind_eq_none {t : Tab EventRecord 26} (h : ∀ k, (t.get k).count = 0) : pickedKind t = none := by
  rw [pickedKind, List.head?_eq_none_iff, List.eq_nil_iff_forall_not_mem]
  intro k hk
  rw [Tab.mem_indices] at hk
  simp [EventRecord.isPending, h k] at hk

/-- The first of the indices in rising order that satisfy a condition is the least of them. -/
theorem head?_filter_finRange {n : Nat} {p : Fin n → Bool} {k : Fin n} (hk : p k = true) (hle : ∀ j, p j = true → k ≤ j) :
    ((List.finRange n).filter p).head? = some k := by
  rw [List.head?_filter, List.find?_eq_some_iff_getElem]
  refine ⟨hk, k.val, by simp, by simp, fun j hj => ?_⟩
  rw [Bool.not_eq_true', Bool.eq_false_iff]
  intro hpj
  have := hle _ hpj
  simp only [List.getElem_finRange, Fin.le_def, Fin.val_cast] at this
  omega

/-- R182: the pending kind of the highest level and then of the lowest number. -/
theorem pickedKind_eq_some {t : Tab EventRecord 26} {k : Fin 26} (hk : (t.get k).count ≠ 0)
    (hbest : ∀ j, (t.get j).count ≠ 0 →
      (t.get j).level < (t.get k).level ∨ ((t.get j).level = (t.get k).level ∧ k ≤ j)) : pickedKind t = some k := by
  have htop : topLevel t = (t.get k).level := topLevel_eq hk fun j hj => (hbest j hj).elim Nat.le_of_lt fun h => h.1.le
  refine head?_filter_finRange (by simp [EventRecord.isPending, hk, htop]) fun j hj => ?_
  simp only [Bool.and_eq_true, EventRecord.isPending, decide_eq_true_eq, htop] at hj
  exact (hbest j hj.1).elim (fun h => absurd hj.2 (by omega)) (·.2)

/-! ### The kinds whose level is fixed (R179, R181) -/

theorem levelFixed_iff {p : Port} {kind : Byte} {k : Fin 26} (hk : kind.toNat = k.val) :
    levelFixed p k = true ↔ p = .s ∧ (kind = 0 ∨ kind = 1 ∨ kind = 3 ∨ kind = 17 ∨ kind = 25) := by
  cases p
  · simp [levelFixed]
  · simp only [levelFixed, fixedAtPortS, ← hk, Bool.or_eq_true, decide_eq_true_eq, ← BitVec.toNat_inj, true_and]
    simp [or_assoc]

theorem setEventLevelReply_range {p : Port} {kind level : Byte} {s : State} (h : 25 < kind.toNat ∨ 3 < level.toNat) :
    setEventLevelReply p kind level s = refuse .range s := by
  unfold setEventLevelReply
  split
  · rfl
  · next k hk =>
    have hkind := indexOf_eq_some_iff.1 hk
    rw [if_pos (by omega)]

/-- R181: a record under its new level; at level 0 an occurrence that is pending is removed. -/
theorem withLevel_toNat (level : Byte) (r : EventRecord) : r.withLevel level.toNat =
    if level = 0 then { level := 0, count := 0, argument := 0 } else { r with level := level.toNat } := by
  by_cases h : level = 0
  · subst h
    rfl
  · rw [EventRecord.withLevel, if_neg (mt (toNat_eq_zero_iff level).1 h), if_neg h]

theorem withLevel_level (level : Nat) (r : EventRecord) : (r.withLevel level).level = level := by
  unfold EventRecord.withLevel
  split <;> rfl

theorem setEventLevelReply_accepted {p : Port} {kind level : Byte} {k : Fin 26} (hk : kind.toNat = k.val)
    (hlevel : level.toNat ≤ 3) (hfree : ¬levelFixed p k = true) (s : State) :
    let old := (s.port p).events.get k
    let new : EventRecord :=
      if level = 0 then { level := 0, count := 0, argument := 0 } else { old with level := level.toNat }
    setEventLevelReply p kind level s = accept [kind, level, if new.count = 0 then 0 else 1, byteOf new.count]
      (s.setPort p { s.port p with events := (s.port p).events.set k new }) := by
  intro old new
  have hnew : old.withLevel level.toNat = new := withLevel_toNat level old
  have hdata : levelData k new = [kind, level, if new.count = 0 then 0 else 1, byteOf new.count] := by
    have hlevel : new.level = level.toNat := by rw [← hnew, withLevel_level]
    rw [levelData, hlevel, byteOf_toNat, byteOf_of_eq hk, bitByte_eq]
    simp [EventRecord.isPending]
  rw [setEventLevelReply, indexOf_eq_some hk]
  simp only [if_neg (Nat.not_lt.2 hlevel), if_neg hfree, modifyEvents, State.setPort_port_same, Tab.modify, Tab.get_set_same]
  rw [show EventRecord.withLevel level.toNat ((s.port p).events.get k) = new from hnew, hdata]

/-! ### Ticks (R103) -/

theorem tickOfCode_of_le {b : Byte} (h : b.toNat ≤ 4) :
    tickOfCode b = some (([.none, .second, .minute, .hour, .day] : List TickPeriod).getD b.toNat .none) ∧
      (([.none, .second, .minute, .hour, .day] : List TickPeriod).getD b.toNat .none).code = b.toNat := by
  have hcases : b.toNat = 0 ∨ b.toNat = 1 ∨ b.toNat = 2 ∨ b.toNat = 3 ∨ b.toNat = 4 := by omega
  rcases hcases with h | h | h | h | h <;> simp [tickOfCode, h, TickPeriod.code]

theorem tickOfCode_of_lt {b : Byte} (h : 4 < b.toNat) : tickOfCode b = none := by
  unfold tickOfCode
  split
  case h_6 => rfl
  all_goals omega

/-! ### The checks of a port alone -/

section port
variable {s : State}
@[simp] theorem ifPortS_portD (act : Reply) : ifPortS .d s act = refuse .notPermitted s := rfl
@[simp] theorem ifPortS_portS (act : Reply) : ifPortS .s s act = act := rfl
@[simp] theorem ifPortD_portD (act : Reply) : ifPortD .d s act = act := rfl
@[simp] theorem ifPortD_portS (act : Reply) : ifPortD .s s act = refuse .notPermitted s := rfl
end port

@[simp] theorem vehicleSpeed_beginFrame (p : Port) (s : State) : vehicleSpeed (beginFrame p s) = vehicleSpeed s := by
  simp [vehicleSpeed]

theorem respond_port (p q : Port) (r : Response) (s : State) :
    (respond p r s).port q = if q = p then { s.port p with response := r } else s.port q := State.setPort_port ..

end Sys2Proof.Machine
end

section
/-! CERTIFICATE. NOP, FETCH_EVENT, SET_EVENT_LEVEL, the config window and the commands that set one quantity (R170 to R182). -/
namespace Sys2Proof.Machine

/-! ### NOP (R170 to R173) -/

theorem exec_nop (p : Port) (s : State) : exec (.nop p) s = .next (takenFrame p 0x00 (accept []) s) := rfl

/-- Settles O3: NOP leaves what `beginFrame` leaves, with its response. -/
theorem takenFrameReturnsAndRestarts : Obligations.TakenFrameReturnsAndRestarts := by
  intro p s hout
  have hexec : exec (.nop p) s = .next (respond p { command := 0x00, result := .ok, data := .fill 0 } (beginFrame p s)) :=
    answers_of_takenFrame (exec_nop p s) hout rfl
  refine ⟨_, hexec, ?_⟩
  have hbegin := beginFrame_frame p s
  have hrespond := respond_frame p (beginFrame p s) { command := 0x00, result := .ok, data := .fill 0 }
  obtain ⟨hlive, htimer, hperiod⟩ := beginFrame_port p p s
  have hspi (q : Port) := (spi_congr (respond_pins p { command := 0x00, result := .ok, data := .fill 0 } (beginFrame p s)) q).trans
    (beginFrame_spi q)
  have hport (q : Port) (hq : q ≠ p) := (respond_port p q { command := 0x00, result := .ok, data := .fill 0 } (beginFrame p s)).trans
    (if_neg hq)
  simp only [respond_port, if_true]
  refine ⟨.after hrespond (by decide) (hbegin.mono (by decide)), by simp [hlive], beginFrame_fresh, hperiod, ?_, trivial, ?_,
    fun q hq => ?_, fun h => ⟨?_, ?_, ?_, fun q hq => ?_⟩, fun h => ⟨?_, fun i => ?_, fun k hk hk' => ?_, fun q hq => ?_⟩⟩
  · rw [htimer]
    simp
  · rw [hspi p, shiftOut_spi_same]
    cases (s.spi p).ended.head? <;> rfl
  · rw [hspi q, shiftOut_spi_other hq]
  · simp [beginFrame_of_live h, clearFresh]
  · simp [beginFrame_of_live h, clearFresh]
  · exact (beginFrame_frame_live h).events p (by decide)
  · simp [hq, beginFrame_port_other h hq]
  · exact (beginFrame_posted h).trans_notPosted (.of_frame hrespond (by decide))
  · obtain ⟨hloss, hstored⟩ := beginFrame_lamp h i
    rw [respond_lamps]
    exact ⟨hloss.trans (lossNow_congr (hrespond.sources (by decide) (by decide)) _).symm, congrArg (·.writtenD) hstored,
      congrArg (·.writtenS) hstored, congrArg (·.recorder) hstored⟩
  · exact ((beginFrame_tells s p).notPosted (by simp [hk, hk'])).trans (.of_frame hrespond (by decide))
  · obtain ⟨hlive', htimer', -⟩ := beginFrame_port p q s
    simp [hq, hlive', htimer', hbegin .responses (by decide) q]

/-! ### FETCH_EVENT (R182) -/

theorem exec_fetchEvent (p : Port) (s : State) : exec (.fetchEvent p) s = .next (takenFrame p 0x03 (fetchReply p) s) := rfl

/-- Settles O6: the reply of a fetch by the kind that `pickedKind` picks. -/
theorem fetchTakesMostUrgentKind : Obligations.FetchTakesMostUrgentKind := by
  refine fun p s hout => ⟨fun hnone => ?_, fun k hk hbest => ?_⟩
  · refine answers_of_takenFrame (r := accept [0xFF, 0, 0, 0] (beginFrame p s)) (exec_fetchEvent p s) hout ?_
    rw [fetchReply, pickedKind_eq_none hnone]
  · refine answers_of_takenFrame (r := accept _ (modifyEvents p (fun e => e.modify k EventRecord.removed) (beginFrame p s)))
      (exec_fetchEvent p s) hout ?_
    rw [fetchReply, pickedKind_eq_some hk hbest]
    simp [modifyEvents]
    rfl

/-! ### SET_EVENT_LEVEL (R181) -/

theorem exec_setEventLevel (p : Port) (kind level : Byte) (s : State) :
    exec (.setEventLevel p kind level) s = .next (takenFrame p 0x04 (setEventLevelReply p kind level) s) := rfl

/-- Settles O7: the two checks in order, and the record that `modifyEvents` changes. -/
theorem eventLevelSet : Obligations.EventLevelSet := by
  refine fun p kind level s hout => ⟨fun h => ?_, fun hkind hlevel hfixed => ?_, fun hlevel hfree k hk => ?_⟩
  · exact refuses_of_takenFrame (exec_setEventLevel ..) hout (setEventLevelReply_range h)
  · refine refuses_of_takenFrame (exec_setEventLevel ..) hout ?_
    have hidx : indexOf 26 kind = some ⟨kind.toNat, by omega⟩ := indexOf_eq_some rfl
    rw [setEventLevelReply, hidx]
    simp only [if_neg (Nat.not_lt.2 hlevel), (levelFixed_iff (k := ⟨kind.toNat, by omega⟩) rfl).2 hfixed, if_true]
  · have hnot : ¬levelFixed p k = true := fun h => hfree ((levelFixed_iff hk).1 h)
    exact answers_of_takenFrame (exec_setEventLevel ..) hout (setEventLevelReply_accepted hk hlevel hnot _)

/-! ### The config window, and the commands that set one quantity -/

section settings
variable (s : State)

theorem exec_openConfig (p : Port) (s : State) : exec (.openConfig p) s = .next (takenFrame p 0x05 (openConfigReply p) s) := rfl

theorem exec_closeConfig (p : Port) (s : State) : exec (.closeConfig p) s = .next (takenFrame p 0x06 (closeConfigReply p) s) := rfl

theorem exec_setSupervision (p : Port) (v w : Byte) (s : State) :
    exec (.setSupervision p v w) s = .next (takenFrame p 0x07 (setSupervisionReply p v w) s) := rfl

theorem exec_setDimming (p : Port) (v : Byte) (s : State) :
    exec (.setDimming p v) s = .next (takenFrame p 0x22 (setDimmingReply p v) s) := rfl

theorem exec_setSafetyFloor (p : Port) (v : Byte) (s : State) :
    exec (.setSafetyFloor p v) s = .next (takenFrame p 0x24 (setSafetyFloorReply p v) s) := rfl

theorem exec_setLocalOffset (p : Port) (v : Byte) (s : State) :
    exec (.setLocalOffset p v) s = .next (takenFrame p 0x52 (setLocalOffsetReply p v) s) := rfl

theorem exec_setTick (p : Port) (v : Byte) (s : State) :
    exec (.setTick p v) s = .next (takenFrame p 0x53 (setTickReply p v) s) := rfl

/-- R175: the vehicle speed value keeps the window shut at 1 km/h or more. -/
theorem openConfigReply_fast {x : Nat} (hx : vehicleSpeed s = some x) (h : 100 ≤ x) :
    openConfigReply .s s = refuse .notNow s := by
  simp [openConfigReply, tooFast, hx, Config.windowSpeed, h]

theorem openConfigReply_slow {x : Nat} (hx : vehicleSpeed s = some x) (h : x < 100) :
    openConfigReply .s s = accept [1, 1, 0, byteOf x] (s.setWindow true) := by
  simp [openConfigReply, tooFast, hx, Config.windowSpeed, Nat.not_le.2 h, word16_of_lt (show x < 256 by omega)]

theorem openConfigReply_none (h : vehicleSpeed s = none) : openConfigReply .s s = accept [1, 0, 0, 0] (s.setWindow true) := by
  simp [openConfigReply, tooFast, h, word16_of_lt (show 0 < 256 by decide), byteOf]

theorem closeWindow_of_closed (h : s.window = false) : closeWindow s = s := if_neg (by simp [h])

theorem closeWindow_of_open (h : s.window = true) : closeWindow s =
    (s.setWindow false).setGe { s.ge with channels := s.ge.channels.map Channel.dropPending } := if_pos h

theorem setTickReply_of_le (p : Port) {v : Byte} (h : v.toNat ≤ 4) : setTickReply p v s = accept [v] (s.setCc
    (s.cc.withTick (([.none, .second, .minute, .hour, .day] : List TickPeriod).getD v.toNat .none) p)) := by
  obtain ⟨hk, hcode⟩ := tickOfCode_of_le h
  simp only [setTickReply, hk, hcode, byteOf_toNat]

end settings

/-- Settles O8: each command by its checks and its reply. -/
theorem windowAndSettings : Obligations.WindowAndSettings := by
  intro p v w s hout d b newD newS floor q k
  have hwb : b.window = s.window := beginFrame_window .s s
  have hspeed : vehicleSpeed b = vehicleSpeed s := vehicleSpeed_beginFrame .s s
  refine ⟨⟨refuses_of_takenFrame (exec_openConfig ..) hout rfl, refuses_of_takenFrame (exec_closeConfig ..) hout rfl,
    fun x hx h => ?fast, fun x hx h => ?slow, fun h => ?none, fun h => ?closed, fun h => ?closes⟩,
    refuses_of_takenFrame (exec_setSupervision ..) hout rfl, fun h => ?_, fun h => ?_,
    refuses_of_takenFrame (exec_setDimming ..) hout rfl, ?dimming, refuses_of_takenFrame (exec_setSafetyFloor ..) hout rfl,
    fun h => ?_, fun h => ?floor, refuses_of_takenFrame (exec_setLocalOffset ..) hout rfl, ?offset, fun h => ?noTick, fun h => ?tick⟩
  case fast => exact refuses_of_takenFrame (exec_openConfig ..) hout (openConfigReply_fast _ (hspeed.trans hx) h)
  case slow => exact answers_of_takenFrame (exec_openConfig ..) hout (openConfigReply_slow _ (hspeed.trans hx) h)
  case none => exact answers_of_takenFrame (exec_openConfig ..) hout (openConfigReply_none _ (hspeed.trans h))
  case closed =>
    have hanswer := answers_of_takenFrame (exec_closeConfig .s s) hout rfl
    rwa [closeConfigReply, ifPortS_portS, closeWindow_of_closed _ (hwb.trans h)] at hanswer
  case closes =>
    have hanswer := answers_of_takenFrame (exec_closeConfig .s s) hout rfl
    rwa [closeConfigReply, ifPortS_portS, closeWindow_of_open _ (hwb.trans h), beginFrame_ge] at hanswer
  · exact refuses_of_takenFrame (exec_setSupervision ..) hout (ifConfigurable_closed _ (hwb.trans h))
  · exact answers_of_takenFrame (exec_setSupervision ..) hout (ifConfigurable_open _ (hwb.trans h))
  case dimming =>
    have hanswer := answers_of_takenFrame (exec_setDimming .d v s) hout rfl
    rwa [setDimmingReply, ifPortD_portD, beginFrame_lmd] at hanswer
  · exact refuses_of_takenFrame (exec_setSafetyFloor ..) hout (ifConfigurable_closed _ (hwb.trans h))
  case floor =>
    have hfloor : clamp 4 16 v.toNat = floor := by
      simp only [clamp, floor]
      split_ifs <;> omega
    have hanswer := answers_of_takenFrame (exec_setSafetyFloor .s v s) hout (ifConfigurable_open _ (hwb.trans h))
    rwa [hfloor, beginFrame_lmd] at hanswer
  case offset =>
    have hq : offsetOfByte v = q := by
      simp only [offsetOfByte, q]
      split_ifs <;> omega
    have hanswer := answers_of_takenFrame (exec_setLocalOffset .d v s) hout rfl
    rwa [setLocalOffsetReply, ifPortD_portD, hq, beginFrame_cc] at hanswer
  case noTick =>
    refine refuses_of_takenFrame (exec_setTick ..) hout ?_
    rw [setTickReply, tickOfCode_of_lt h]
  case tick =>
    have hanswer := answers_of_takenFrame (exec_setTick ..) hout (setTickReply_of_le (beginFrame p s) p h)
    rw [beginFrame_cc] at hanswer
    cases p <;> exact hanswer

end Sys2Proof.Machine
end

section
/-! SUPPORT. The chime queue and the outcomes of a request (R85 to R89). -/
namespace Sys2Proof.Machine

/-! ### A queue in order -/

section queue
variable {q : List Chime} {c v : Chime}

/-- R85: in an ordered queue a new entry stands behind those of its priority or a higher one, and before the others. -/
theorem placeChime_eq (h : q.Pairwise Chime.Precedes) (c : Chime) :
    placeChime c q = q.filter (c.priority ≤ ·.priority) ++ c :: q.filter (·.priority < c.priority) := by
  have hhigh : ∀ d ∈ q.takeWhile (fun d => c.priority ≤ d.priority), c.priority ≤ d.priority := fun d hd => by
    simpa using List.mem_takeWhile_imp hd
  have hlow : ∀ d ∈ q.dropWhile (fun d => c.priority ≤ d.priority), d.priority < c.priority := fun d hd =>
    priority_lt_of_mem_dropWhile h hd
  have hparts := List.takeWhile_append_dropWhile (p := fun d : Chime => decide (c.priority ≤ d.priority)) (l := q)
  have htake : q.takeWhile (fun d => c.priority ≤ d.priority) = q.filter (c.priority ≤ ·.priority) := by
    conv_rhs => rw [← hparts, List.filter_append, List.filter_eq_self.2 (by simpa using hhigh),
      List.filter_eq_nil_iff.2 (by simpa using hlow), List.append_nil]
  have hdrop : q.dropWhile (fun d => c.priority ≤ d.priority) = q.filter (·.priority < c.priority) := by
    conv_rhs => rw [← hparts, List.filter_append, List.filter_eq_nil_iff.2 (by simpa using hhigh),
      List.filter_eq_self.2 (by simpa using hlow), List.nil_append]
  rw [placeChime, htake, hdrop]

theorem length_placed (n : Nat) (c : Chime) (q : List Chime) :
    (q.filter (n ≤ ·.priority) ++ c :: q.filter (·.priority < n)).length = q.length + 1 := by
  have hsplit := List.length_eq_length_filter_add (l := q) fun d => decide (n ≤ d.priority)
  simp only [← decide_not, Nat.not_le] at hsplit
  rw [List.length_append, List.length_cons]
  omega

/-- R87: the lowest priority of a queue whose last entry has no higher one than the others. -/
theorem lowestPriority_concat (hv : v.priority ≤ 3) (h : ∀ d ∈ q, v.priority ≤ d.priority) :
    lowestPriority (q ++ [v]) = v.priority := by
  induction q with
  | nil => exact min_eq_left hv
  | cons c q ih =>
    rw [List.cons_append, lowestPriority, ih fun d hd => h d (List.mem_cons_of_mem _ hd)]
    exact min_eq_right (h c List.mem_cons_self)

/-- R87: the latest of the entries of a priority. -/
theorem latestOf_concat (h : ∀ d ∈ q, d.priority = v.priority → d.arrival < v.arrival) :
    latestOf v.priority (q ++ [v]) = some v := by
  induction q with
  | nil => simp [latestOf]
  | cons c q ih =>
    rw [List.cons_append, latestOf, ih fun d hd => h d (List.mem_cons_of_mem _ hd)]
    split
    · next hc => exact if_neg (Nat.not_le.2 (h c List.mem_cons_self hc))
    · rfl

/-- R85: what stands before the last entry of an ordered queue. -/
theorem before_last (h : (q ++ [v]).Pairwise Chime.Precedes) :
    (∀ d ∈ q, v.priority ≤ d.priority) ∧ (∀ d ∈ q, d.priority = v.priority → d.arrival < v.arrival) ∧ v ∉ q := by
  have hbefore (d : Chime) (hd : d ∈ q) : d.Precedes v := (List.pairwise_append.1 h).2.2 d hd v List.mem_cons_self
  have hcases (d : Chime) (hd : d ∈ q) := (Chime.before_iff d v).1 (hbefore d hd).1
  exact ⟨fun d hd => by have := hcases d hd; omega, fun d hd he => by have := hcases d hd; omega,
    fun hv => (hbefore v hv).2 ⟨rfl, rfl⟩⟩

theorem dropLast_concat_getLastD (hne : q ≠ []) (c : Chime) : q.dropLast ++ [q.getLastD c] = q := by
  rw [List.getLastD_eq_getLast?, List.getLast?_eq_some_getLast hne]
  exact List.dropLast_append_getLast hne

theorem getLastD_lowest (h : q.Pairwise Chime.Precedes) (hne : q ≠ []) (c : Chime) :
    ∀ d ∈ q, (q.getLastD c).priority ≤ d.priority := by
  have hq := dropLast_concat_getLastD hne c
  intro d hd
  rw [← hq] at hd
  rcases List.mem_append.1 hd with hd | hd
  · exact (before_last (hq.symm ▸ h)).1 d hd
  · rw [List.mem_singleton.1 hd]

end queue

/-! ### Starting and placing (R85, R89) -/

section unit
variable {u : ChimeUnit} {d : Sound} {n : Nat} {r : Origin}

theorem ChimeUnit.startHead_busy (h : u.playing ≠ none ∨ u.gap ≠ none) : u.startHead = u := by
  unfold startHead
  split
  · next c rest hplay hgap _ => exact absurd h (by simp [hplay, hgap])
  · rfl

theorem ChimeUnit.startHead_empty (h : u.queue = []) : u.startHead = u := by
  unfold startHead
  split
  · next hqueue => rw [h] at hqueue; cases hqueue
  · rfl

theorem ChimeUnit.startHead_idle {c : Chime} {rest : List Chime} (hplay : u.playing = none) (hgap : u.gap = none)
    (hqueue : u.queue = c :: rest) : u.startHead = { u with queue := rest, playing := some { chime := c, elapsed := 0 } } := by
  simp [startHead, hplay, hgap, hqueue]

/-- R85: behind an entry in play or a gap a new entry waits in its place. -/
theorem ChimeUnit.place_busy (h : u.queue.Pairwise Chime.Precedes) (hbusy : u.playing ≠ none ∨ u.gap ≠ none) :
    u.place d n r = { u with
      queue := u.queue.filter (n ≤ ·.priority) ++
        { sound := d, priority := n, origin := r, arrival := u.arrivals + 1 } :: u.queue.filter (·.priority < n)
      arrivals := u.arrivals + 1 } := by
  rw [place, startHead_busy (by exact hbusy), placeChime_eq h]

/-- R89: with nothing in play, waiting or gone by a gap, a new entry starts at once. -/
theorem ChimeUnit.place_idle (hqueue : u.queue = []) (hplay : u.playing = none) (hgap : u.gap = none) :
    u.place d n r = { u with
      playing := some { chime := { sound := d, priority := n, origin := r, arrival := u.arrivals + 1 }, elapsed := 0 }
      arrivals := u.arrivals + 1 } := by
  rw [place, startHead_idle (rest := []) (by exact hplay) (by exact hgap) (by rw [hqueue]; rfl), hqueue]

/-! ### The outcomes of a request (R86, R87) -/

theorem ChimeUnit.request_merged (h : ∃ c ∈ u.queue, c.sound = d ∧ c.origin = r) : u.request d n r = (u, .merged, none) := by
  rw [request, if_pos (by simpa using h)]

section new
variable (hnew : ¬∃ c ∈ u.queue, c.sound = d ∧ c.origin = r)
include hnew

theorem ChimeUnit.request_started (hqueue : u.queue = []) (hplay : u.playing = none) (hgap : u.gap = none) :
    u.request d n r = (u.place d n r, .started, none) := by
  rw [request, if_neg (by simpa using hnew), if_pos (by simp [hqueue])]
  simp [hqueue, hplay, hgap]

theorem ChimeUnit.request_queued (hbusy : u.playing ≠ none ∨ u.gap ≠ none) (hlen : u.queue.length < 8) :
    u.request d n r = (u.place d n r, .queued, none) := by
  have hidle : ¬(u.playing.isNone && u.gap.isNone && u.queue.isEmpty) = true := by
    simp only [Bool.and_eq_true, Option.isNone_iff_eq_none]
    rintro ⟨⟨hplay, hgap⟩, -⟩
    exact hbusy.elim (· hplay) (· hgap)
  rw [request, if_neg (by simpa using hnew), if_pos hlen]
  simp only [if_neg hidle]

/-- R87: a full queue none of whose entries has a lower priority drops the request. -/
theorem ChimeUnit.request_dropped (hlen : u.queue.length = 8) (hle : ∀ c ∈ u.queue, n ≤ c.priority) :
    u.request d n r = (u, .dropped, some r) := by
  rw [request, if_neg (by simpa using hnew), if_neg (by omega)]
  split
  · next victim hv => rw [if_neg (Nat.not_lt.2 (hle victim (latestOf_mem hv)))]
  · rfl

/-- R87: a full queue gives up its last entry to a request of a higher priority. -/
theorem ChimeUnit.request_evicts {front : List Chime} {victim : Chime} (hq : u.queue = front ++ [victim])
    (horder : u.queue.Pairwise Chime.Precedes) (hlen : u.queue.length = 8) (hv : victim.priority ≤ 3)
    (hlt : victim.priority < n) :
    u.request d n r = (({ u with queue := front } : ChimeUnit).place d n r, .evicted, some victim.origin) := by
  obtain ⟨hlow, hlate, hnot⟩ := before_last (hq ▸ horder)
  have hvictim : latestOf (lowestPriority u.queue) u.queue = some victim := by
    rw [hq, lowestPriority_concat hv hlow, latestOf_concat hlate]
  have herase : u.queue.erase victim = front := by
    rw [hq, List.erase_append_right _ hnot]
    simp
  rw [request, if_neg (by simpa using hnew), if_neg (by omega), hvictim]
  simp only [if_pos hlt, herase]

end new

end unit

/-! ### Codes and data (R84, R93) -/

theorem soundOfCode_of_le {b : Byte} (h : b.toNat ≤ 3) :
    soundOfCode b = some (([.tick, .tock, .single, .triple] : List Sound).getD b.toNat .tick) ∧
      (([.tick, .tock, .single, .triple] : List Sound).getD b.toNat .tick).code = b.toNat := by
  have hcases : b.toNat = 0 ∨ b.toNat = 1 ∨ b.toNat = 2 ∨ b.toNat = 3 := by omega
  rcases hcases with h | h | h | h <;> simp [soundOfCode, h, Sound.code]

theorem soundOfCode_of_lt {b : Byte} (h : 3 < b.toNat) : soundOfCode b = none := by
  unfold soundOfCode
  split
  case h_5 => rfl
  all_goals omega

theorem playData_eq (u : ChimeUnit) : playData u = match u.playing with
    | some q => [byteOf q.chime.sound.code, byteOf q.chime.origin.classCode]
    | none => [0xFF, 0xFF] := by
  unfold playData
  split <;> next h => simp [h, byteOrAbsent, byteOf]

theorem playedOut_iff (u : ChimeUnit) : u.playedOut = true ↔ ∃ q ∈ u.playing, q.chime.sound.length ≤ q.elapsed := by
  unfold ChimeUnit.playedOut
  split <;> next h => simp [h]

/-- R93: a byte is 0 to 3, the codes of the sounds. -/
theorem requestChimeReply_of_sound {p : Port} {code prio : Byte} {sound : Sound} {s t : State} {o : ChimeOutcome}
    (hin : inCycle s = true) (hsound : soundOfCode code = some sound)
    (h : chimeRequest sound (min 2 prio.toNat) (portOrigin p) s = (t, o)) :
    requestChimeReply p code prio s = accept ([byteOf o.code, byteOf t.cu.queue.length] ++ playData t.cu) t := by
  rw [requestChimeReply, hsound]
  simp only [if_pos hin, h]

section request
variable {sound : Sound} {n : Nat} {r r' : Origin} {s : State} {u : ChimeUnit} {o : ChimeOutcome} (hin : inCycle s = true)
include hin

theorem chimeRequest_kept (h : s.cu.request sound n r = (u, o, none)) : chimeRequest sound n r s = (s.setCu u, o) := by
  rw [chimeRequest, if_pos hin, h]

theorem chimeRequest_lost (h : s.cu.request sound n r = (u, o, some r')) :
    chimeRequest sound n r s = (post .chimeDropped r'.classCode (s.setCu u), o) := by
  rw [chimeRequest, if_pos hin, h]

end request

end Sys2Proof.Machine
end

section
/-! CERTIFICATE. The commands and the timers of the Chime Unit (R89, R93, R94). -/
namespace Sys2Proof.Machine

theorem exec_requestChime (p : Port) (code prio : Byte) (s : State) :
    exec (.requestChime p code prio) s = .next (takenFrame p 0x30 (requestChimeReply p code prio) s) := rfl

theorem exec_cancelChimes (p : Port) (s : State) :
    exec (.cancelChimes p) s = .next (takenFrame p 0x31 (cancelChimesReply p) s) := rfl

theorem exec_chimeEnd (s : State) : exec .chimeEnd s =
    .next (timed .chimeEnd s.cu.playing.isSome s.cu.playedOut (whenOut fun s => s.setCu s.cu.endPlay) s) := rfl

theorem exec_gapEnd (s : State) : exec .gapEnd s =
    .next (timed .gapEnd s.cu.gap.isSome (ranOut s.cu.gap) (whenOut fun s => s.setCu s.cu.endGap) s) := rfl

/-- R94: the entries of an origin are those that its cancelling takes out of the queue. -/
theorem length_sub_cancel (r : Origin) (u : ChimeUnit) :
    u.queue.length - (u.cancel r).queue.length = (u.queue.filter fun c => c.origin = r).length := by
  have hsplit := List.length_eq_length_filter_add (l := u.queue) fun c => decide (c.origin = r)
  have hkept : (u.cancel r).queue = u.queue.filter fun c => !decide (c.origin = r) := by simp [ChimeUnit.cancel]
  rw [hkept]
  omega

theorem cancelChimesReply_eq (p : Port) (s : State) : cancelChimesReply p s =
    accept ([byteOf (s.cu.queue.filter fun c => c.origin = portOrigin p).length,
      byteOf (s.cu.queue.filter fun c => c.origin ≠ portOrigin p).length] ++ playData s.cu)
      (s.setCu (s.cu.cancel (portOrigin p))) := by
  rw [cancelChimesReply, length_sub_cancel]
  rfl

/-- Settles O28: the cancelled queue, and the two timers by `timed`. -/
theorem chimesCancelledAndSpaced : Obligations.ChimesCancelledAndSpaced := by
  intro p s hout b u own kept
  refine ⟨?cancel, ?_⟩
  case cancel =>
    have hanswer := answers_of_takenFrame (exec_cancelChimes p s) hout (cancelChimesReply_eq p _)
    rw [playData_eq] at hanswer
    cases p <;> exact hanswer
  intro played gapEnds
  have hgap (hcomes : gapEnds) : exec .gapEnd s = .next ((ranBy .gapEnd s).setCu s.cu.endGap) := by
    rw [acts_of_timed (exec_gapEnd s) Option.isSome_iff_ne_none ranOut_iff hcomes, whenOut_of_isOut (by simpa using hout)]
    rfl
  refine ⟨lapses_of_timed (exec_chimeEnd s) Option.isSome_iff_ne_none (playedOut_iff _),
    lapses_of_timed (exec_gapEnd s) Option.isSome_iff_ne_none ranOut_iff, fun hcomes => ?_, fun hcomes hempty => ?_,
    fun head hhead hcomes hplay => ?_⟩
  · rw [acts_of_timed (exec_chimeEnd s) Option.isSome_iff_ne_none (playedOut_iff _) hcomes,
      whenOut_of_isOut (by simpa using hout)]
    rfl
  · rw [hgap hcomes, ChimeUnit.endGap, ChimeUnit.startHead_empty (by exact hempty)]
  · obtain ⟨rest, hqueue⟩ : ∃ rest, s.cu.queue = head :: rest := List.head?_eq_some_iff.1 hhead
    rw [hgap hcomes, ChimeUnit.endGap, ChimeUnit.startHead_idle (by exact hplay) rfl (by exact hqueue), hqueue]
    rfl

/-- Settles O27: the reply by the outcome of `ChimeUnit.request`. -/
theorem chimeRequestSettled : Obligations.ChimeRequestSettled := by
  intro p code priority s hout cmd b u level cycle playing mine own
  have hcycle : inCycle b = true ↔ cycle := by rw [inCycle_iff, beginFrame_pwc]
  have hmine : portOrigin p = mine := by cases p <;> rfl
  have hclass : (portOrigin p).classCode = own.toNat := by cases p <;> rfl
  have hanswers {sound : Sound} {t : State} {o : ChimeOutcome} {data : List Byte} (hc : cycle)
      (hsound : soundOfCode code = some sound) (h : chimeRequest sound level mine b = (t, o))
      (hdata : [byteOf o.code, byteOf t.cu.queue.length] ++ playData t.cu = data) : Answers cmd p 0x30 .ok data s t := by
    subst hdata
    exact answers_of_takenFrame (exec_requestChime p code priority s) hout
      (requestChimeReply_of_sound (hcycle.2 hc) hsound (hmine ▸ h))
  refine ⟨fun hrange => ?_, fun hrange hc => ?_, fun hrange hc => ?_⟩
  · refine refuses_of_takenFrame (exec_requestChime ..) hout ?_
    rw [requestChimeReply, soundOfCode_of_lt hrange]
  · refine refuses_of_takenFrame (exec_requestChime ..) hout ?_
    rw [requestChimeReply, (soundOfCode_of_le hrange).1]
    exact if_neg (mt hcycle.1 hc)
  · obtain ⟨hsound, hcode⟩ := soundOfCode_of_le hrange
    have hin := hcycle.2 hc
    intro sound entry queued twin busy last
    refine ⟨fun htwin => ?_, fun hqueue hidle => ?_, fun horder htwin hbusy hlen => ?_, fun horder htwin hbusy hlen =>
      ⟨fun hlow => ?_, fun hhigh => ?_⟩⟩
    · exact hanswers hc hsound (chimeRequest_kept hin (ChimeUnit.request_merged htwin)) (by rw [playData_eq]; rfl)
    · obtain ⟨hplay, hgap⟩ : u.playing = none ∧ u.gap = none := by simpa [busy] using hidle
      have hreq := chimeRequest_kept hin (ChimeUnit.request_started (d := sound) (n := level) (r := mine)
        (by simp [u, hqueue]) hqueue hplay hgap)
      rw [ChimeUnit.place_idle hqueue hplay hgap] at hreq
      refine hanswers hc hsound hreq ?_
      have hentry {c : ChimeUnit} (h : c.playing = some { chime := entry, elapsed := 0 }) : playData c = [code, own] := by
        rw [playData_eq, h]
        simp only [entry, sound, hcode, byteOf_toNat, mine, own]
        cases p <;> rfl
      rw [hentry rfl]
      simp [hqueue, ChimeOutcome.code, byteOf]
    · have hreq := chimeRequest_kept hin (ChimeUnit.request_queued (d := sound) (n := level) (r := mine) htwin hbusy hlen)
      rw [ChimeUnit.place_busy ((chimesOrdered_iff _).1 horder) hbusy] at hreq
      exact hanswers hc hsound hreq (by rw [playData_eq, State.setCu_cu, length_placed]; rfl)
    · have hdrop : ∀ c ∈ u.queue, level ≤ c.priority := fun c hcm => hlow.trans <|
        getLastD_lowest ((chimesOrdered_iff _).1 horder) (List.ne_nil_of_length_pos (by omega)) entry c hcm
      have hreq := chimeRequest_lost hin (ChimeUnit.request_dropped (d := sound) (r := mine) htwin hlen hdrop)
      have hcu : b.setCu b.cu = b := rfl
      rw [hcu, ← hmine, hclass] at hreq
      refine ⟨_, hanswers hc hsound (hmine ▸ hreq) ?_, posted_post _ _ b,
        fun k hk => notPosted_post hk _ b, post_frame b _ _⟩
      rw [playData_eq, post_cu, show b.cu.queue.length = 8 from hlen]
      rfl
    · have hpairs := (chimesOrdered_iff _).1 horder
      have hq : u.queue.dropLast ++ [last] = u.queue :=
        dropLast_concat_getLastD (List.ne_nil_of_length_pos (by omega)) entry
      have hfront : u.queue.dropLast.Pairwise Chime.Precedes := (List.pairwise_append.1 (hq.symm ▸ hpairs)).1
      have hreq := chimeRequest_lost hin (ChimeUnit.request_evicts (d := sound) (r := mine) htwin hq.symm hpairs hlen
        (by omega) hhigh)
      rw [ChimeUnit.place_busy (by exact hfront) (by exact hbusy)] at hreq
      refine ⟨_, hanswers hc hsound hreq ?_, ?_, posted_post _ _ (b.setCu _), fun k hk => notPosted_post hk _ (b.setCu _), ?_⟩
      · have hlength : u.queue.dropLast.length + 1 = 8 := by rw [List.length_dropLast, hlen]
        rw [playData_eq, post_cu, State.setCu_cu, length_placed, hlength]
        rfl
      · rw [post_cu]
        rfl
      · exact .after (post_frame _ _ _) (by decide) <| (setCu_frame b _).mono (by decide)

end Sys2Proof.Machine
end

section
/-! SUPPORT. How the data of an answer are laid out (12.3). -/
namespace Sys2Proof.Machine

/-! ### Padding -/

/-- The zeros that fill up an answer's data may stand in the list already. -/
theorem Tab.ofList_append_replicate {α : Type} {n : Nat} (a : α) (l : List α) (k : Nat) :
    (Tab.ofList a (l ++ List.replicate k a) : Tab α n) = Tab.ofList a l := by
  have hlist : (l ++ List.replicate k a ++ List.replicate n a).take n = (l ++ List.replicate n a).take n := by
    rw [List.append_assoc, List.replicate_append_replicate, Nat.add_comm, ← List.replicate_append_replicate,
      ← List.append_assoc, List.take_append_of_le_length (by simp)]
  simp only [Tab.ofList, hlist]

/-- The blocks at the first places of a list, with a block of its own beyond the list's end. -/
theorem flatten_blocks {α β : Type} (f : Option α → List β) (l : List α) (n : Nat) :
    ((List.range n).map fun k => f l[k]?).flatten =
      ((l.take n).map fun x => f (some x)).flatten ++ (List.replicate (n - l.length) (f none)).flatten := by
  induction l generalizing n with
  | nil => simp [List.map_const']
  | cons x l ih =>
    cases n with
    | zero => simp
    | succ n => simp [List.range_succ_eq_map, Function.comp_def, ih]

/-! ### Channels (R20) -/

/-- R20: the bytes of one curve point; a place beyond the curve reads 0. -/
def pointBytes (q : Option Point) : List Byte := word16 ((q.map Point.x).getD 0) ++ word16 ((q.map Point.a).getD 0)

theorem pointData_padded (curve : List Point) (start count : Nat) :
    ∃ k, ((List.range count).map fun j => pointBytes curve[start + j]?).flatten =
      pointData curve start count ++ List.replicate k 0 := by
  have hblocks := flatten_blocks pointBytes (curve.drop start) count
  have hzeros (n : Nat) : (List.replicate n (pointBytes none)).flatten = List.replicate (n * 4) (0 : Byte) :=
    List.flatten_replicate_replicate (a := (0 : Byte)) (m := 4)
  simp only [List.getElem?_drop, hzeros] at hblocks
  exact ⟨_, hblocks⟩

theorem pointData_answer (curve : List Point) (start count : Nat) :
    (Tab.ofList 0 (pointData curve start count) : Tab Byte 20) =
      Tab.ofList 0 ((List.range count).map fun j => pointBytes curve[start + j]?).flatten := by
  obtain ⟨k, hk⟩ := pointData_padded curve start count
  rw [hk, Tab.ofList_append_replicate]

/-! ### Lamps (R82) -/

theorem LampState.rank_odd (a : LampState) : (a.rank % 2 = 1) ↔ a = .on ∨ a = .fast := by cases a <;> decide

theorem LampState.two_le_rank (a : LampState) : 2 ≤ a.rank ↔ a = .slow ∨ a = .fast := by cases a <;> decide

/-! ### Drivers (R153, R154) -/

theorem slotOfNumber_eq_none {b : Byte} (h₁ : b ≠ 1) (h₂ : b ≠ 2) : slotOfNumber b = none := by
  unfold slotOfNumber
  split
  · next h => exact absurd (BitVec.eq_of_toNat_eq h) h₁
  · next h => exact absurd (BitVec.eq_of_toNat_eq h) h₂
  · rfl

/-- The code of a slot as a byte. -/
theorem slotOfNumber_code (slot : Slot) : slotOfNumber (match slot with | .one => 1 | .two => 2) = some slot := by
  cases slot <;> rfl

theorem byteOrAbsent_code (a : Option Activity) :
    byteOrAbsent (a.map Activity.code) = byteOf (match a with | some a => a.code | none => 255) := by
  cases a <;> rfl

theorem historyBytes_eq (e : HistoryEntry) : historyBytes e =
    [byteOf (e.activity.code + if e.timeUnset then 128 else 0)] ++ word32 e.start ++ word16 e.duration := by
  have hflags : ∀ (a : Activity) (u : Bool), flagByte [a.code % 2 = 1, a.code / 2 % 2 = 1, a.code / 4 % 2 = 1, false, false,
      false, false, u] = byteOf (a.code + if u then 128 else 0) := by
    intro a u
    cases a <;> cases u <;> decide
  rw [historyBytes, hflags]

/-- R154: the bytes of a history entry, none beyond the list's end. -/
def entryBytes (e : Option HistoryEntry) : List Byte :=
  match e with
  | some e => [byteOf (e.activity.code + if e.timeUnset then 128 else 0)] ++ word32 e.start ++ word16 e.duration
  | none => []

theorem historyData_eq (slot : Slot) (start : Nat) (r : DriverRecord) : historyData slot start r =
    [byteOf (slotNumber slot), r.generation, byteOf r.history.length, byteOf (min 2 (r.history.length - start))] ++
      entryBytes r.history[start]? ++ entryBytes r.history[start + 1]? := by
  have hentries := flatten_blocks entryBytes (r.history.drop start) 2
  have hbytes : (fun e => entryBytes (some e)) = historyBytes := funext fun e => (historyBytes_eq e).symm
  simp only [hbytes, List.getElem?_drop] at hentries
  simp only [historyData, List.length_take, List.length_drop]
  simpa [entryBytes, List.range_succ] using hentries.symm

end Sys2Proof.Machine
end

section
/-! CERTIFICATE. The commands that only read (R20, R82, R153, R154). -/
namespace Sys2Proof.Machine

/-- An answer holds its data up to the zeros that fill it. -/
theorem Answers.of_padded {c : Instr} {p : Port} {code : Byte} {result : ResultCode} {data data' : List Byte} {s t : State}
    (h : Answers c p code result data s t) (hdata : (Tab.ofList 0 data : Tab Byte 20) = Tab.ofList 0 data') :
    Answers c p code result data' s t := by
  rw [Answers, ← hdata]
  exact h

/-! ### READ_CHANNEL -/

theorem exec_readChannel (p : Port) (ch part : Byte) (s : State) :
    exec (.readChannel p ch part) s = .next (takenFrame p 0x11 (readChannelReply ch part) s) := rfl

theorem readChannelReply_range {ch part : Byte} (h : 7 < ch.toNat ∨ 2 < part.toNat) (s : State) :
    readChannelReply ch part s = refuse .range s := by
  unfold readChannelReply
  split
  case h_4 => rfl
  all_goals
    next hi hpart =>
      have := indexOf_eq_some_iff.1 hi
      omega

theorem channelData_eq (i : Fin 8) (c : Channel) : channelData i c =
    [flagByte [c.enabled, c.sweepTest, c.active.isSome, c.pendingCurve.isSome, c.direction = .down],
        byteOf c.state.code] ++ word16 c.sweepLimit ++
      [byteOf c.vmax, byteOf c.filterShift,
        byteOf (16 * c.primary.code + match c.fallback with | some f => f.code | none => 15), byteOf c.faultLamp.val,
        byteOf (match c.active with | some a => a.code | none => 255)] ++
      word16 ((c.active.bind c.value).getD 0) ++ word16 ((c.filter + 128) / 256) ++ word16 c.target ++
      word16 c.position ++ [byteOf c.speed, byteOf c.curve.length, byteOf i.val] := by
  unfold channelData byteOrAbsent
  cases c.fallback <;> cases hactive : c.active <;> simp [Channel.signal, Channel.activeValue, Channel.filtered, hactive]

section
variable {ch : Byte} {i : Fin 8} (hidx : indexOf 8 ch = some i) (s : State)
include hidx

theorem readChannelReply_record : readChannelReply ch 0 s = accept (channelData i (s.ge.channels.get i)) s := by
  rw [readChannelReply, hidx]
  rfl

theorem readChannelReply_firstPoints : readChannelReply ch 1 s = accept (pointData (s.ge.channels.get i).curve 0 5) s := by
  rw [readChannelReply, hidx]
  rfl

theorem readChannelReply_lastPoints : readChannelReply ch 2 s = accept (pointData (s.ge.channels.get i).curve 5 4) s := by
  rw [readChannelReply, hidx]
  rfl

end

/-- Settles O13: each part's data, the points filled up with zeros. -/
theorem channelReadAnswered : Obligations.ChannelReadAnswered := by
  intro p ch part s hout
  refine ⟨fun h => refuses_of_takenFrame (exec_readChannel ..) hout (readChannelReply_range h _), fun i hi => ?_⟩
  have hidx : indexOf 8 ch = some i := indexOf_eq_some hi
  have hge : (beginFrame p s).ge = s.ge := beginFrame_ge p s
  refine ⟨fun hpart => ?_, fun hpart => ?_, fun hpart _ => ?_⟩ <;> subst hpart
  · have hanswer := answers_of_takenFrame (exec_readChannel p ch 0 s) hout (readChannelReply_record hidx _)
    rwa [channelData_eq, hge, byteOf_of_eq hi] at hanswer
  · have hanswer := answers_of_takenFrame (exec_readChannel p ch 1 s) hout (readChannelReply_firstPoints hidx _)
    rw [hge] at hanswer
    refine hanswer.of_padded ?_
    simp only [accept, pointData_answer, Nat.zero_add]
    rfl
  · have hanswer := answers_of_takenFrame (exec_readChannel p ch 2 s) hout (readChannelReply_lastPoints hidx _)
    rw [hge] at hanswer
    exact hanswer.of_padded (pointData_answer ..)

/-! ### READ_LAMPS -/

theorem exec_readLamps (p : Port) (start : Byte) (s : State) :
    exec (.readLamps p start) s = .next (takenFrame p 0x21 (readLampsReply start) s) := rfl

/-- Settles O23: the sixteen places by the parts of `lampPlace`, and the settings of the matrix. -/
theorem lampsReadAnswered : Obligations.LampsReadAnswered := by
  intro p start s hout b place h
  refine ⟨fun hrange => refuses_of_takenFrame (exec_readLamps ..) hout (if_pos hrange), fun hrange => ?_⟩
  have hlmd : b.lmd = s.lmd := beginFrame_lmd p s
  have hplace (k : Nat) : lampPlace b (start.toNat + k) = place k := by
    simp only [lampPlace, place, isLit, hlmd, LampState.rank_odd, LampState.two_le_rank, Bool.decide_or]
  have hdata : lampData b start.toNat = (List.range 16).map place ++ [byteOf (min 16 (48 - start.toNat)),
      byteOf s.lmd.dimming, byteOf s.lmd.floor, flagByte [h.internal, h.portS, h.request, h.active]] := by
    simp only [lampData, hplace, hlmd, holdByte, h]
  exact hdata ▸ answers_of_takenFrame (exec_readLamps p start s) hout (if_neg (Nat.not_lt.2 hrange))

/-! ### READ_DRIVER, READ_HISTORY -/

theorem exec_readDriver (p : Port) (slot part : Byte) (s : State) :
    exec (.readDriver p slot part) s = .next (takenFrame p 0x41 (readDriverReply slot part) s) := rfl

theorem exec_readHistory (p : Port) (slot start : Byte) (s : State) :
    exec (.readHistory p slot start) s = .next (takenFrame p 0x42 (readHistoryReply slot start) s) := rfl

section
variable {p : Port} {code part start : Byte} {slot : Slot} (hslot : slotOfNumber code = some slot) (s : State)

theorem readDriverReply_slot (h₁ : code ≠ 1) (h₂ : code ≠ 2) : readDriverReply code part s = refuse .range s := by
  rw [readDriverReply, slotOfNumber_eq_none h₁ h₂]

theorem readDriverReply_range (h : 1 < part.toNat) : readDriverReply code part s = refuse .range s := by
  unfold readDriverReply
  split
  case h_3 => rfl
  all_goals omega

theorem readHistoryReply_slot (h₁ : code ≠ 1) (h₂ : code ≠ 2) : readHistoryReply code start s = refuse .range s := by
  rw [readHistoryReply, slotOfNumber_eq_none h₁ h₂]

theorem readHistoryReply_range (h : 23 < start.toNat) : readHistoryReply code start s = refuse .range s := by
  unfold readHistoryReply
  split
  · rw [if_neg (Nat.not_le.2 h)]
  · rfl

include hslot

theorem readDriverReply_account : readDriverReply code 0 s = accept (driverAccount slot (s.aau.record slot)) s := by
  rw [readDriverReply, hslot]
  rfl

theorem readDriverReply_crediting : readDriverReply code 1 s = accept (driverCrediting slot (s.aau.record slot)) s := by
  rw [readDriverReply, hslot]
  rfl

theorem readHistoryReply_entries (h : start.toNat ≤ 23) :
    readHistoryReply code start s = accept (historyData slot start.toNat (s.aau.record slot)) s := by
  rw [readHistoryReply, hslot]
  exact if_pos h

end

/-- Settles O38: the account, the crediting state, and the entries by `flatten_blocks`. -/
theorem driverAndHistoryRead : Obligations.DriverAndHistoryRead := by
  intro p slot code part start s hout r entry left
  have haau : (beginFrame p s).aau = s.aau := beginFrame_aau p s
  refine ⟨fun h₁ h₂ => refuses_of_takenFrame (exec_readDriver ..) hout (readDriverReply_slot _ h₁ h₂),
    fun h => refuses_of_takenFrame (exec_readDriver ..) hout (readDriverReply_range _ h), fun hcode hpart => ?_,
    fun hcode hpart => ?_, fun h₁ h₂ => refuses_of_takenFrame (exec_readHistory ..) hout (readHistoryReply_slot _ h₁ h₂),
    fun h => refuses_of_takenFrame (exec_readHistory ..) hout (readHistoryReply_range _ h), fun hcode hstart => ?_⟩
  all_goals
    have hslot : slotOfNumber code = some slot := hcode ▸ slotOfNumber_code slot
    have hnumber : byteOf (slotNumber slot) = code := by cases slot <;> exact hcode.symm
  · subst hpart
    have hanswer := answers_of_takenFrame (exec_readDriver p code 0 s) hout (readDriverReply_account hslot _)
    rwa [haau, driverAccount, hnumber] at hanswer
  · subst hpart
    have hanswer := answers_of_takenFrame (exec_readDriver p code 1 s) hout (readDriverReply_crediting hslot _)
    rwa [haau, driverCrediting, hnumber, bitByte_eq, byteOrAbsent_code] at hanswer
  · have hanswer := answers_of_takenFrame (exec_readHistory p code start s) hout (readHistoryReply_entries hslot _ hstart)
    rwa [haau, historyData_eq, hnumber] at hanswer

end Sys2Proof.Machine
end

section
/-! CERTIFICATE. The oscillator monitor (R107 to R109). -/
namespace Sys2Proof.Machine

theorem exec_oscillatorRecovery (s : State) : exec .oscillatorRecovery s =
    .next (timed .oscillatorRecovery s.cc.monitor.isRecovering s.cc.monitor.recovered oscillatorRecovery s) := rfl

section
variable {s : State} (hout : isOut s = true)
include hout

theorem oscillatorStop_running (h : s.cc.monitor = .running) :
    oscillatorStop s = discardTallies (post .clockFault 0 (s.setCc s.cc.stop)) := by
  have hcond : (s.cc.monitor = .running && clockWorks s) = true := by simp [h, clockWorks_of_isOut hout]
  rw [oscillatorStop, if_pos hcond]
  exact if_pos hout

theorem edgeReturn_stopped (h : s.cc.monitor = .stopped) : edgeReturn s = setMonitor (.recovering 0) s :=
  if_pos (by simp [h, clockWorks_of_isOut hout])

theorem recoveryAbandoned_recovering {n : Nat} (h : s.cc.monitor = .recovering n) : recoveryAbandoned s = setMonitor .stopped s :=
  if_pos (by simp [h, clockWorks_of_isOut hout, Monitor.isRecovering])

theorem oscillatorRecovery_eq : oscillatorRecovery s = s.setCc s.cc.recover := if_pos (clockWorks_of_isOut hout)

end

/-- Log 3: outside RECOVERING the row that ends a recovery is only struck off those found due. -/
theorem oscillatorRecovery_lapses {s : State} (h : ∀ n, s.cc.monitor ≠ .recovering n) :
    exec .oscillatorRecovery s = .next (ranBy .oscillatorRecovery s) := by
  have hoff : s.cc.monitor.isRecovering = false ∧ s.cc.monitor.recovered = false := by
    cases hm : s.cc.monitor with
    | recovering n => exact absurd hm (h n)
    | running | stopped => exact ⟨rfl, rfl⟩
  refine lapses_of_timed (running := False) (out := False) (exec_oscillatorRecovery s) (by simp [hoff]) (by simp [hoff]) ?_
  exact fun ⟨hdue, hgiven⟩ => (em _).elim hdue hgiven

/-- Settles O32: the monitor by its state. -/
theorem oscillatorStopsAndRecovers : Obligations.OscillatorStopsAndRecovers := by
  refine fun s hout => ⟨fun h => ?stop, fun h => ?edge, fun n h => ⟨?abandon, ?recover⟩, fun h => ⟨?idle, ?none⟩⟩
  case stop =>
    have hset := setCc_frame s s.cc.stop
    have hpost : OnlyChanges [.clock, .events] s (post .clockFault 0 (s.setCc s.cc.stop)) :=
      .after (post_frame _ _ _) (by decide) (hset.mono (by decide))
    have hdiscard := setAau_frame (post .clockFault 0 (s.setCc s.cc.stop))
    refine ⟨_, congrArg Host.Outcome.next (oscillatorStop_running hout h), ?_, ?_, fun slot => ?_, fun k hk => ?_,
      .after (hdiscard _) (by decide) (hpost.mono (by decide))⟩
    · exact (posted_post .clockFault 0 (s.setCc s.cc.stop)).trans_notPosted (.of_frame (hdiscard _) (by decide))
    · rw [discardTallies, State.setAau_cc, post_cc]
      rfl
    · rw [discardTallies_record, post_aau]
      rfl
    · exact (notPosted_post hk 0 (s.setCc s.cc.stop)).trans (.of_frame (hdiscard _) (by decide))
  case edge => exact congrArg Host.Outcome.next (edgeReturn_stopped hout h)
  case abandon => exact congrArg Host.Outcome.next (recoveryAbandoned_recovering hout h)
  case recover =>
    have hrunning : s.cc.monitor.isRecovering = true ↔ True := by simp [h, Monitor.isRecovering]
    have hrecovered : s.cc.monitor.recovered = true ↔ 100 ≤ n := by
      rw [h]
      exact decide_eq_true_iff
    refine ⟨fun hcomes => ?_, lapses_of_timed (exec_oscillatorRecovery s) hrunning hrecovered⟩
    rw [acts_of_timed (exec_oscillatorRecovery s) hrunning hrecovered hcomes, oscillatorRecovery_eq (by simpa using hout)]
    rfl
  case idle => exact oscillatorRecovery_lapses h
  case none =>
    refine congrArg Host.Outcome.next (if_neg ?_)
    cases hm : s.cc.monitor with
    | recovering n => exact absurd hm (h n)
    | running | stopped => simp [Monitor.isRecovering]

end Sys2Proof.Machine
end

section
/-! SUPPORT. What an advance of the clock makes of the time and of the ticks (R98 to R103). -/
namespace Sys2Proof.Machine

/-- R102: the ticks of an advance by the time it leads to. -/
structure Ticks.Of (k : Ticks) (n : DateTime) : Prop where
  minute : k.minute = true ↔ n.second = 0
  hour : k.hour = true ↔ n.second = 0 ∧ n.minute = 0
  day : k.day = true ↔ n.second = 0 ∧ n.minute = 0 ∧ n.hour = 0

theorem advance_ticks (t : DateTime) : (advance t).2.Of (advance t).1 := by
  unfold advance
  split_ifs with h1 h2 h3
  · exact ⟨by simp, by simp, by simp⟩
  · exact ⟨by simp, by simp, by simp⟩
  · exact ⟨by simp, by simp, by simp⟩
  · obtain ⟨hh, hm, -⟩ := nextDay_time { t with hour := 0, minute := 0, second := 0 }
    exact ⟨by simp, by simp [hm], by simp [hm, hh]⟩

theorem Ticks.Of.has_iff {k : Ticks} {n : DateTime} (h : k.Of n) (period : TickPeriod) : k.has period = true ↔
    period = .second ∨ (period = .minute ∧ n.second = 0) ∨ (period = .hour ∧ n.second = 0 ∧ n.minute = 0) ∨
      (period = .day ∧ n.second = 0 ∧ n.minute = 0 ∧ n.hour = 0) := by
  cases period <;> simp [Ticks.has, h.minute, h.hour, h.day]

/-- R98, R99: an advance is one second. -/
theorem advance_secondStamp {t : DateTime} (h : t.legal = true) : secondStamp (advance t).1 = secondStamp t + 1 := by
  obtain ⟨hdate, hhour, hminute, hsecond⟩ := (DateTime.legal_iff t).1 h
  unfold advance
  split_ifs with h1 h2 h3
  · simp only [secondStamp, minuteStamp, dayCount]
    omega
  · simp only [secondStamp, minuteStamp, dayCount]
    omega
  · simp only [secondStamp, minuteStamp, dayCount]
    omega
  · obtain ⟨hh, hm, hs⟩ := nextDay_time { t with hour := 0, minute := 0, second := 0 }
    have hzero : DateTime.OnCalendar { t with hour := 0, minute := 0, second := 0 } := { hdate with }
    have hcount := hzero.dayCount_nextDay
    have hsame : dayCount { t with hour := 0, minute := 0, second := 0 } = dayCount t := rfl
    simp only [secondStamp, minuteStamp, hcount, hsame, hh, hm, hs]
    omega

theorem creditMinute_tells (stamp : Nat) (s : State) :
    Tells [.recorderInconsistent, .breakQualified, .drivePrewarn, .driveLimit, .chimeDropped] s (creditMinute stamp s) := by
  refine .after (inSomeOrder_tells _ (fun c _ t => creditSlot_tells t stamp c) _) (by decide) ?_
  split
  · exact (post_tells _ (by decide) s).mono (by decide)
  · exact .refl _ _

theorem handTicks_tells (k : Ticks) (s : State) :
    Tells [.recorderInconsistent, .breakQualified, .drivePrewarn, .driveLimit, .chimeDropped] s (handTicks k s) := by
  have htally : OnlyChanges [.drivers] s (tallySecond s) := setAau_frame s _
  unfold handTicks
  dsimp only
  split
  · exact .after (creditMinute_tells _ _) (by decide) (.of_frame _ htally (by decide))
  · exact .of_frame _ htally (by decide)

/-- R103: CLOCK_TICK in the table of one port. -/
theorem tickAt_tick (p q : Port) (k : Ticks) (s : State) : ((tickAt p k s).port q).events.get EventKind.clockTick.number =
    if q = p ∧ k.has (s.cc.tick p) = true then
      ((s.port q).events.get EventKind.clockTick.number).posted ((s.cc.tick p).code - 1)
    else (s.port q).events.get EventKind.clockTick.number := by
  unfold tickAt
  by_cases hq : q = p
  · subst hq
    split_ifs with hhas <;> simp_all [postAt_port, PortUnit.post]
  · split_ifs <;> simp_all [postAt_port]

/-- R98, R102, R103: the state whose ticks an advance hands on. -/
def ticked (s : State) : State :=
  let k := (advance s.cc.now).2
  tickAt .s k (tickAt .d k (s.setCc s.cc.advanced))

theorem ticked_frame (s : State) : OnlyChanges [.clock, .events] s (ticked s) :=
  .after (tickAt_frame _ _ _) (by decide) <| .after (tickAt_frame _ _ _) (by decide) <| (setCc_frame s _).mono (by decide)

@[simp] theorem tickAt_cc (p : Port) (k : Ticks) (s : State) : (tickAt p k s).cc = s.cc := by
  unfold tickAt
  split
  · exact postAt_cc ..
  · rfl

@[simp] theorem ticked_cc (s : State) : (ticked s).cc = s.cc.advanced := by simp [ticked]

theorem ticked_tick (p : Port) (s : State) : ((ticked s).port p).events.get EventKind.clockTick.number =
    if (advance s.cc.now).2.has (s.cc.tick p) = true then
      ((s.port p).events.get EventKind.clockTick.number).posted ((s.cc.tick p).code - 1)
    else (s.port p).events.get EventKind.clockTick.number := by
  have htick (q : Port) : s.cc.advanced.tick q = s.cc.tick q := by cases q <;> rfl
  simp only [ticked, tickAt_tick, tickAt_cc, State.setCc_cc, htick]
  cases p <;> simp

theorem advanceOut_before {s : State} (h : s.cc.atEnd = false) :
    advanceOut s = handTicks (advance s.cc.now).2 (ticked s) := if_neg (by simp [h])

theorem advanceOut_atEnd {s : State} (h : s.cc.atEnd = true) : advanceOut s =
    if s.cc.rangeHold then s else post .clockRange 0 (s.setCc { s.cc with rangeHold := true }) := if_pos h

theorem Clock.atEnd_iff (c : Clock) : c.atEnd = true ↔ c.now = .last := decide_eq_true_iff

/-- R98 to R100: the clock one second on, on a legal date before the end of its range. -/
theorem Clock.advanced_eq {c : Clock} (hlegal : c.now.legal = true) (hday : c.weekday = weekdayOf c.now) (h : c.now ≠ .last) :
    c.advanced = { c with now := (advance c.now).1, weekday := weekdayOf (advance c.now).1 } := by
  rw [Clock.advanced, (advance_ledTo hlegal h).weekday, hday]

end Sys2Proof.Machine
end

section
/-! CERTIFICATE. The second completed (R97 to R103). -/
namespace Sys2Proof.Machine

theorem exec_secondAdvance (s : State) : exec .secondAdvance s =
    .next (timed .secondAdvance s.cc.running s.cc.secondOut secondAdvance s) := rfl

theorem secondOut_iff (c : Clock) : c.secondOut = true ↔ c.running = true ∧ 32768 ≤ c.prescaler := by
  rw [Clock.secondOut, Bool.and_eq_true]
  exact Iff.and .rfl decide_eq_true_iff

theorem secondAdvance_lapses (s : State) :
    Lapses .secondAdvance (s.cc.running = true) (s.cc.running = true ∧ 32768 ≤ s.cc.prescaler) s :=
  lapses_of_timed (exec_secondAdvance s) Iff.rfl (secondOut_iff _)

/-- The clock at the moment a second completes, with its prescaler back at 0. -/
def secondDone (s : State) : State := (ranBy .secondAdvance s).setCc { s.cc with prescaler := 0 }

theorem secondDone_frame (s : State) : OnlyChanges [.clock, .due] s (secondDone s) :=
  .after (setCc_frame _ _) (by decide) <| (ranBy_frame .secondAdvance s).mono (by decide)

section
variable {s : State} (hcomes : Comes .secondAdvance (s.cc.running = true) (s.cc.running = true ∧ 32768 ≤ s.cc.prescaler) s)
include hcomes

/-- R98: the second completed out of reset. -/
theorem secondAdvance_out (hout : isOut s = true) : exec .secondAdvance s =
    .next (advanceOut (secondDone s)) := by
  rw [acts_of_timed (exec_secondAdvance s) Iff.rfl (secondOut_iff _) hcomes]
  exact congrArg Host.Outcome.next (if_pos (by simpa using hout))

/-- R97: the second completed in a pin or command reset. -/
theorem secondAdvance_held (hin : isOut s = false) (hpower : s.rst.causes.powerOn = false) : exec .secondAdvance s =
    .next ((ranBy .secondAdvance s).setCc ({ s.cc with prescaler := 0 } : Clock).advancedHeld) := by
  have hworks : clockWorks (ranBy .secondAdvance s) = true := by
    rw [clockWorks, Bool.or_eq_true, Bool.not_eq_true']
    exact .inr hpower
  have hin' : ¬isOut (ranBy .secondAdvance s) = true := by simp [hin]
  rw [acts_of_timed (exec_secondAdvance s) Iff.rfl (secondOut_iff _) hcomes, secondAdvance, if_neg hin', if_pos hworks]
  rfl

end

/-- R101: at the end of the range the clock holds, and tells so once. -/
theorem advanceOut_held {s : State} (h : s.cc.now = .last) :
    (advanceOut s).cc = { s.cc with rangeHold := true } ∧
      (if s.cc.rangeHold then NotPosted .clockRange s (advanceOut s) else Posted .clockRange 0 s (advanceOut s)) ∧
      (∀ k : EventKind, k ≠ .clockRange → NotPosted k s (advanceOut s)) ∧
      OnlyChanges [.clock, .events] s (advanceOut s) := by
  rw [advanceOut_atEnd ((Clock.atEnd_iff _).2 h)]
  by_cases hheld : s.cc.rangeHold = true
  · rw [if_pos hheld, if_pos hheld]
    exact ⟨by rw [← hheld], fun _ => rfl, fun _ _ _ => rfl, .refl _ _⟩
  · rw [if_neg hheld, if_neg hheld]
    exact ⟨post_cc .., posted_post .clockRange 0 (s.setCc _), fun k hk => notPosted_post hk 0 (s.setCc _),
      .after (post_frame _ _ _) (by decide) <| (setCc_frame s _).mono (by decide)⟩

section
variable {s : State} (hlegal : s.cc.now.legal = true) (hday : s.cc.weekday = weekdayOf s.cc.now) (hlast : s.cc.now ≠ .last)
include hlegal hday hlast

/-- R98 to R103: what an advance out of reset leaves in the clock and in the tables, and which seconds it tallies. -/
theorem advanceOut_second : (advanceOut s).cc =
      { s.cc with now := (advance s.cc.now).1, weekday := weekdayOf (advance s.cc.now).1 } ∧
    (∀ p, ((advanceOut s).port p).events.get EventKind.clockTick.number =
      if (advance s.cc.now).2.has (s.cc.tick p) = true then
        ((s.port p).events.get EventKind.clockTick.number).posted ((s.cc.tick p).code - 1)
      else (s.port p).events.get EventKind.clockTick.number) ∧
    ((advance s.cc.now).1.second ≠ 0 → ∀ slot, (advanceOut s).aau.record slot = (s.aau.record slot).tally) := by
  have hend : s.cc.atEnd = false := Bool.eq_false_iff.2 (mt (Clock.atEnd_iff _).1 hlast)
  rw [advanceOut_before hend]
  refine ⟨?_, fun p => ?_, fun hsecond slot => ?_⟩
  · rw [(handTicks_frame (ticked s) _).cc (by decide), ticked_cc, Clock.advanced_eq hlegal hday hlast]
  · rw [(handTicks_tells _ (ticked s)).notPosted (k := .clockTick) (by decide) p, ticked_tick]
  · have hminute : ¬(advance s.cc.now).2.minute = true := mt (advance_ticks _).minute.1 hsecond
    rw [handTicks, if_neg hminute, tallySecond_record, (ticked_frame s).aau (by decide)]

end

theorem addSecond_of {t : Tallies} {a : Activity} (h : t.of a < 60) : (t.addSecond a).of a = t.of a + 1 := by
  cases a <;> exact min_eq_right h

/-- Settles O31: before and at the end of the range, out of reset and in one. -/
theorem secondAdvancesClock : Obligations.SecondAdvancesClock := by
  intro s hlegal hday last comes
  refine ⟨secondAdvance_lapses s, fun hout hcomes hlast => ?_, fun hout hcomes hlast => ?_,
    fun hin hpower hcomes hlast => ?_⟩
  · obtain ⟨hcc, hrange, hother, hframe⟩ := advanceOut_held (s := secondDone s) hlast
    have hdone {k : EventKind} : NotPosted k s (secondDone s) := .of_frame (secondDone_frame s) (by decide)
    have hheld : (secondDone s).cc.rangeHold = s.cc.rangeHold := rfl
    refine ⟨_, secondAdvance_out hcomes hout, hcc, ?_, fun k hk => hdone.trans (hother k hk),
      .after hframe (by decide) ((secondDone_frame s).mono (by decide))⟩
    rw [hheld] at hrange
    split at hrange
    · next h => rw [if_pos h]; exact hdone.trans hrange
    · next h => rw [if_neg h]; exact hdone.trans_posted hrange
  · obtain ⟨hcc, htick, htally⟩ := advanceOut_second (s := secondDone s) hlegal hday hlast
    have hnow : (advanceOut (secondDone s)).cc.now = (advance s.cc.now).1 := by rw [hcc]; rfl
    have hdone := secondDone_frame s
    refine ⟨_, secondAdvance_out hcomes hout, ?_, ?_, ?_, fun p => ?_, fun hsecond slot => ?_, fun a h _ _ => addSecond_of h⟩
    · rw [hnow]
      exact (advance_ledTo hlegal hlast).legal
    · rw [hnow]
      exact advance_secondStamp hlegal
    · rw [hcc]
      rfl
    · have htold := htick p
      rw [hdone.events p (by decide)] at htold
      rw [hnow]
      cases p <;> exact htold.trans (if_congr ((advance_ticks _).has_iff _) rfl rfl)
    · rw [htally (by rwa [hnow] at hsecond), hdone.aau (by decide)]
      rfl
  · have hend : ¬({ s.cc with prescaler := 0 } : Clock).atEnd = true := mt (Clock.atEnd_iff _).1 hlast
    refine ⟨_, secondAdvance_held hcomes hin hpower, ?_,
      .after (setCc_frame _ _) (by decide) ((ranBy_frame .secondAdvance s).mono (by decide))⟩
    rw [State.setCc_cc, Clock.advancedHeld, if_neg hend]
    exact advance_secondStamp hlegal

end Sys2Proof.Machine
end

section
/-! CERTIFICATE. Loading the clock (R104 to R106). -/
namespace Sys2Proof.Machine

/-! ### A load -/

section load
variable (t : DateTime) (b : Bool) (s : State)

@[simp] theorem loadClock_cc : (loadClock t b s).cc = s.cc.load t b := by
  unfold loadClock
  dsimp only
  split
  · exact post_cc ..
  · rfl

@[simp] theorem loadClock_aau : (loadClock t b s).aau =
    { s.aau with one := { s.aau.one with tallies := .zero }, two := { s.aau.two with tallies := .zero } } := by
  unfold loadClock
  dsimp only
  split
  · exact post_aau ..
  · rfl

/-- R105: TIME_STEP is told exactly where the clock was SET. -/
theorem loadClock_timeStep : if s.cc.isSet then Posted .timeStep (if b then 0 else 1) s (loadClock t b s)
    else NotPosted .timeStep s (loadClock t b s) := by
  have hquiet : OnlyChanges [.clock, .drivers] s (discardTallies (s.setCc (s.cc.load t b))) :=
    .after (setAau_frame _ _) (by decide) ((setCc_frame s _).mono (by decide))
  have hnot : NotPosted .timeStep s (discardTallies (s.setCc (s.cc.load t b))) := .of_frame hquiet (by decide)
  unfold loadClock
  dsimp only
  split
  · exact hnot.trans_posted (posted_post _ _ _)
  · exact hnot

end load

/-! ### SET_TIME -/

theorem exec_setTime (p : Port) (a : TimeArgs) (s : State) :
    exec (.setTime p a) s = .next (takenFrame p 0x51 (setTimeReply (dateOfArgs a)) s) := rfl

section
variable {t : DateTime} {s : State}

theorem setTimeReply_illegal (h : t.legal = false) : setTimeReply t s = refuse .range s := if_pos (by simp [h])

theorem setTimeReply_notNow (h : t.legal = true) (hs : s.cc.running = false ∨ (s.rlu.live = true ∧ s.cc.byRecorder = true)) :
    setTimeReply t s = refuse .notNow s := by
  rw [setTimeReply, if_neg (by simp [h])]
  rcases hs with hrunning | ⟨hlive, hrecorder⟩
  · exact if_pos (by simp [hrunning])
  · rw [hlive, hrecorder]
    split <;> rfl

theorem setTimeReply_loads (h : t.legal = true) (hrunning : s.cc.running = true)
    (hs : s.rlu.live = false ∨ s.cc.byRecorder = false) : setTimeReply t s =
      accept (dateBytes t (weekdayOf t) ++ [flagByte [false, true, false, true, false]]) (loadClock t false s) := by
  have hfree : ¬(s.rlu.live && s.cc.byRecorder) = true := by
    rw [Bool.and_eq_true]
    rintro ⟨hlive, hrecorder⟩
    rcases hs with h | h
    · exact absurd (h.symm.trans hlive) (by decide)
    · exact absurd (h.symm.trans hrecorder) (by decide)
  rw [setTimeReply, if_neg (by simp [h]), if_neg (by simp [hrunning]), if_neg hfree]
  simp only [loadClock_cc, Clock.load, clockFlags, hrunning]

end

/-! ### TIME frames -/

/-- R104: whether a TIME frame is loaded. -/
theorem loadsFrame_iff (c : Clock) (t : DateTime) (valid : Bool) : loadsFrame c t valid = true ↔
    c.running = true ∧ valid = true ∧ t.legal = true ∧ (c.isSet = false ∨ c.byRecorder = false ∨
      2 < (secondStamp t : Int) - secondStamp c.now ∨ (secondStamp t : Int) - secondStamp c.now < -2) := by
  have hapart : 2 < secondsApart t c.now ↔
      2 < (secondStamp t : Int) - secondStamp c.now ∨ (secondStamp t : Int) - secondStamp c.now < -2 := by
    rw [secondsApart]
    omega
  simp only [loadsFrame, Bool.and_eq_true, Bool.or_eq_true, Bool.not_eq_true', decide_eq_true_iff, hapart, and_assoc, or_assoc]

/-- R115, R117: what a valid frame makes of the link's own record. -/
theorem linkTaken_rlu (s : State) : (linkTaken s).rlu =
    { s.rlu with live := true, timer := some 2500, assembly := .hunt, gapTime := 0 } := by
  unfold linkTaken returnLink
  split
  · next h =>
    have hlive : s.rlu.live = true := h
    simp [restartLink, setAssembly, hlive, Config.linkPeriod]
  · simp [restartLink, setAssembly, reformLoss, Config.linkPeriod]

theorem exec_timeFrame {s : State} (hout : isOut s = true) (a : TimeArgs) (valid : Bool) :
    exec (.timeFrame a valid) s = .next (timeContents (dateOfArgs a) valid (linkTaken s)) :=
  congrArg Host.Outcome.next (whenOut_of_isOut hout)

/-- Log 3: a second found due before the load of its moment lapses, as the prescaler then stands at 0. -/
theorem secondAdvance_of_loaded {s : State} (hdue : .secondAdvance ∈ s.due) (h : s.cc.prescaler = 0) :
    exec .secondAdvance s = .next (ranBy .secondAdvance s) := by
  refine secondAdvance_lapses s fun ⟨hcomes, _⟩ => ?_
  have := (hcomes hdue).2
  omega

/-- Settles O30: SET_TIME by its checks, a TIME frame by whether it is loaded. -/
theorem clockLoaded : Obligations.ClockLoaded := by
  intro p a valid s hout date loaded cleared apart loads
  have hcc : (beginFrame p s).cc = s.cc := beginFrame_cc p s
  have hrlu : (beginFrame p s).rlu = s.rlu := beginFrame_rlu p s
  refine ⟨fun h => refuses_of_takenFrame (exec_setTime ..) hout (setTimeReply_illegal h), fun h hs => ?_,
    fun h hrunning hs => ?_, ?_⟩
  · exact refuses_of_takenFrame (exec_setTime ..) hout (setTimeReply_notNow h (by rwa [hcc, hrlu]))
  · have hanswer := answers_of_takenFrame (exec_setTime p a s) hout
      (setTimeReply_loads h (by rwa [hcc]) (by rwa [hcc, hrlu]))
    have hstep := loadClock_timeStep date false (beginFrame p s)
    refine ⟨_, ?_, ?_, ?_, by rwa [hcc] at hstep, fun k hk => (loadClock_tells _ _ _).notPosted (by simpa using hk),
      loadClock_frame _ _ _⟩
    · simpa [dateBytes, dateOfArgs, date, weekdayOf, accept] using hanswer
    · rw [loadClock_cc, hcc]
      rfl
    · rw [loadClock_aau, beginFrame_aau]
      rfl
  · have hframe := linkTaken_frame s
    have hloads : loadsFrame (linkTaken s).cc date valid = true ↔ loads := by
      rw [hframe.cc (by decide)]
      exact loadsFrame_iff _ _ _
    have hquiet : NotPosted .timeStep s (linkTaken s) := (linkTaken_tells s).notPosted (by decide)
    refine ⟨_, exec_timeFrame hout a valid, ?_⟩
    by_cases hload : loads
    · have hcontents : timeContents (dateOfArgs a) valid (linkTaken s) = loadClock date true (linkTaken s) :=
        if_pos (hloads.2 hload)
      have hcc' := hframe.cc (by decide)
      have hstep := loadClock_timeStep date true (linkTaken s)
      rw [hcc'] at hstep
      have hload_frame := loadClock_frame (linkTaken s) date true
      rw [hcontents, hload_frame.rlu (by decide), linkTaken_rlu]
      simp only [hload, true_and]
      refine ⟨by rw [loadClock_cc, hcc']; rfl, by rw [loadClock_aau, hframe.aau (by decide)]; rfl, ?_, fun _ hdue => ?_,
        trivial⟩
      · split at hstep
        · next hset => rw [if_pos hset]; exact hquiet.trans_posted hstep
        · next hset => rw [if_neg hset]; exact hquiet.trans hstep
      · refine ⟨_, secondAdvance_of_loaded ?_ (by rw [loadClock_cc]; rfl), rfl⟩
        rwa [hload_frame.due (by decide), hframe.due (by decide)]
    · have hcontents : timeContents (dateOfArgs a) valid (linkTaken s) = linkTaken s := if_neg (mt hloads.1 hload)
      rw [hcontents, linkTaken_rlu]
      simp only [hload, false_and, if_false, false_imp_iff, and_true]
      exact ⟨hframe.cc (by decide), hframe.aau (by decide), hquiet⟩

end Sys2Proof.Machine
end

section
/-! CERTIFICATE. Three statements about the warning of a driver record fail in one state: a full chime queue that waits with
nothing in play and no gap, which `ChimeUnit.Orderly` keeps from every run. The warning's chime is dropped on the full queue
(R87); then L2 comes on and its own chime, of priority 3, evicts an entry and starts the head, so that the queue is no
longer full (R63, R89). -/
namespace Sys2Proof.Machine

open Sys2Proof.Tests

/-! ### The state -/

/-- A full queue of entries of the priority of a warning's chime, with nothing in play and no gap. -/
def stalledQueue : ChimeUnit :=
  { State.reset.cu with queue := List.replicate 8 { sound := .tick, priority := 2, origin := .portD, arrival := 0 } }

/-- RUN with the stalled queue, with L2 a SAFETY lamp, and with a card in slot 1 whose driver is at the limit. -/
def stalled : State :=
  withDriver (fun r => { r with card := true, continuous := 270, tallies := { r.tallies with drive := 59 } })
    (withLamp 2 (fun l => { l with cls := .safety }) ((inPower .run ready).setCu stalledQueue))

/-- Whether a chime of a sound and origin is queued or in play, or the queue is full. -/
def ChimeUnit.holds (sound : Sound) (origin : Origin) (u : ChimeUnit) : Bool :=
  u.queue.any (fun c => c.sound = sound && c.origin = origin) ||
    (u.playing.any fun q => q.chime.sound = sound && q.chime.origin = origin) || 8 ≤ u.queue.length

theorem ChimeUnit.holds_iff (sound : Sound) (origin : Origin) (t : State) :
    t.cu.holds sound origin = true ↔ Chimes sound origin t := by
  simp [holds, Chimes, or_assoc, Option.any_eq_true]

/-- Slot 1 has reached its limit in t, and its chime has been lost. -/
def LimitUnheard (t : State) : Prop :=
  (t.aau.record .one).warn = .limit ∧ t.cu.holds .triple (.account .one) = false

/-- R143 fails where slot 1 of the stalled state reaches its limit unheard. -/
theorem not_warnTold_of_unheard {s t : State} (hwarn : (s.aau.record .one).warn = .none) (hin : inCycle s = true)
    (h : LimitUnheard t) : ¬WarnTold .one s t := by
  obtain ⟨hlimit, hlost⟩ := h
  rintro ⟨-, hchime, -⟩
  have hheld := (ChimeUnit.holds_iff ..).2 (hchime (by rw [hlimit, hwarn]; decide) hlimit hin)
  exact absurd (hlost.symm.trans hheld) (by decide)

theorem after_eq {c : Instr} {s t : State} (h : exec c s = .next t) : after c s = t := by rw [after, h]

theorem unheard_setDriveWarning : LimitUnheard (after (.setDriveWarning .d 15) stalled) := by
  unfold LimitUnheard
  decide

/-- Refutes O37: the warning formed again at the stalled queue. -/
theorem not_driveWarningLeadSet : ¬Obligations.DriveWarningLeadSet := by
  intro h
  obtain ⟨-, t, hanswer, -, hrecord, -⟩ := h 15 stalled rfl
  obtain ⟨-, -, htold⟩ := hrecord .one
  have hunheard : LimitUnheard t := by
    have hafter := unheard_setDriveWarning
    rw [after_eq hanswer] at hafter
    simpa [LimitUnheard] using hafter
  have hcard : (stalled.aau.record .one).card = true := rfl
  refine not_warnTold_of_unheard ?_ ?_ hunheard (htold hcard).2
  · rw [beginFrame_aau]
    rfl
  · rw [inCycle_iff, beginFrame_pwc]
    exact .inr rfl

/-- The stalled state at the last second of a minute. -/
def stalledMinute : State := stalled.setCc { stalled.cc with now := { stalled.cc.now with second := 59 }, running := true }

theorem unheard_secondAdvance : LimitUnheard (after .secondAdvance stalledMinute) := by
  unfold LimitUnheard
  decide

/-- Refutes O34: a minute credited at the stalled queue. -/
theorem not_creditMovesCountersAndWarns : ¬Obligations.CreditMovesCountersAndWarns := by
  intro h
  obtain ⟨t, hexec, hcredit⟩ := h stalledMinute rfl ⟨fun hdue => absurd hdue (by decide), fun _ => rfl⟩ rfl (by decide)
  have hpicks : (stalledMinute.aau.record .one).Picks .drive := by
    refine ⟨rfl, by decide, fun b => ?_⟩
    cases b with
    | drive => exact .inr ⟨rfl, le_refl _⟩
    | unknown | rest | available | work => exact .inl (by decide)
  obtain ⟨-, hcounts⟩ := hcredit .one .drive (.inr ⟨fun hslot => absurd hslot.1 (by decide), hpicks⟩)
  obtain ⟨-, -, htold, -⟩ := hcounts rfl
  exact not_warnTold_of_unheard rfl (inCycle_iff.2 (.inr rfl)) (after_eq hexec ▸ unheard_secondAdvance) htold

/-- A summary of a driver at the limit. -/
def limitSummary : SummaryArg :=
  { asOf := 0, continuous := 270, daily := 270, restRun := 0, card := true, firstPart := false, runQualified := false
    contLimit := 270, dailyLimit := 540 }

theorem unheard_summaryFrame : LimitUnheard (after (.summaryFrame limitSummary { limitSummary with card := false }) stalled) := by
  unfold LimitUnheard
  decide

/-- Refutes O36: a summary adopted at the stalled queue. -/
theorem not_summarySettled : ¬Obligations.SummarySettled := by
  intro h
  obtain ⟨t, hexec, -, -, -, -, hslot⟩ := h limitSummary { limitSummary with card := false } stalled rfl
  obtain ⟨-, -, hadopted⟩ := hslot .one
  obtain ⟨-, -, -, -, -, -, -, -, -, -, -, -, -, -, -, htold, -⟩ := hadopted ⟨rfl, rfl⟩ (.inl (.inl rfl))
  exact not_warnTold_of_unheard rfl (inCycle_iff.2 (.inr rfl)) (after_eq hexec ▸ unheard_summaryFrame) htold

end Sys2Proof.Machine
end

section
/-! SUPPORT. What the statements say of one update of the lamp table, for every rule that only stores contributions. -/
namespace Sys2Proof.Machine

theorem Lamp.eq_of_parts {l m : Lamp} (hstored : l.stored = m.stored) (hsubst : l.substitution = m.substitution)
    (hresolved : l.resolved = m.resolved) (hprevious : l.previous = m.previous) : l = m := by
  have hl (k : Lamp) : k = { k.stored with substitution := k.substitution, resolved := k.resolved, previous := k.previous } := rfl
  rw [hl l, hl m, hstored, hsubst, hresolved, hprevious]

/-- A lamp that its rule leaves as it stood stands as it stood. -/
theorem StoredOnly.eq_of_stored {change : Fin 48 → Lamp → Lamp} (h : StoredOnly change) {n : Fin 48} {l : Lamp}
    (hstored : (change n l).stored = l.stored) : change n l = l := by
  obtain ⟨hsubst, hresolved, hprevious⟩ := h n l
  exact Lamp.eq_of_parts hstored hsubst hresolved hprevious

theorem Lamp.changed_self (l : Lamp) : l.changed l = l := if_pos rfl

theorem Lamp.changed_of_ne {l m : Lamp} (h : m ≠ l) : (l.changed m).resolved = (l.changed m).resolve := by
  rw [Lamp.changed, if_neg h]
  rfl

theorem Lamp.substitute_self (l : Lamp) : l.substitute l.substitution = l := if_pos rfl

theorem Lamp.substitute_of_ne {l : Lamp} {b : Bool} (h : b ≠ l.substitution) :
    (l.substitute b).resolved = (l.substitute b).resolve := by
  rw [Lamp.substitute, if_neg (Ne.symm h)]
  rfl

@[simp] theorem Lamp.substitute_previous (l : Lamp) (b : Bool) : (l.substitute b).previous = l.previous := by
  unfold substitute; split <;> rfl

theorem Lamp.remember_previous (l m : Lamp) : (l.remember m).previous = if m.resolved = l.resolved then m.previous else l.resolved := by
  unfold remember; split <;> rfl

/-- R51, R52: a lamp of an update before its previous resolved state is recorded: resolved again where a contribution has
changed, and as it stood otherwise. -/
structure Lamp.Formed (old new : Lamp) : Prop where
  changed : new.stored ≠ old.stored ∨ new.substitution ≠ old.substitution → new.resolved = new.resolve
  kept : new.stored = old.stored → new.substitution = old.substitution → new.resolved = old.resolved
  previous : new.previous = old.previous

theorem Lamp.Formed.refl (l : Lamp) : l.Formed l where
  changed h := h.elim (absurd rfl) (absurd rfl)
  kept _ _ := rfl
  previous := rfl

theorem StoredOnly.formed_changed {change : Fin 48 → Lamp → Lamp} (h : StoredOnly change) (n : Fin 48) (l : Lamp) :
    l.Formed (l.changed (change n l)) := by
  by_cases hsame : change n l = l
  · rw [hsame, Lamp.changed_self]
    exact .refl l
  · have hne : (change n l).stored ≠ l.stored := mt h.eq_of_stored hsame
    exact { changed := fun _ => Lamp.changed_of_ne hsame
            kept := fun hs => absurd ((Lamp.changed_stored ..).symm.trans hs) hne
            previous := (Lamp.changed_previous ..).trans (h n l).2.2 }

theorem Lamp.Formed.substitute {l m : Lamp} (h : l.Formed m) (hsubst : m.substitution = l.substitution) (b : Bool) :
    l.Formed (m.substitute b) := by
  by_cases hb : b = m.substitution
  · rw [hb, Lamp.substitute_self]
    exact h
  · exact { changed := fun _ => Lamp.substitute_of_ne hb
            kept := fun _ hs => absurd (((Lamp.substitute_substitution ..).symm.trans hs).trans hsubst.symm) hb
            previous := (Lamp.substitute_previous ..).trans h.previous }

/-- R51, R52: an update that only stores contributions resolves the lamps whose contributions change, and no others. -/
theorem lampsUpdated_lampUpdate {change : Fin 48 → Lamp → Lamp} (h : StoredOnly change) (s : State) :
    LampsUpdated s (lampUpdate change s) := by
  intro n
  rw [lampUpdate_lamps, updatedLamps_get, formSubstitution_get, storedLamps_get]
  have hchanged := h.formed_changed n (s.lamps.get n)
  have hsubst : ((s.lamps.get n).changed (change n (s.lamps.get n))).substitution = (s.lamps.get n).substitution :=
    (Lamp.changed_substitution ..).trans (h n _).1
  dsimp only
  rw [Lamp.remember_stored, Lamp.remember_substitution, Lamp.remember_resolved, Lamp.remember_resolve, Lamp.remember_previous]
  split
  · next wanted _ =>
    have hformed := hchanged.substitute hsubst wanted
    exact ⟨hformed.changed, hformed.kept, by rw [hformed.previous]⟩
  · exact ⟨hchanged.changed, hchanged.kept, by rw [hchanged.previous]⟩

theorem lampsUpdated_of_same {s t : State} (h : t.lamps = s.lamps) : LampsUpdated s t := by
  intro n
  rw [h]
  exact ⟨fun hne => hne.elim (absurd rfl) (absurd rfl), fun _ _ => rfl, (if_pos rfl).symm⟩

/-- R60, R61: with L0 SAFETY and L1 INFO an update leaves both substitutions as they are asked for. -/
theorem substituted_lampUpdate {change : Fin 48 → Lamp → Lamp} {s : State} (hzero : (change 0 (s.lamps.get 0)).cls = .safety)
    (hone : (change 1 (s.lamps.get 1)).cls = .info) : Substituted (lampUpdate change s) := by
  have hasked := asked_updatedLamps (readings := s.lmd.readings) hzero hone
  have hlmd : (lampUpdate change s).lmd = s.lmd := (lampUpdate_frame s change).lmd (by decide)
  unfold Substituted
  rw [lampUpdate_lamps, hlmd]
  constructor
  · rw [updatedLamps_substitution, hasked]
    exact wantsSubstitution_iff ..
  · rw [updatedLamps_substitution, hasked]
    exact wantsSubstitution_iff ..

end Sys2Proof.Machine
end

section
/-! SUPPORT. The pairs of WRITE_LAMPS (R57, R58). -/
namespace Sys2Proof.Machine

/-! ### Reading a list of pairs -/

theorem mapM_some {α β : Type} {f : α → Option β} {g : α → β} {l : List α} (h : ∀ x ∈ l, f x = some (g x)) :
    l.mapM f = some (l.map g) := by
  induction l with
  | nil => rfl
  | cons x l ih =>
    rw [List.mapM_cons, h x List.mem_cons_self, ih fun y hy => h y (List.mem_cons_of_mem _ hy)]
    rfl

theorem mapM_none {α β : Type} {f : α → Option β} {l : List α} (h : ∃ x ∈ l, f x = none) : l.mapM f = none := by
  obtain ⟨x, hx, hnone⟩ := h
  induction l with
  | nil => cases hx
  | cons y l ih =>
    rw [List.mapM_cons]
    rcases List.mem_cons.1 hx with rfl | hx
    · rw [hnone]
      rfl
    · rw [ih hx]
      cases f y <;> rfl

/-- R57: the lamp state that a code writes; code 4 takes the contribution away. -/
def pairState (q : LampPair) : Option LampState :=
  ([some .off, some .on, some .slow, some .fast, none] : List (Option LampState)).getD q.code.toNat none

/-- R57: a pair as its rule reads it, where check 2 passes it. -/
def pairRead (q : LampPair) : Fin 48 × Option LampState := (Fin.ofNat 48 q.lamp.toNat, pairState q)

theorem writeOfCode_of_le {b : Byte} (h : b.toNat ≤ 4) : writeOfCode b =
    some (([some .off, some .on, some .slow, some .fast, none] : List (Option LampState)).getD b.toNat none) := by
  have hcases : b.toNat = 0 ∨ b.toNat = 1 ∨ b.toNat = 2 ∨ b.toNat = 3 ∨ b.toNat = 4 := by omega
  rcases hcases with h | h | h | h | h <;> simp [writeOfCode, h]

theorem writeOfCode_of_lt {b : Byte} (h : 4 < b.toNat) : writeOfCode b = none := by
  unfold writeOfCode
  split
  case h_6 => rfl
  all_goals omega

theorem readPair_of_le {q : LampPair} (hlamp : q.lamp.toNat ≤ 47) (hcode : q.code.toNat ≤ 4) : readPair q = some (pairRead q) := by
  have hidx : indexOf 48 q.lamp = some (Fin.ofNat 48 q.lamp.toNat) :=
    indexOf_eq_some (by simp only [Fin.val_ofNat]; omega)
  rw [readPair, hidx, writeOfCode_of_le hcode]
  rfl

theorem readPair_of_lt {q : LampPair} (h : 47 < q.lamp.toNat ∨ 4 < q.code.toNat) : readPair q = none := by
  rcases h with h | h
  · rw [readPair, indexOf_eq_none (by omega)]
  · rw [readPair, writeOfCode_of_lt h]
    split <;> simp_all

/-! ### What the pairs store (R58) -/

theorem Lamp.write_write (p : Port) (v w : Option LampState) (l : Lamp) : (l.write p v).write p w = l.write p w := by
  cases p <;> rfl

/-- R58: in each lamp the last of its pairs is stored. -/
theorem storePairs_read (p : Port) (given : List LampPair) (n : Fin 48) (l : Lamp) :
    storePairs p (given.map pairRead) n l =
      match (given.filter fun q => (pairRead q).1 = n).getLast? with
      | none => l
      | some q => l.write p (pairState q) := by
  induction given generalizing l with
  | nil => rfl
  | cons q rest ih =>
    rw [List.map_cons, storePairs_cons, ih]
    by_cases hq : (pairRead q).1 = n
    · rw [if_pos hq, List.filter_cons_of_pos (by simpa using hq), List.getLast?_cons]
      have hwrite (o : Option LampPair) : (match o with
          | none => l.write p (pairRead q).2
          | some r => (l.write p (pairRead q).2).write p (pairState r)) = l.write p (pairState (o.getD q)) := by
        cases o with
        | none => rfl
        | some r => exact Lamp.write_write ..
      exact hwrite _
    · rw [if_neg hq, List.filter_cons_of_neg (by simpa using hq)]

end Sys2Proof.Machine
end

section
/-! CERTIFICATE. The commands that write and configure lamps (R57 to R59). -/
namespace Sys2Proof.Machine

/-- R57: checks 1 and 2 refuse a request. -/
def PairsBad (count : Byte) (pairs : Tab LampPair 8) : Prop :=
  8 < count.toNat ∨ ∃ q ∈ pairs.val.take count.toNat, 47 < q.lamp.toNat ∨ 4 < q.code.toNat

theorem readPairs_bad {count : Byte} {pairs : Tab LampPair 8} (h : PairsBad count pairs) : readPairs count pairs = none := by
  rcases h with h | ⟨q, hq, hbad⟩
  · exact if_pos h
  · rw [readPairs, mapM_none ⟨q, hq, readPair_of_lt hbad⟩, ite_self]

theorem readPairs_good {count : Byte} {pairs : Tab LampPair 8} (h : ¬PairsBad count pairs) :
    readPairs count pairs = some ((pairs.val.take count.toNat).map pairRead) := by
  obtain ⟨hcount, hgood⟩ := not_or.1 h
  have hread : ∀ q ∈ pairs.val.take count.toNat, readPair q = some (pairRead q) := fun q hq => by
    have hbounds : ¬(47 < q.lamp.toNat ∨ 4 < q.code.toNat) := fun hbad => hgood ⟨q, hq, hbad⟩
    exact readPair_of_le (by omega) (by omega)
  rw [readPairs, if_neg hcount, mapM_some hread]

theorem exec_writeLamps (p : Port) (count : Byte) (pairs : Tab LampPair 8) (s : State) :
    exec (.writeLamps p count pairs) s = .next (takenFrame p 0x20 (writeLampsReply p count pairs) s) := rfl

/-- R57: check 3 passes a lamp. -/
theorem mayWrite_iff (p : Port) (s : State) (n : Fin 48) : mayWrite p s n = true ↔
    ¬(p = .d ∧ ((s.lamps.get n).cls = .safety ∨ ∃ i, (s.inputs.get i).maps n)) := by
  cases p with
  | d =>
    have hcls : (s.lamps.get n).cls = .info ↔ ¬(s.lamps.get n).cls = .safety := by cases (s.lamps.get n).cls <;> simp
    rw [← isMapped_iff]
    simp [mayWrite, portDMayWrite, hcls]
  | s => simp [mayWrite]

section
variable {p : Port} {count : Byte} {pairs : Tab LampPair 8} {s : State}

theorem writeLampsReply_good (h : ¬PairsBad count pairs) : writeLampsReply p count pairs s =
    if ((pairs.val.take count.toNat).map pairRead).all fun q => mayWrite p s q.1 then
      let t := lampUpdate (storePairs p ((pairs.val.take count.toNat).map pairRead)) s
      accept (count :: ((pairs.val.take count.toNat).map pairRead).map fun q => byteOf (t.lamps.get q.1).resolved.rank) t
    else refuse .notPermitted s := by
  rw [writeLampsReply, readPairs_good h]

end

/-- Steps 1 and 2 of a taken frame leave the class of every lamp. -/
theorem beginFrame_cls (p : Port) (s : State) (n : Fin 48) : ((beginFrame p s).lamps.get n).cls = (s.lamps.get n).cls := by
  cases hlive : (s.port p).live
  · have hcls := congrArg Lamp.cls (beginFrame_lamp hlive n).2
    exact hcls
  · rw [(beginFrame_frame_live hlive).lamps (by decide)]

/-- Settles O20: the pairs as they are read, and the update that stores them. -/
theorem lampWritesStored : Obligations.LampWritesStored := by
  intro p count pairs s hout cmd given bad barred
  have hread {q : LampPair} (hgood : ¬bad) (hq : q ∈ given) : (pairRead q).1.val = q.lamp.toNat ∧ q.lamp.toNat < 48 := by
    have hbounds : ¬(47 < q.lamp.toNat ∨ 4 < q.code.toNat) := fun hbad => hgood (.inr ⟨q, hq, hbad⟩)
    have hlt : q.lamp.toNat < 48 := by omega
    exact ⟨Nat.mod_eq_of_lt hlt, hlt⟩
  have hallowed (hgood : ¬bad) : ((given.map pairRead).all fun q => mayWrite p (beginFrame p s) q.1) = true ↔ ¬barred := by
    simp only [List.all_map, List.all_eq_true, Function.comp_apply, mayWrite_iff, beginFrame_cls, beginFrame_inputs]
    constructor
    · rintro hall ⟨hp, q, hq, n, hn, hbar⟩
      have hlamp : (pairRead q).1 = n := Fin.ext ((hread hgood hq).1.trans hn)
      exact hall q hq ⟨hp, hlamp ▸ hbar⟩
    · rintro hfree q hq ⟨hp, hbar⟩
      exact hfree ⟨hp, q, hq, _, (hread hgood hq).1.symm, hbar⟩
  refine ⟨fun hbad => ?_, fun hgood hbarred => ?_, fun hgood hfree => ?_⟩
  · refine refuses_of_takenFrame (exec_writeLamps ..) hout ?_
    rw [writeLampsReply, readPairs_bad hbad]
  · refine refuses_of_takenFrame (exec_writeLamps ..) hout ?_
    rw [writeLampsReply_good hgood]
    exact if_neg fun h => (hallowed hgood).1 h hbarred
  · have hanswer := answers_of_takenFrame (exec_writeLamps p count pairs s) hout
      ((writeLampsReply_good hgood).trans (if_pos ((hallowed hgood).2 hfree)))
    refine ⟨lampUpdate (storePairs p (given.map pairRead)) (beginFrame p s), ?_, fun n => ?_,
      lampsUpdated_lampUpdate (storedOnly_pairs _ _) _,
      fun k hk => (lampUpdate_tells _ _).notPosted (by simpa using hk), lampUpdate_frame _ _⟩
    · simp only [accept, List.map_map] at hanswer
      convert hanswer using 2
      refine List.map_congr_left fun q hq => ?_
      obtain ⟨hval, hlt⟩ := hread hgood hq
      have hlamp : (pairRead q).1 = ⟨q.lamp.toNat, hlt⟩ := Fin.ext hval
      simp only [dif_pos hlt, Function.comp_apply, hlamp]
      rfl
    · have hsame : (given.filter fun q => (pairRead q).1 = n) = given.filter fun q => q.lamp.toNat = n.val :=
        List.filter_congr fun q hq => by simp only [Fin.ext_iff, (hread hgood hq).1]
      rw [lampUpdate_stored, storePairs_read, hsame]
      generalize (given.filter fun q => q.lamp.toNat = n.val).getLast? = last
      cases last with
      | none => rfl
      | some q => cases p <;> rfl

end Sys2Proof.Machine
end

section
/-! SUPPORT. The operands of SET_LAMP_CONFIG (R59). -/
namespace Sys2Proof.Machine

/-- R59: the class of a code. -/
def classOf (b : Byte) : LampClass := if b = 1 then .safety else .info

theorem classOf_eq_safety (b : Byte) : classOf b = .safety ↔ b = 1 := by
  unfold classOf
  split <;> simp_all

theorem classOfCode_of_le {b : Byte} (h : b.toNat ≤ 1) : classOfCode b = some (classOf b) ∧ byteOf (classOf b).code = b := by
  have hcases : b.toNat = (0#8).toNat ∨ b.toNat = (1#8).toNat := by
    rw [BitVec.toNat_ofNat, BitVec.toNat_ofNat]
    omega
  rcases hcases with h | h
  · rw [BitVec.eq_of_toNat_eq h]
    decide
  · rw [BitVec.eq_of_toNat_eq h]
    decide

theorem classOfCode_of_lt {b : Byte} (h : 1 < b.toNat) : classOfCode b = none := by
  unfold classOfCode
  split
  case h_3 => rfl
  all_goals omega

theorem lossOfCode_of_le {b : Byte} (h : b.toNat ≤ 3) : ∃ x, lossOfCode b = some x ∧ (x.map Lit.code).getD 0 = b.toNat := by
  have hcases : b.toNat = 0 ∨ b.toNat = 1 ∨ b.toNat = 2 ∨ b.toNat = 3 := by omega
  rcases hcases with h | h | h | h
  · exact ⟨none, by simp [lossOfCode, h], by simp [h]⟩
  · exact ⟨some .on, by simp [lossOfCode, h], by simp [h, Lit.code, Lit.lamp, LampState.rank]⟩
  · exact ⟨some .slow, by simp [lossOfCode, h], by simp [h, Lit.code, Lit.lamp, LampState.rank]⟩
  · exact ⟨some .fast, by simp [lossOfCode, h], by simp [h, Lit.code, Lit.lamp, LampState.rank]⟩

theorem lossOfCode_of_lt {b : Byte} (h : 3 < b.toNat) : lossOfCode b = none := by
  unfold lossOfCode
  split
  case h_5 => rfl
  all_goals omega

section config
variable {lamp cls d e r : Byte}

/-- R59: check 3 refuses operands. -/
def LampConfigBad (lamp cls d e r : Byte) : Prop :=
  47 < lamp.toNat ∨ 1 < cls.toNat ∨ 3 < d.toNat ∨ 3 < e.toNat ∨ 3 < r.toNat

theorem lampConfigOf_bad (h : LampConfigBad lamp cls d e r) : lampConfigOf lamp cls d e r = none := by
  unfold lampConfigOf
  split
  · next hlamp hcls hd he hr =>
    rcases h with h | h | h | h | h
    · rw [indexOf_eq_none (by omega)] at hlamp
      cases hlamp
    · rw [classOfCode_of_lt h] at hcls
      cases hcls
    · rw [lossOfCode_of_lt h] at hd
      cases hd
    · rw [lossOfCode_of_lt h] at he
      cases he
    · rw [lossOfCode_of_lt h] at hr
      cases hr
  · rfl

theorem lampConfigOf_good (h : ¬LampConfigBad lamp cls d e r) {n : Fin 48} (hn : lamp.toNat = n.val) :
    ∃ x y z, lampConfigOf lamp cls d e r = some ⟨n, classOf cls, x, y, z⟩ ∧ (x.map Lit.code).getD 0 = d.toNat ∧
      (y.map Lit.code).getD 0 = e.toNat ∧ (z.map Lit.code).getD 0 = r.toNat := by
  obtain ⟨hlamp, hcls, hd, he, hr⟩ : lamp.toNat ≤ 47 ∧ cls.toNat ≤ 1 ∧ d.toNat ≤ 3 ∧ e.toNat ≤ 3 ∧ r.toNat ≤ 3 := by
    unfold LampConfigBad at h
    omega
  obtain ⟨x, hx, hxd⟩ := lossOfCode_of_le hd
  obtain ⟨y, hy, hye⟩ := lossOfCode_of_le he
  obtain ⟨z, hz, hzr⟩ := lossOfCode_of_le hr
  exact ⟨x, y, z, by rw [lampConfigOf, indexOf_eq_some hn, (classOfCode_of_le hcls).1, hx, hy, hz], hxd, hye, hzr⟩

/-- R47, R59: the fixed classes of L0 to L5. -/
theorem fixedClass_allows {n : Fin 48} (hn : lamp.toNat = n.val) (hcls : cls.toNat ≤ 1) :
    (fixedClass n = none || fixedClass n = some (classOf cls)) = true ↔
      ¬((lamp = 0 ∧ cls ≠ 1) ∨ (1 ≤ lamp.toNat ∧ lamp.toNat ≤ 5 ∧ cls ≠ 0)) := by
  have hzero : lamp = 0 ↔ n.val = 0 := by rw [← toNat_eq_zero_iff, hn]
  have hcases : cls = 0 ∨ cls = 1 := by
    rcases Nat.le_one_iff_eq_zero_or_eq_one.1 hcls with h | h
    · exact .inl ((toNat_eq_zero_iff cls).1 h)
    · exact .inr (BitVec.eq_of_toNat_eq h)
  rw [hzero, hn, fixedClass]
  split_ifs with h0 h5
  · rcases hcases with rfl | rfl <;> simp [classOf, h0]
  · rcases hcases with rfl | rfl <;> simp [classOf, h0, h5, Nat.one_le_iff_ne_zero]
  · simp [h0, h5]

end config

end Sys2Proof.Machine
end

section
/-! CERTIFICATE. SET_LAMP_CONFIG (R59). -/
namespace Sys2Proof.Machine

theorem exec_setLampConfig (p : Port) (lamp cls d e r : Byte) (s : State) :
    exec (.setLampConfig p lamp cls d e r) s = .next (takenFrame p 0x23 (setLampConfigReply p lamp cls d e r) s) := rfl

/-- R59: the lamp that a SET_LAMP_CONFIG configures. -/
theorem configureLamp_same (k : LampConfig) (s : State) : ((configureLamp k s).lamps.get k.lamp).stored =
    { (s.lamps.get k.lamp).withConfig k with
      loss := lossNow s ((s.lamps.get k.lamp).withConfig k) }.stored := by
  rw [configureLamp, lampUpdate_stored, if_pos rfl]

/-- R59: the class and the loss states of a configured lamp, its written_D and its loss contribution. -/
theorem configureLamp_fields (k : LampConfig) (s : State) :
    let old := s.lamps.get k.lamp
    let new := (configureLamp k s).lamps.get k.lamp
    new.cls = k.cls ∧ new.lossD = k.lossD ∧ new.lossS = k.lossS ∧ new.lossR = k.lossR ∧
      new.writtenD = (if old.cls = .info && k.cls = .safety then none else old.writtenD) ∧ new.loss = lossNow s new := by
  have hsame := configureLamp_same k s
  exact ⟨Lamp.eq_of_stored (·.cls) (fun _ => rfl) hsame, Lamp.eq_of_stored (·.lossD) (fun _ => rfl) hsame,
    Lamp.eq_of_stored (·.lossS) (fun _ => rfl) hsame, Lamp.eq_of_stored (·.lossR) (fun _ => rfl) hsame,
    Lamp.eq_of_stored (·.writtenD) (fun _ => rfl) hsame,
    (Lamp.eq_of_stored (·.loss) (fun _ => rfl) hsame).trans (Lamp.eq_of_stored (lossNow s) (fun _ => rfl) hsame).symm⟩

theorem configureLamp_other {k : LampConfig} {n : Fin 48} (h : n ≠ k.lamp) (s : State) :
    ((configureLamp k s).lamps.get n).stored = (s.lamps.get n).stored := by
  rw [configureLamp, lampUpdate_stored, if_neg h]

section
variable {lamp cls d e r : Byte} {s : State} (hw : s.window = true)
include hw

theorem setLampConfigReply_open {k : LampConfig} (hk : lampConfigOf lamp cls d e r = some k) :
    setLampConfigReply .s lamp cls d e r s = if fixedClass k.lamp = none || fixedClass k.lamp = some k.cls then
      accept (lampConfigData k.lamp ((configureLamp k s).lamps.get k.lamp)) (configureLamp k s)
    else refuse .notPermitted s := by
  rw [setLampConfigReply, ifConfigurable_open _ hw, hk]

theorem setLampConfigReply_bad (h : LampConfigBad lamp cls d e r) : setLampConfigReply .s lamp cls d e r s = refuse .range s := by
  rw [setLampConfigReply, ifConfigurable_open _ hw, lampConfigOf_bad h]

end

/-- Settles O22: the checks in order, and the update of the configured lamp. -/
theorem lampConfigured : Obligations.LampConfigured := by
  intro p lamp cls d e r s hout cmd bad fixed
  have hwb : (beginFrame p s).window = s.window := beginFrame_window p s
  have hcls (hgood : ¬bad) : cls.toNat ≤ 1 := Nat.not_lt.1 fun h => hgood (.inr (.inl h))
  refine ⟨?_, fun hp hw => ?_, fun hp hw hbad => ?_, fun hp hw hgood hfixed => ?_, fun hp hw hgood hfree n hn => ?_⟩
  · rintro rfl
    exact refuses_of_takenFrame (exec_setLampConfig ..) hout rfl
  all_goals subst hp
  · exact refuses_of_takenFrame (exec_setLampConfig ..) hout (ifConfigurable_closed _ (hwb.trans hw))
  · exact refuses_of_takenFrame (exec_setLampConfig ..) hout (setLampConfigReply_bad (hwb.trans hw) hbad)
  · have hlamp : lamp.toNat < 48 := Nat.lt_succ_iff.2 (Nat.not_lt.1 fun h => hgood (.inl h))
    obtain ⟨x, y, z, hk, -⟩ := lampConfigOf_good hgood (n := ⟨lamp.toNat, hlamp⟩) rfl
    refine refuses_of_takenFrame (exec_setLampConfig ..) hout ((setLampConfigReply_open (hwb.trans hw) hk).trans (if_neg ?_))
    exact fun h => (fixedClass_allows rfl (hcls hgood)).1 h hfixed
  · obtain ⟨x, y, z, hk, hx, hy, hz⟩ := lampConfigOf_good hgood hn
    have hallowed := (fixedClass_allows hn (hcls hgood)).2 hfree
    have hanswer := answers_of_takenFrame (exec_setLampConfig .s lamp cls d e r s) hout
      ((setLampConfigReply_open (hwb.trans hw) hk).trans (if_pos hallowed))
    have hnew := configureLamp_fields ⟨n, classOf cls, x, y, z⟩ (beginFrame .s s)
    have hsame := configureLamp_same ⟨n, classOf cls, x, y, z⟩ (beginFrame .s s)
    dsimp only at hnew hanswer hsame
    generalize ht : configureLamp ⟨n, classOf cls, x, y, z⟩ (beginFrame .s s) = t at hnew hanswer hsame
    obtain ⟨hnew_cls, hnew_lossD, hnew_lossS, hnew_lossR, hnew_written, hnew_loss⟩ := hnew
    have hfixed : n.val = 0 → cls = 1 := fun h0 => of_not_not fun h1 =>
      hfree (.inl ⟨(toNat_eq_zero_iff lamp).1 (hn.trans h0), h1⟩)
    have hfixed' : n.val = 1 → cls ≠ 1 := fun h1 hc => hfree (.inr ⟨by omega, by omega, by rw [hc]; decide⟩)
    refine ⟨t, ?_, ?_, ?_, ?_, ?_, ?_, ?_, ?_, fun m hm => ?_, ?_, fun h0 h1 => ?_, fun k hk => ?_, ?_⟩
    · rw [lampConfigData, hnew_cls, hnew_lossD, hnew_lossS, hnew_lossR, byteOf_of_eq hn, (classOfCode_of_le (hcls hgood)).2,
        byteOf_of_eq hx.symm, byteOf_of_eq hy.symm, byteOf_of_eq hz.symm] at hanswer
      exact hanswer
    · exact hnew_cls
    · rw [hnew_lossD]; exact hx
    · rw [hnew_lossS]; exact hy
    · rw [hnew_lossR]; exact hz
    · rw [hnew_written]
      simp only [classOf_eq_safety, Bool.and_eq_true, decide_eq_true_eq]
    · exact hnew_loss
    · rw [hsame]
      rfl
    all_goals subst ht
    · exact configureLamp_other hm _
    · exact lampsUpdated_lampUpdate (storedOnly_config _ _) _
    · refine substituted_lampUpdate ?_ ?_
      · split
        · next hn0 => exact (classOf_eq_safety cls).2 (hfixed (congrArg Fin.val hn0).symm)
        · rw [beginFrame_cls, h0]
      · split
        · next hn1 => exact if_neg (hfixed' (congrArg Fin.val hn1).symm)
        · rw [beginFrame_cls, h1]
    · exact (lampUpdate_tells _ _).notPosted (by simpa using hk)
    · exact lampUpdate_frame _ _

end Sys2Proof.Machine
end

section
/-! SUPPORT. The input contribution of a lamp by what its inputs ask for (R49, R161), and the operands of SET_INPUT (R163). -/
namespace Sys2Proof.Machine

/-! ### The most prominent of several lamp states -/

theorem LampState.rank_inj {a b : LampState} (h : a.rank = b.rank) : a = b := by
  have hback (c : LampState) : ([.off, .on, .slow, .fast] : List LampState)[c.rank]? = some c := by cases c <;> rfl
  exact Option.some.inj ((hback a).symm.trans (h ▸ hback b))

theorem LampState.max_rank (a b : LampState) : (a.max b).rank = Nat.max a.rank b.rank := by
  unfold LampState.max
  split
  · next h => exact (Nat.max_eq_right h).symm
  · next h => exact (Nat.max_eq_left (Nat.le_of_not_le h)).symm

theorem LampState.max_cases (a b : LampState) : a.max b = a ∨ a.max b = b := by
  unfold LampState.max
  split
  · exact .inr rfl
  · exact .inl rfl

theorem foldl_max_rank (l : List LampState) (v : LampState) :
    v.rank ≤ (l.foldl LampState.max v).rank ∧ ∀ a ∈ l, a.rank ≤ (l.foldl LampState.max v).rank := by
  induction l generalizing v with
  | nil => simp
  | cons b l ih =>
    obtain ⟨hstart, hrest⟩ := ih (v.max b)
    have hmax := LampState.max_rank v b
    refine ⟨?_, fun a ha => ?_⟩
    · exact ((Nat.le_max_left ..).trans_eq hmax.symm).trans hstart
    · rcases List.mem_cons.1 ha with rfl | ha
      · exact ((Nat.le_max_right ..).trans_eq hmax.symm).trans hstart
      · exact hrest a ha

theorem foldl_max_mem (l : List LampState) (v : LampState) : l.foldl LampState.max v = v ∨ l.foldl LampState.max v ∈ l := by
  induction l generalizing v with
  | nil => exact .inl rfl
  | cons b l ih =>
    rcases ih (v.max b) with h | h
    · rw [List.foldl_cons, h]
      rcases LampState.max_cases v b with hb | hb
      · exact .inl hb
      · rw [hb]
        exact .inr List.mem_cons_self
    · exact .inr (List.mem_cons_of_mem _ h)

/-- Of several lamp states the most prominent is one of them. -/
theorem foldl_max_off_mem {l : List LampState} (h : l ≠ []) : l.foldl LampState.max .off ∈ l := by
  rcases foldl_max_mem l .off with hoff | hmem
  · obtain ⟨a, ha⟩ := List.exists_mem_of_ne_nil l h
    have hle := (foldl_max_rank l .off).2 a ha
    rw [hoff] at hle
    have : a = .off := LampState.rank_inj (Nat.le_zero.1 hle)
    rw [hoff, ← this]
    exact ha
  · exact hmem

/-! ### The input contribution -/

/-- What the inputs that target a lamp ask for. -/
def lampAsks (inputs : Tab InputRecord 12) (n : Fin 48) : List LampState :=
  (inputs.val.filter fun r => r.function = .lamp && r.target = n).map fun r => if r.active then r.lampState.lamp else .off

theorem inputContribution_eq (inputs : Tab InputRecord 12) (n : Fin 48) : inputContribution inputs n =
    if lampAsks inputs n = [] then none else some ((lampAsks inputs n).foldl LampState.max .off) := rfl

theorem mem_lampAsks (t : State) (n : Fin 48) (v : LampState) : v ∈ lampAsks t.inputs n ↔ InputAsks t n v := by
  simp only [lampAsks, InputAsks, List.mem_map, List.mem_filter, Tab.mem_val_iff, Bool.and_eq_true, decide_eq_true_eq]
  constructor
  · rintro ⟨_, ⟨⟨j, rfl⟩, hf, ht⟩, rfl⟩
    exact ⟨j, hf, ht, rfl⟩
  · rintro ⟨j, hf, ht, rfl⟩
    exact ⟨_, ⟨⟨j, rfl⟩, hf, ht⟩, rfl⟩

/-- R49, R161: an input contribution that stands as the inputs give it is the most prominent of what they ask for. -/
theorem inputFormed_of_eq {t : State} {n : Fin 48} (h : (t.lamps.get n).input = inputContribution t.inputs n) :
    InputFormed t n := by
  have hmem (v : LampState) := mem_lampAsks t n v
  rw [InputFormed, h, inputContribution_eq]
  split
  · next hnone =>
    intro j ⟨hf, ht⟩
    split at hnone
    · next hempty =>
      have := (hmem _).2 ⟨j, hf, ht, rfl⟩
      rw [hempty] at this
      cases this
    · cases hnone
  · next v hsome =>
    split at hsome
    · cases hsome
    · next hne =>
      cases hsome
      exact ⟨(hmem _).1 (foldl_max_off_mem hne), fun j hf ht => (foldl_max_rank _ _).2 _ ((hmem _).2 ⟨j, hf, ht, rfl⟩)⟩

/-! ### The operands of SET_INPUT (R163) -/

theorem functionOfCode_of_le {b : Byte} (h : b.toNat ≤ 2) :
    functionOfCode b = some (([.none, .lamp, .event] : List InputFunction).getD b.toNat .none) ∧
      (([.none, .lamp, .event] : List InputFunction).getD b.toNat .none).code = b.toNat := by
  have hcases : b.toNat = 0 ∨ b.toNat = 1 ∨ b.toNat = 2 := by omega
  rcases hcases with h | h | h <;> simp [functionOfCode, h, InputFunction.code]

theorem functionOfCode_of_lt {b : Byte} (h : 2 < b.toNat) : functionOfCode b = none := by
  unfold functionOfCode
  split
  case h_4 => rfl
  all_goals omega

theorem litOfCode_of_le {b : Byte} (h0 : b ≠ 0) (h : b.toNat ≤ 3) :
    litOfCode b = some (([.on, .slow, .fast] : List Lit).getD (b.toNat - 1) .on) ∧
      (([.on, .slow, .fast] : List Lit).getD (b.toNat - 1) .on).code = b.toNat := by
  have hpos := mt (toNat_eq_zero_iff b).1 h0
  have hcases : b.toNat = 1 ∨ b.toNat = 2 ∨ b.toNat = 3 := by omega
  rcases hcases with h | h | h <;> simp [litOfCode, h, Lit.code, Lit.lamp, LampState.rank]

theorem litOfCode_of_out {b : Byte} (h : b = 0 ∨ 3 < b.toNat) : litOfCode b = none := by
  have hout : b.toNat = 0 ∨ 3 < b.toNat := h.imp_left (toNat_eq_zero_iff b).2
  unfold litOfCode
  split
  case h_4 => rfl
  all_goals omega

theorem polarityOfCode_of_le {b : Byte} (h : b.toNat ≤ 1) :
    polarityOfCode b = some (decide (b = 0)) ∧ bitByte (!decide (b = 0)) = b := by
  have hzero := toNat_eq_zero_iff b
  have hcases : b.toNat = 0 ∨ b.toNat = (1#8).toNat := by
    rw [BitVec.toNat_ofNat]
    omega
  rcases hcases with h | h
  · rw [hzero.1 h]
    decide
  · rw [BitVec.eq_of_toNat_eq h]
    decide

theorem polarityOfCode_of_lt {b : Byte} (h : 1 < b.toNat) : polarityOfCode b = none := by
  unfold polarityOfCode
  split
  case h_3 => rfl
  all_goals omega

theorem edgeOfCode_of_le {b : Byte} (h : b.toNat ≤ 3) :
    edgeOfCode b = some (([.none, .rise, .fall, .both] : List EdgeSelection).getD b.toNat .none) ∧
      (([.none, .rise, .fall, .both] : List EdgeSelection).getD b.toNat .none).code = b.toNat := by
  have hcases : b.toNat = 0 ∨ b.toNat = 1 ∨ b.toNat = 2 ∨ b.toNat = 3 := by omega
  rcases hcases with h | h | h | h <;> simp [edgeOfCode, h, EdgeSelection.code]

theorem edgeOfCode_of_lt {b : Byte} (h : 3 < b.toNat) : edgeOfCode b = none := by
  unfold edgeOfCode
  split
  case h_5 => rfl
  all_goals omega

theorem debounceOfByte_eq (b : Byte) : debounceOfByte b = 10 * max 1 (min b.toNat 25) := rfl

/-- R163: check 3 refuses a request. -/
def InputArgsBad (a : InputArgs) : Prop :=
  11 < a.input.toNat ∨ 2 < a.function.toNat ∨ 47 < a.target.toNat ∨ a.lampState = 0 ∨
    3 < a.lampState.toNat ∨ 1 < a.polarity.toNat ∨ 3 < a.edge.toNat

theorem inputConfigOf_bad {a : InputArgs} (h : InputArgsBad a) : inputConfigOf a = none := by
  unfold inputConfigOf
  split
  · next hinput hfunction htarget hlit hpolarity hedge =>
    rcases h with h | h | h | h | h | h | h
    · rw [indexOf_eq_none (by omega)] at hinput
      cases hinput
    · rw [functionOfCode_of_lt h] at hfunction
      cases hfunction
    · rw [indexOf_eq_none (by omega)] at htarget
      cases htarget
    · rw [litOfCode_of_out (.inl h)] at hlit
      cases hlit
    · rw [litOfCode_of_out (.inr h)] at hlit
      cases hlit
    · rw [polarityOfCode_of_lt h] at hpolarity
      cases hpolarity
    · rw [edgeOfCode_of_lt h] at hedge
      cases hedge
  · rfl

/-- R163: the settings that operands ask for. -/
structure InputConfig.Of (k : InputConfig) (a : InputArgs) (i : Fin 12) : Prop where
  input : k.input = i
  function : k.function = ([.none, .lamp, .event] : List InputFunction).getD a.function.toNat .none
  functionCode : k.function.code = a.function.toNat
  target : k.target.val = a.target.toNat
  lampState : k.lampState = ([.on, .slow, .fast] : List Lit).getD (a.lampState.toNat - 1) .on
  lampCode : k.lampState.code = a.lampState.toNat
  activeHigh : k.activeHigh = decide (a.polarity = 0)
  polarity : bitByte (!k.activeHigh) = a.polarity
  debounce : k.debounce = 10 * max 1 (min a.debounce.toNat 25)
  edge : k.edge = ([.none, .rise, .fall, .both] : List EdgeSelection).getD a.edge.toNat .none
  edgeCode : k.edge.code = a.edge.toNat

theorem inputConfigOf_good {a : InputArgs} (h : ¬InputArgsBad a) {i : Fin 12} (hi : a.input.toNat = i.val) :
    ∃ k, inputConfigOf a = some k ∧ k.Of a i := by
  unfold InputArgsBad at h
  push Not at h
  obtain ⟨-, hfunction, htarget47, hlit0, hlit, hpolarity, hedge⟩ := h
  have htarget : a.target.toNat < 48 := Nat.lt_succ_of_le htarget47
  obtain ⟨hf, hfcode⟩ := functionOfCode_of_le hfunction
  obtain ⟨hl, hlcode⟩ := litOfCode_of_le hlit0 hlit
  obtain ⟨hp, hpcode⟩ := polarityOfCode_of_le hpolarity
  obtain ⟨he, hecode⟩ := edgeOfCode_of_le hedge
  have ht : indexOf 48 a.target = some ⟨a.target.toNat, htarget⟩ := indexOf_eq_some rfl
  refine ⟨_, by rw [inputConfigOf, indexOf_eq_some hi, hf, ht, hl, hp, he], ?_⟩
  exact { input := rfl, function := rfl, functionCode := hfcode, target := rfl, lampState := rfl, lampCode := hlcode,
          activeHigh := rfl, polarity := hpcode, debounce := debounceOfByte_eq _, edge := rfl, edgeCode := hecode }

end Sys2Proof.Machine
end

section
/-! CERTIFICATE. SET_INPUT (R163, R164). -/
namespace Sys2Proof.Machine

theorem exec_setInput (p : Port) (a : InputArgs) (s : State) :
    exec (.setInput p a) s = .next (takenFrame p 0x60 (setInputReply p a) s) := rfl

section reply
variable {a : InputArgs} {s : State} (hw : s.window = true)
include hw

theorem setInputReply_bad (h : InputArgsBad a) : setInputReply .s a s = refuse .range s := by
  rw [setInputReply, ifConfigurable_open _ hw, inputConfigOf_bad h]

theorem setInputReply_zero {k : InputConfig} (hk : inputConfigOf a = some k) (h : k.input = 0) :
    setInputReply .s a s = refuse .notPermitted s := by
  rw [setInputReply, ifConfigurable_open _ hw, hk]
  exact if_pos h

theorem setInputReply_other {k : InputConfig} (hk : inputConfigOf a = some k) (h : k.input ≠ 0) : setInputReply .s a s =
    accept (inputData k.input ((applyInput k s).inputs.get k.input)) (applyInput k s) := by
  rw [setInputReply, ifConfigurable_open _ hw, hk]
  exact if_neg h

end reply

section configure
variable {k : InputConfig} {a : InputArgs} {i : Fin 12} (h : k.Of a i) (r : InputRecord)
include h

theorem inputData_configure : inputData k.input (r.configure k) =
    [byteOf k.input.val, a.function, a.target, a.lampState, a.polarity, byteOf (max 1 (min a.debounce.toNat 25)), a.edge,
      flagByte [r.raw, r.debounced, (r.configure k).active]] := by
  have hfields : (r.configure k).function = k.function ∧ (r.configure k).target = k.target ∧
      (r.configure k).lampState = k.lampState ∧ (r.configure k).activeHigh = k.activeHigh ∧
      (r.configure k).debounce = k.debounce ∧ (r.configure k).edge = k.edge := ⟨rfl, rfl, rfl, rfl, rfl, rfl⟩
  obtain ⟨hf, ht, hl, ha, hd, he⟩ := hfields
  rw [inputData, hf, ht, hl, ha, hd, he, byteOf_of_eq h.functionCode.symm, byteOf_of_eq h.target.symm,
    byteOf_of_eq h.lampCode.symm, h.polarity, h.debounce, Nat.mul_div_cancel_left _ (by decide), byteOf_of_eq h.edgeCode.symm]
  rfl

theorem InputConfig.Of.configure_eq : r.configure k =
    { r with function := k.function, target := k.target, lampState := k.lampState, edge := k.edge,
             activeHigh := a.polarity = 0, debounce := 10 * max 1 (min a.debounce.toNat 25),
             active := r.debounced = (a.polarity = 0) } := by
  have hactive : (r.debounced = decide (a.polarity = 0)) = ((r.debounced = true) = (a.polarity = 0)) := by
    rw [Bool.eq_iff_iff, decide_eq_true_iff, ← eq_iff_iff]
  simp only [InputRecord.configure, InputRecord.formActive, h.activeHigh, h.debounce, hactive]

end configure

section apply
variable (k : InputConfig) (s : State)

/-- R164: the lamps that a SET_INPUT touches. -/
theorem mem_inputLamps (old new : InputRecord) (n : Fin 48) : (inputLamps old new).contains n = true ↔
    (old.function = .lamp ∨ new.function = .lamp) ∧ (n = old.target ∨ n = new.target) := by
  unfold inputLamps
  split_ifs with h
  · rw [Bool.or_eq_true, decide_eq_true_iff, decide_eq_true_iff] at h
    simp [h]
  · rw [Bool.or_eq_true, decide_eq_true_iff, decide_eq_true_iff] at h
    simp [h]

/-- R164: what a SET_INPUT leaves of a lamp. -/
theorem applyInput_lamp (n : Fin 48) : ((applyInput k s).lamps.get n).stored =
    if (inputLamps (s.inputs.get k.input) ((s.inputs.get k.input).configure k)).contains n then
      { s.lamps.get n with
        input := inputContribution (applyInput k s).inputs n
        writtenD := if isMapped (applyInput k s).inputs n && !isMapped s.inputs n then none else (s.lamps.get n).writtenD }.stored
    else (s.lamps.get n).stored := by
  rw [applyInput_inputs]
  unfold applyInput
  dsimp only
  split
  · next hempty => simp [hempty]
  · rw [remapLamps, lampUpdate_stored]
    split <;> rfl

variable {k s} in
theorem applyInput_untouched {n : Fin 48}
    (h : ¬(inputLamps (s.inputs.get k.input) ((s.inputs.get k.input).configure k)).contains n = true) :
    ((applyInput k s).lamps.get n).stored = (s.lamps.get n).stored := by rw [applyInput_lamp, if_neg h]

variable {k s} in
theorem applyInput_touched {n : Fin 48}
    (h : (inputLamps (s.inputs.get k.input) ((s.inputs.get k.input).configure k)).contains n = true) :
    ((applyInput k s).lamps.get n).input = inputContribution (applyInput k s).inputs n ∧
      ((applyInput k s).lamps.get n).writtenD =
        if isMapped (applyInput k s).inputs n && !isMapped s.inputs n then none else (s.lamps.get n).writtenD := by
  have hlamp := applyInput_lamp k s n
  rw [if_pos h] at hlamp
  exact ⟨Lamp.eq_of_stored (·.input) (fun _ => rfl) hlamp, Lamp.eq_of_stored (·.writtenD) (fun _ => rfl) hlamp⟩

/-- R164: a SET_INPUT hands nothing but input contributions and the written_D that a mapped lamp loses. -/
theorem applyInput_others (n : Fin 48) :
    { ((applyInput k s).lamps.get n).stored with
      input := (s.lamps.get n).input, writtenD := (s.lamps.get n).writtenD } = (s.lamps.get n).stored := by
  rw [applyInput_lamp]
  split <;> rfl

theorem lampsUpdated_applyInput : LampsUpdated s (applyInput k s) := by
  unfold applyInput
  dsimp only
  split
  · exact lampsUpdated_of_same rfl
  · exact lampsUpdated_lampUpdate (storedOnly_remap _ _ _) (s.setInputs _)

end apply

/-- Settles O45: the checks in order, the configured record, and the update of both targets. -/
theorem inputConfigured : Obligations.InputConfigured := by
  intro p a s hout cmd bad
  have hwb : (beginFrame p s).window = s.window := beginFrame_window p s
  have hinputs : (beginFrame p s).inputs = s.inputs := beginFrame_inputs p s
  refine ⟨?_, fun hp hw => ?_, fun hp hw hbad => ?_, fun hp hw hgood hzero => ?_, fun hp hw hgood i hi0 hi => ?_⟩
  · rintro rfl
    exact refuses_of_takenFrame (exec_setInput ..) hout rfl
  all_goals subst hp
  · exact refuses_of_takenFrame (exec_setInput ..) hout (ifConfigurable_closed _ (hwb.trans hw))
  · exact refuses_of_takenFrame (exec_setInput ..) hout (setInputReply_bad (hwb.trans hw) hbad)
  · obtain ⟨k, hk, hof⟩ := inputConfigOf_good hgood (i := 0) ((toNat_eq_zero_iff _).2 hzero)
    exact refuses_of_takenFrame (exec_setInput ..) hout (setInputReply_zero (hwb.trans hw) hk hof.input)
  · obtain ⟨k, hk, hof⟩ := inputConfigOf_good hgood hi
    have hki := hof.input
    subst hki
    have hanswer := answers_of_takenFrame (exec_setInput .s a s) hout (setInputReply_other (hwb.trans hw) hk hi0)
    have hnew : (applyInput k (beginFrame .s s)).inputs.get k.input = (s.inputs.get k.input).configure k := by
      rw [applyInput_inputs, hinputs, Tab.get_set_same]
    refine ⟨applyInput k (beginFrame .s s), ?_⟩
    rw [hnew]
    refine ⟨?_, hof.function, hof.target, hof.lampState, hof.edge, ?_, fun j hj => ?_, fun n hn => ⟨?_, ?_⟩, fun n hn => ?_,
      fun n => ?_, lampsUpdated_applyInput _ _, fun e he => (applyInput_tells _ _).notPosted (by simpa using he),
      applyInput_frame _ _⟩
    · rw [hnew, inputData_configure hof, byteOf_of_eq hi] at hanswer
      exact hanswer
    · exact InputConfig.Of.configure_eq hof _
    · rw [applyInput_inputs, hinputs, Tab.get_set_other _ _ hj]
    · exact inputFormed_of_eq (applyInput_touched (by rwa [hinputs, mem_inputLamps])).1
    · rw [(applyInput_touched (by rwa [hinputs, mem_inputLamps])).2, hinputs]
      refine if_congr ?_ rfl rfl
      rw [Bool.and_eq_true, Bool.not_eq_true', ← Bool.not_eq_true, isMapped_iff, isMapped_iff]
      rfl
    · exact applyInput_untouched (by rwa [hinputs, mem_inputLamps])
    · exact applyInput_others _ _ _

end Sys2Proof.Machine
end

section
/-! SUPPORT. What the edges of a sample bring: each input's contribution (R161) and its posting (R162). -/
namespace Sys2Proof.Machine

/-! ### The contribution of the inputs to one lamp -/

/-- R161: the input contribution of a lamp stands as the inputs now give it. -/
def InputHanded (n : Fin 48) (s : State) : Prop := (s.lamps.get n).input = inputContribution s.inputs n

/-- What an update stores in one place of a lamp's record. -/
theorem lampUpdate_reads {α : Type} {f : Lamp → α} (hf : ∀ l : Lamp, f l = f l.stored) (change : Fin 48 → Lamp → Lamp) (s : State)
    (n : Fin 48) : f ((lampUpdate change s).lamps.get n) = f (change n (s.lamps.get n)) :=
  Lamp.eq_of_stored f hf (lampUpdate_stored change s n)

section handed
variable {n : Fin 48} {s t : State}

theorem InputHanded.frame {A : List Block} (hs : InputHanded n s) (h : OnlyChanges A s t) (hl : .lamps ∉ A) (hi : .inputs ∉ A) :
    InputHanded n t := by
  rw [InputHanded, h.lamps hl, h.inputs hi]
  exact hs

theorem InputHanded.formGaugeAny (hs : InputHanded n s) (l : List (Fin 48)) : InputHanded n (formGaugeAny l s) := by
  have hinput : ((Machine.formGaugeAny l s).lamps.get n).input = (s.lamps.get n).input := by
    unfold Machine.formGaugeAny
    split
    · rfl
    · rw [formGauge, lampUpdate_reads (f := (·.input)) fun _ => rfl]
      split <;> rfl
  rw [InputHanded, hinput, (formGaugeAny_frame s l).inputs (by decide)]
  exact hs

theorem inputHanded_passages (n : Fin 48) : PassagesKeep (InputHanded n) where
  flag _ _ hs := hs
  runEntry s _ hs := InputHanded.frame (((hs.frame (setPwc_frame s _) (by decide) (by decide)).frame (enterPower_frame _ _)
    (by decide) (by decide)).formGaugeAny _) (judgeTone_frame _) (by decide) (by decide)
  parkingDone s _ hs := hs.frame (parkingDone_frame s) (by decide) (by decide)
  enterRunCheck s _ hs := hs.frame (enterRunCheck_frame s) (by decide) (by decide)
  leaveCycle s _ hs := by
    have hstopped := hs.frame (cycleStopped_frame s) (by decide) (by decide)
    have hleft : InputHanded n (cycleLeft s) := by
      unfold cycleLeft
      split
      · exact InputHanded.frame (hstopped.formGaugeAny _) (judgeTone_frame _) (by decide) (by decide)
      · exact hstopped.frame (judgeTone_frame _) (by decide) (by decide)
    rw [leaveCycle_eq]
    split
    · exact hleft.frame (quiesce_frame _) (by decide) (by decide)
    · exact hleft

/-- R161: forming the input contribution of some lamps. -/
theorem formInputs_input (l : List (Fin 48)) (s : State) (n : Fin 48) : ((formInputs l s).lamps.get n).input =
    if l.contains n then inputContribution s.inputs n else (s.lamps.get n).input := by
  rw [formInputs, lampUpdate_reads (f := (·.input)) fun _ => rfl]
  split <;> rfl

end handed

/-! ### One edge -/

section edge
variable (i : Fin 12) (s : State)

/-- R158 to R161: an edge of an input other than the ignition's. -/
theorem edge_plain (h : (s.inputs.get i).function ≠ .ignition) : edge i s =
    if (s.inputs.get i).edged.active ≠ (s.inputs.get i).active ∧ (s.inputs.get i).function = .lamp then
      formInputs [(s.inputs.get i).target] (edgeTold i s)
    else edgeTold i s := by
  have hfunction : (s.inputs.get i).edged.function = (s.inputs.get i).function := rfl
  have htarget : (s.inputs.get i).edged.target = (s.inputs.get i).target := rfl
  rw [edge_eq, handActive, hfunction, htarget]
  cases hf : (s.inputs.get i).function with
  | ignition => exact absurd hf h
  | lamp => split <;> simp_all
  | none | event => simp

variable {i s} in
/-- R161: an edge that changes what a LAMP input asks for hands the contribution of its target. -/
theorem inputHanded_edge_self (hf : (s.inputs.get i).function = .lamp)
    (ha : (s.inputs.get i).edged.active ≠ (s.inputs.get i).active) : InputHanded (s.inputs.get i).target (edge i s) := by
  rw [edge_plain i s (by simp [hf]), if_pos ⟨ha, hf⟩, InputHanded, formInputs_input, formInputs_inputs]
  simp

variable {i s} in
/-- R161: an edge keeps a contribution that stands. -/
theorem InputHanded.edge {n : Fin 48} (hs : InputHanded n s) : InputHanded n (edge i s) := by
  have hlamps : (edgeTold i s).lamps = s.lamps := (edgeTold_frame s i).lamps (by decide)
  have hquiet (hask : (s.inputs.get i).edged.ask n = (s.inputs.get i).ask n) : InputHanded n (edgeTold i s) := by
    rw [InputHanded, hlamps, edgeTold_inputs, inputContribution_set hask]
    exact hs
  have hnone (hmaps : ¬(s.inputs.get i).maps n) : InputHanded n (edgeTold i s) :=
    hquiet ((InputRecord.ask_of_not_maps (r := (s.inputs.get i).edged) hmaps).trans (InputRecord.ask_of_not_maps hmaps).symm)
  by_cases hf : (s.inputs.get i).function = .ignition
  · have htold := hnone fun hmaps => by simp [hmaps.1] at hf
    rw [edge_eq, handActive, show (s.inputs.get i).edged.function = .ignition from hf]
    dsimp only
    split_ifs
    · exact htold
    · exact (inputHanded_passages n).ignitionOn htold
    · exact (inputHanded_passages n).ignitionOff htold
  · rw [edge_plain i s hf]
    split
    · by_cases htarget : (s.inputs.get i).target = n
      · rw [InputHanded, formInputs_input, formInputs_inputs, if_pos (by simp [htarget])]
      · rw [InputHanded, formInputs_input, formInputs_inputs, if_neg (by simpa using Ne.symm htarget)]
        exact hnone fun hmaps => htarget hmaps.2
    · next hsame =>
      by_cases hmaps : (s.inputs.get i).maps n
      · have hactive : (s.inputs.get i).edged.active = (s.inputs.get i).active := of_not_not fun h => hsame ⟨h, hmaps.1⟩
        refine hquiet ?_
        unfold InputRecord.ask
        rw [hactive]
        rfl
      · exact hnone hmaps

end edge

/-! ### Postings of edges (R162) -/

theorem postsEdge_iff (r : InputRecord) (level : Bool) : r.postsEdge level = true ↔ r.Tells level := by
  have hcovers : r.edge.covers level = true ↔ r.edge = .both ∨ r.edge = if level then .rise else .fall := by
    cases r.edge <;> cases level <;> simp [EdgeSelection.covers]
  rw [InputRecord.postsEdge, Bool.and_eq_true, Bool.or_eq_true, decide_eq_true_iff, decide_eq_true_iff, hcovers]
  rfl

section events
variable {i : Fin 12} {s : State}

theorem handActive_quiet (r : InputRecord) (s : State) : NotPosted .discreteEdge s (handActive r s) :=
  (handActive_tells s r).notPosted (by decide)

theorem edge_posted (h : (s.inputs.get i).Tells (s.inputs.get i).raw) : Posted .discreteEdge i.val s (edge i s) := by
  have htold : Posted .discreteEdge i.val s (edgeTold i s) := by
    have hposts : (s.inputs.get i).edged.postsEdge (s.inputs.get i).edged.debounced = true := (postsEdge_iff ..).2 h
    rw [edgeTold, if_pos hposts]
    exact posted_post .discreteEdge i.val (s.setInputs _)
  rw [edge_eq]
  split
  · exact htold
  · exact htold.trans_notPosted (handActive_quiet _ _)

theorem edge_notPosted (h : ¬(s.inputs.get i).Tells (s.inputs.get i).raw) : NotPosted .discreteEdge s (edge i s) := by
  have htold : NotPosted .discreteEdge s (edgeTold i s) := by
    have hposts : ¬(s.inputs.get i).edged.postsEdge (s.inputs.get i).edged.debounced = true := mt (postsEdge_iff ..).1 h
    rw [edgeTold, if_neg hposts]
    exact .of_frame (setInputs_frame s _) (by decide)
  rw [edge_eq]
  split
  · exact htold
  · exact htold.trans (handActive_quiet _ _)

/-- R158: an edge leaves every record's raw level, function and selection. -/
theorem edge_tells_same (j : Fin 12) : ((edge i s).inputs.get j).Tells ((edge i s).inputs.get j).raw ↔
    (s.inputs.get j).Tells (s.inputs.get j).raw := by
  rw [edge_inputs, Tab.get_set]
  split
  · next h =>
    subst h
    rfl
  · rfl

/-! ### Several edges of one sample -/

theorem forEach_edge_handed {l : List (Fin 12)} (hi : i ∈ l) (hf : (s.inputs.get i).function = .lamp)
    (ha : (s.inputs.get i).edged.active ≠ (s.inputs.get i).active) :
    InputHanded (s.inputs.get i).target (forEach edge l s) := by
  induction l generalizing s with
  | nil => cases hi
  | cons j l ih =>
    by_cases hj : i = j
    · subst hj
      exact forEach_preserves (InputHanded _) _ (fun _ _ h => h.edge) l (edge i s) (inputHanded_edge_self hf ha)
    · have hsame : (edge j s).inputs.get i = s.inputs.get i := by rw [edge_inputs, Tab.get_set_other _ _ hj]
      have hrest := ih (s := edge j s) ((List.mem_cons.1 hi).resolve_left hj) (by rwa [hsame]) (by rwa [hsame])
      rwa [hsame] at hrest

theorem forEach_edge_notPosted {l : List (Fin 12)} (h : ∀ j ∈ l, ¬(s.inputs.get j).Tells (s.inputs.get j).raw) :
    NotPosted .discreteEdge s (forEach edge l s) := by
  induction l generalizing s with
  | nil => exact fun _ => rfl
  | cons j l ih =>
    have hrest := ih (s := edge j s) fun k hk => mt (edge_tells_same k).1 (h k (List.mem_cons_of_mem _ hk))
    exact (edge_notPosted (h j List.mem_cons_self)).trans hrest

theorem forEach_edge_posted {l : List (Fin 12)} (hnodup : l.Nodup) (hi : i ∈ l) (htells : (s.inputs.get i).Tells (s.inputs.get i).raw)
    (h : ∀ j ∈ l, j ≠ i → ¬(s.inputs.get j).Tells (s.inputs.get j).raw) :
    Posted .discreteEdge i.val s (forEach edge l s) := by
  induction l generalizing s with
  | nil => cases hi
  | cons j l ih =>
    obtain ⟨hjl, hnodup⟩ := List.nodup_cons.1 hnodup
    have hrest (k : Fin 12) (hk : k ∈ l) (hki : k ≠ i) := mt (edge_tells_same (i := j) (s := s) k).1 (h k (List.mem_cons_of_mem _ hk) hki)
    by_cases hj : i = j
    · subst hj
      exact (edge_posted htells).trans_notPosted (forEach_edge_notPosted fun k hk => hrest k hk fun e => hjl (e ▸ hk))
    · exact (edge_notPosted (h j List.mem_cons_self (Ne.symm hj))).trans_posted
        (ih hnodup ((List.mem_cons.1 hi).resolve_left hj) ((edge_tells_same i).2 htells) hrest)

end events

/-! ### A sample (R157, R158) -/

theorem sample_reads (r : InputRecord) (mv : Int) : (r.sample mv).raw = r.reads mv := rfl

theorem waited_iff (r : InputRecord) (mv : Int) : (r.sample mv).waited = true ↔ r.Completes mv := by
  have hwait : (r.sample mv).wait = if r.reads mv = r.debounced then 0 else r.wait + 1 := rfl
  have hdebounced : (r.sample mv).debounced = r.debounced := rfl
  have hdebounce : (r.sample mv).debounce = r.debounce := rfl
  rw [InputRecord.waited, Bool.and_eq_true, decide_eq_true_iff, decide_eq_true_iff, sample_reads, hwait, hdebounced, hdebounce,
    InputRecord.Completes]
  refine and_congr_right fun hne => ?_
  rw [if_neg hne]

/-- R158, log 4: the inputs whose wait a sample completes, in the order of their edges. -/
def edgeOrder (mv : Tab Int 12) (s : State) : List (Fin 12) :=
  arrange s.choices ((storeSample mv s).inputs.indices InputRecord.waited)

theorem edgeOrder_nodup (mv : Tab Int 12) (s : State) : (edgeOrder mv s).Nodup :=
  (arrange_perm _ _).nodup_iff.2 ((List.nodup_finRange 12).filter _)

theorem mem_edgeOrder (mv : Tab Int 12) (s : State) (i : Fin 12) : i ∈ edgeOrder mv s ↔ (s.inputs.get i).Completes (mv.get i) := by
  rw [edgeOrder, (arrange_perm _ _).mem_iff, Tab.mem_indices, storeSample_input, waited_iff]

/-- A sample stored, before its edges. -/
def sampled (mv : Tab Int 12) (s : State) : State :=
  (storeSample mv s).setChoices (s.choices + (((storeSample mv s).inputs.indices InputRecord.waited).length - 1))

theorem sampleInputs_edges (mv : Tab Int 12) (s : State) : sampleInputs mv s = forEach edge (edgeOrder mv s) (sampled mv s) := rfl

theorem sampled_frame (mv : Tab Int 12) (s : State) : OnlyChanges [.inputs, .leads] s (sampled mv s) :=
  .after (setChoices_frame _ _) (by decide) (storeSample_frame s mv)

end Sys2Proof.Machine
end

section
/-! CERTIFICATE. Sampling and debouncing (R157 to R162). -/
namespace Sys2Proof.Machine

section sample
variable {mv : Tab Int 12} {s : State} {i : Fin 12}

@[simp] theorem sampled_input (mv : Tab Int 12) (s : State) (i : Fin 12) :
    (sampled mv s).inputs.get i = (s.inputs.get i).sample (mv.get i) := storeSample_input s i mv

theorem sampleInputs_handed (hcompletes : (s.inputs.get i).Completes (mv.get i)) (hf : (s.inputs.get i).function = .lamp)
    (ha : ((s.inputs.get i).sample (mv.get i)).edged.active ≠ (s.inputs.get i).active) :
    InputFormed (sampleInputs mv s) (s.inputs.get i).target := by
  have hhanded := forEach_edge_handed (s := sampled mv s) ((mem_edgeOrder mv s i).2 hcompletes) (by rw [sampled_input]; exact hf)
    (by rw [sampled_input]; exact ha)
  rw [sampled_input] at hhanded
  exact inputFormed_of_eq hhanded

theorem sampled_tells (j : Fin 12) : ((sampled mv s).inputs.get j).Tells ((sampled mv s).inputs.get j).raw ↔
    (s.inputs.get j).Tells ((s.inputs.get j).reads (mv.get j)) := by
  rw [sampled_input]
  rfl

theorem sampled_quiet : NotPosted .discreteEdge s (sampled mv s) := .of_frame (sampled_frame mv s) (by decide)

end sample

/-! ### One edge of an input other than the ignition's -/

section plain
variable {i : Fin 12} {s : State}

theorem edged_active_ne {r : InputRecord} (h : r.active = true ↔ r.raw ≠ r.activeHigh) : r.edged.active ≠ r.active := by
  have hactive : r.edged.active = decide (r.raw = r.activeHigh) := rfl
  rw [hactive, ne_eq, Bool.eq_iff_iff, decide_eq_true_iff, h]
  exact fun hiff => iff_not_self hiff

variable (hf : (s.inputs.get i).function ≠ .ignition)
include hf

theorem edge_plain_frame : OnlyChanges [.inputs, .lamps, .chimes, .events] s (edge i s) := by
  rw [edge_plain i s hf]
  split
  · exact .after (lampUpdate_frame _ _) (by decide) ((edgeTold_frame s i).mono (by decide))
  · exact (edgeTold_frame s i).mono (by decide)

theorem edge_plain_tells : Tells [.discreteEdge, .chimeDropped] s (edge i s) := by
  rw [edge_plain i s hf]
  split
  · exact .after (lampUpdate_tells _ _) (by decide) ((edgeTold_tells s i).mono (by decide))
  · exact (edgeTold_tells s i).mono (by decide)

theorem edge_plain_lamp (n : Fin 48) :
    { ((edge i s).lamps.get n).stored with input := (s.lamps.get n).input } = (s.lamps.get n).stored ∧
      (n ≠ (s.inputs.get i).target → ((edge i s).lamps.get n).stored = (s.lamps.get n).stored) := by
  have hlamps : (edgeTold i s).lamps = s.lamps := (edgeTold_frame s i).lamps (by decide)
  rw [edge_plain i s hf]
  split
  · rw [formInputs, lampUpdate_stored, hlamps]
    split
    · next hn => exact ⟨rfl, fun hne => absurd (by simpa using hn) hne⟩
    · exact ⟨rfl, fun _ => rfl⟩
  · rw [hlamps]
    exact ⟨rfl, fun _ => rfl⟩

theorem lampsUpdated_edge : LampsUpdated s (edge i s) := by
  have hlamps : (edgeTold i s).lamps = s.lamps := (edgeTold_frame s i).lamps (by decide)
  rw [edge_plain i s hf]
  split
  · have hupdated := lampsUpdated_lampUpdate (storedOnly_inputs [(s.inputs.get i).target] (edgeTold i s)) (edgeTold i s)
    rw [LampsUpdated, hlamps] at hupdated
    exact hupdated
  · exact lampsUpdated_of_same hlamps

end plain

/-- Settles O46: a sample by its edges, and one edge given as a command. -/
theorem samplesDebounced : Obligations.SamplesDebounced := by
  refine ⟨fun mv s hout => ?_, fun i s hout => ⟨fun hsame => ?_, fun hne hf => ?_⟩⟩
  · refine ⟨sampleInputs mv s, congrArg Host.Outcome.next (whenOut_of_isOut hout), ?_, fun i => ⟨fun hno => ?_, fun hcompletes =>
      ⟨?_, fun hf ha => ?_, fun htells hothers => ?_⟩⟩, fun hnone => ?_, fun hnone => ?_⟩
    · have hedges := forEach_frame (fun i t => edge_frame t i) (edgeOrder mv s) (sampled mv s)
      exact (hedges .leads (by decide)).1
    · rw [sampleInputs_input, if_neg (mt (waited_iff ..).1 hno)]
      rfl
    · rw [sampleInputs_input, if_pos ((waited_iff ..).2 hcompletes)]
      rfl
    · rw [sampleInputs_input, if_pos ((waited_iff ..).2 hcompletes)] at ha
      exact sampleInputs_handed hcompletes hf ha
    · refine sampled_quiet.trans_posted (forEach_edge_posted (edgeOrder_nodup mv s) ((mem_edgeOrder mv s i).2 hcompletes)
        ((sampled_tells i).2 htells) fun j hj hji => mt (sampled_tells j).1 fun h => ?_)
      exact hothers j hji ⟨(mem_edgeOrder mv s j).1 hj, h⟩
    · refine sampled_quiet.trans (forEach_edge_notPosted fun j hj => mt (sampled_tells j).1 fun h => ?_)
      exact hnone j ⟨(mem_edgeOrder mv s j).1 hj, h⟩
    · have hempty : edgeOrder mv s = [] := List.eq_nil_iff_forall_not_mem.2 fun i hi => hnone i ((mem_edgeOrder mv s i).1 hi)
      rw [sampleInputs_edges, hempty]
      exact sampled_frame mv s
  · refine congrArg Host.Outcome.next ((whenOut_of_isOut hout).trans ?_)
    exact if_pos hsame
  · have hexec : exec (.debounceComplete i) s = .next (edge i s) :=
      congrArg Host.Outcome.next ((whenOut_of_isOut hout).trans (if_neg hne))
    refine ⟨_, hexec, ?_, fun j hj => ?_, edge_posted, edge_notPosted, fun hlamp ha => ?_, fun hlamp => ?_, fun n => ?_, ?_,
      fun k hk hk' => ?_, ?_⟩
    · rw [edge_inputs, Tab.get_set_same]
      rfl
    · rw [edge_inputs, Tab.get_set_other _ _ hj]
    · exact inputFormed_of_eq (inputHanded_edge_self hlamp (edged_active_ne ha))
    · rw [edge_plain i s hf, if_neg fun h => hlamp h.2]
      exact edgeTold_frame s i
    · exact edge_plain_lamp hf n
    · exact lampsUpdated_edge hf
    · exact edge_plain_tells hf |>.notPosted (by simp [hk, hk'])
    · exact edge_plain_frame hf

end Sys2Proof.Machine
end

section
/-! CERTIFICATE. The chimes of SAFETY lamps that come on, and the standing tone (R63, R64, R90). -/
namespace Sys2Proof.Machine

/-! ### The chimes that an update requests -/

/-- R63: a SAFETY lamp comes on between two states. -/
def ComesOn (s t : State) (n : Fin 48) : Prop :=
  (t.lamps.get n).cls = .safety ∧ (s.lamps.get n).resolved = .off ∧ (t.lamps.get n).resolved ≠ .off

/-- R63: the chime unit once each lamp of a list has requested its chime. -/
def requestAll (order : List (Fin 48)) (u : ChimeUnit) : ChimeUnit :=
  order.foldl (fun u n => (u.request .triple 3 (.lamp n)).1) u

/-- R63, R64, R90: what an update of the lamp table requests, and the standing tone after it. -/
def ChimesJudged (s t : State) : Prop :=
  (s.pwc.state ≠ .run ∨ (∀ n, ¬ComesOn s t n) → { t.cu with tone := s.cu.tone } = s.cu) ∧
  (s.pwc.state = .run → ∃ order : List (Fin 48), order.Nodup ∧ (∀ n, n ∈ order ↔ ComesOn s t n) ∧
    { t.cu with tone := s.cu.tone } = requestAll order s.cu) ∧
  t.cu.tone = (if toneDue t then some (s.cu.tone.getD 0) else none) ∧
  (toneDue t = true ↔ (t.lamps.get 0).resolved ≠ .off ∧ 500 ≤ (vehicleSpeed t).getD 0 ∧ t.pwc.state = .run)

theorem toneDue_iff (t : State) : toneDue t = true ↔
    (t.lamps.get 0).resolved ≠ .off ∧ 500 ≤ (vehicleSpeed t).getD 0 ∧ t.pwc.state = .run := by
  unfold toneDue
  cases vehicleSpeed t with
  | none => simp
  | some v =>
    simp only [Bool.and_eq_true, decide_eq_true_iff, and_assoc]
    rfl

/-- R63: what a lamp's request leaves of the chime unit, in RUN_CHECK and RUN. -/
theorem chimeRequest_cu {s : State} (h : inCycle s = true) (sound : Sound) (n : Nat) (r : Origin) :
    (chimeRequest sound n r s).1.cu = (s.cu.request sound n r).1 := by
  rw [chimeRequest, if_pos h]
  split
  · next u o lost hreq => rw [post_cu, State.setCu_cu, hreq]
  · next u o hreq => rw [State.setCu_cu, hreq]

theorem forEach_lampChime_cu {s : State} (h : inCycle s = true) (order : List (Fin 48)) :
    (forEach lampChime order s).cu = requestAll order s.cu := by
  induction order generalizing s with
  | nil => rfl
  | cons n order ih =>
    have hcu : (lampChime n s).cu = (s.cu.request .triple 3 (.lamp n)).1 := chimeRequest_cu h ..
    have hin : inCycle (lampChime n s) = true := by
      have hpwc : (lampChime n s).pwc = s.pwc := (chimeRequest_frame s .triple 3 (.lamp n)).pwc (by decide)
      rw [inCycle_iff, hpwc]
      exact inCycle_iff.1 h
    rw [forEach_cons, ih hin, hcu]
    rfl

theorem mem_lampsComeOn (before after : Tab Lamp 48) (n : Fin 48) : n ∈ lampsComeOn before after ↔
    (after.get n).cls = .safety ∧ (before.get n).resolved = .off ∧ (after.get n).resolved ≠ .off := by
  simp [lampsComeOn, and_assoc]

theorem requestAll_tone (order : List (Fin 48)) (u : ChimeUnit) : (requestAll order u).tone = u.tone := by
  induction order generalizing u with
  | nil => rfl
  | cons n order ih => exact (ih _).trans (ChimeUnit.request_same .triple 3 (.lamp n) u).2

/-- R52, R63: the state whose standing tone an update judges. -/
def lampChimed (change : Fin 48 → Lamp → Lamp) (s : State) : State :=
  let after := updatedLamps s.lmd.readings s.lamps change
  let chimes := if s.pwc.state = .run then lampsComeOn s.lamps after else []
  inSomeOrder chimes (forEach lampChime) (s.setLamps after)

theorem lampUpdate_eq (change : Fin 48 → Lamp → Lamp) (s : State) : lampUpdate change s = judgeTone (lampChimed change s) := rfl

/-- R63, R64: the chime unit whose standing tone an update judges. -/
theorem lampChimed_cu (change : Fin 48 → Lamp → Lamp) (s : State) : (lampChimed change s).cu =
    if s.pwc.state = .run then requestAll (arrange s.choices (lampsComeOn s.lamps (lampUpdate change s).lamps)) s.cu else s.cu := by
  rw [lampUpdate_lamps, lampChimed]
  split
  · next hrun =>
    rw [inSomeOrder, forEach_lampChime_cu (by rw [inCycle_iff]; exact .inr hrun)]
    rfl
  · rfl

theorem lampChimed_tone (change : Fin 48 → Lamp → Lamp) (s : State) : (lampChimed change s).cu.tone = s.cu.tone := by
  rw [lampChimed_cu]
  split
  · exact requestAll_tone ..
  · rfl

/-- R63, R64: the chime unit after an update, but for the standing tone. -/
theorem lampUpdate_chimes (change : Fin 48 → Lamp → Lamp) (s : State) : { (lampUpdate change s).cu with tone := s.cu.tone } =
    if s.pwc.state = .run then requestAll (arrange s.choices (lampsComeOn s.lamps (lampUpdate change s).lamps)) s.cu else s.cu := by
  rw [← lampChimed_cu, ← lampChimed_tone change s]
  rfl

/-- R90: the standing tone after an update. -/
theorem lampUpdate_tone (change : Fin 48 → Lamp → Lamp) (s : State) :
    (lampUpdate change s).cu.tone = if toneDue (lampUpdate change s) then some (s.cu.tone.getD 0) else none := by
  have hdue : toneDue (lampUpdate change s) = toneDue (lampChimed change s) := by
    rw [lampUpdate_eq]
    exact toneDue_congr (by simp) (by simp [vehicleSpeed]) (by simp)
  rw [hdue, ← lampChimed_tone change s]
  rfl

/-- R63, R64, R90: every update of the lamp table. -/
theorem chimesJudged_lampUpdate (change : Fin 48 → Lamp → Lamp) (s : State) : ChimesJudged s (lampUpdate change s) := by
  have hchimes := lampUpdate_chimes change s
  have hmem (n : Fin 48) := mem_lampsComeOn s.lamps (lampUpdate change s).lamps n
  refine ⟨fun hquiet => ?_, fun hrun => ?_, ?_, toneDue_iff _⟩
  · rw [hchimes]
    split
    · next hrun =>
      have hnone := hquiet.resolve_left (not_not_intro hrun)
      rw [List.eq_nil_iff_forall_not_mem.2 fun n hn => hnone n ((hmem n).1 hn)]
      rfl
    · rfl
  · refine ⟨_, ?_, fun n => ?_, hchimes.trans (if_pos hrun)⟩
    · exact (arrange_perm _ _).nodup_iff.2 ((List.nodup_finRange 48).filter _)
    · exact (arrange_perm _ _).mem_iff.trans (hmem n)
  · exact lampUpdate_tone change s

/-! ### Two commands that update the table -/

/-- What the judgement reads of the two states. -/
theorem ChimesJudged.of_same {s s' t t' : State} (h : ChimesJudged s t) (hlamps : s'.lamps = s.lamps) (hcu : s'.cu = s.cu)
    (hpwc : s'.pwc = s.pwc) (hlamps' : t'.lamps = t.lamps) (hcu' : t'.cu = t.cu) (hpwc' : t'.pwc = t.pwc)
    (hge : t'.ge = t.ge) : ChimesJudged s' t' := by
  have hdue : toneDue t' = toneDue t := toneDue_congr (by rw [hlamps']) (by rw [vehicleSpeed, hge]; rfl) (by rw [hpwc'])
  have hon (n : Fin 48) : ComesOn s' t' n ↔ ComesOn s t n := by rw [ComesOn, hlamps, hlamps']; rfl
  obtain ⟨hquiet, hrun, htone, -⟩ := h
  refine ⟨?_, ?_, ?_, toneDue_iff _⟩
  · simp only [hpwc, hcu, hcu', hon]
    exact hquiet
  · simp only [hpwc, hcu, hcu', hon]
    exact hrun
  · rw [hdue, hcu', hcu]
    exact htone

/-- R75: a reading that sets or clears an open fault is an update of the table. -/
theorem readLamp_changed {draws : Tab Bool 8} {n : Fin 48} {s : State}
    (h : ((s.lmd.readings.get n).read (draws.get (lampColumn n))).openFault ≠ (s.lmd.readings.get n).openFault) :
    ∃ u, readLamp draws n s = lampUpdate (fun _ l => l) u ∧ OnlyChanges [.matrix, .events] s u :=
  ⟨_, if_neg (Ne.symm h), .after (post_frame _ _ _) (by decide) ((setLmd_frame s _).mono (by decide))⟩

/-- R75: the end of a row slot that reads one lamp, with a change of its open fault. -/
theorem rowSlotEnd_one {draws : Tab Bool 8} {n : Fin 48} {s : State} (hslot : s.lmd.slot < 6) (hread : readLamps s.lmd = [n])
    (hchanged : faultsChanged draws s.lmd = [n]) : ∃ u, OnlyChanges [.matrix, .events] s u ∧
      OnlyChanges [.matrix, .leads] (lampUpdate (fun _ l => l) u) (rowSlotEnd draws s) := by
  have hn : ((s.lmd.readings.get n).read (draws.get (lampColumn n))).openFault ≠ (s.lmd.readings.get n).openFault := by
    have hmem : n ∈ faultsChanged draws s.lmd := hchanged ▸ List.mem_singleton_self n
    exact of_decide_eq_true (List.mem_filter.1 hmem).2
  have hkept : faultsKept draws s.lmd = [] := by simp [faultsKept, hread, hn]
  obtain ⟨u, hu, hframe⟩ := readLamp_changed (s := s.setChoices (s.choices + 0)) hn
  refine ⟨u, hframe, ?_⟩
  have htold : inSomeOrder [n] (forEach (readLamp draws)) s = lampUpdate (fun _ l => l) u := hu
  rw [rowSlotEnd, if_pos hslot, hkept, hchanged, forEach_nil]
  dsimp only
  rw [htold]
  exact .after (sensed_frame _ _ _) (by decide) ((setLmd_frame _ _).mono (by decide))

/-- Settles O21: an update by `chimesJudged_lampUpdate`, and the two commands by the update they make. -/
theorem safetyLampComingOnChimes : Obligations.SafetyLampComingOnChimes := by
  refine ⟨chimesJudged_lampUpdate, fun count pairs s hout hcount hpairs => ?_, fun draws n s hout hslot hread hchanged => ?_⟩
  · have hgood : ¬PairsBad count pairs := by
      rintro (h | ⟨q, hq, h⟩)
      · omega
      · have := hpairs q (List.mem_of_mem_take hq)
        omega
    have hall : ((pairs.val.take count.toNat).map pairRead).all (fun q => mayWrite .s (beginFrame .s s) q.1) = true :=
      List.all_eq_true.2 fun _ _ => rfl
    have hanswer := answers_of_takenFrame (exec_writeLamps .s count pairs s) hout ((writeLampsReply_good hgood).trans (if_pos hall))
    exact ⟨_, hanswer, (chimesJudged_lampUpdate _ _).of_same rfl rfl rfl (respond_lamps ..) (respond_cu ..) (respond_pwc ..)
      (respond_ge ..)⟩
  · have hexec : exec (.rowSlotEnd draws) s = .next (rowSlotEnd draws s) := congrArg Host.Outcome.next (whenOut_of_isOut hout)
    obtain ⟨u, hbefore, hafter⟩ := rowSlotEnd_one (by omega) hread hchanged
    exact ⟨_, hexec, (chimesJudged_lampUpdate _ u).of_same (hbefore.lamps (by decide)).symm (hbefore.cu (by decide)).symm
      (hbefore.pwc (by decide)).symm (hafter.lamps (by decide)) (hafter.cu (by decide)) (hafter.pwc (by decide))
      (hafter.ge (by decide))⟩

end Sys2Proof.Machine
end

section
/-! SUPPORT. The lamp test hold at a frame boundary, and the duty of a lamp (R70, R71, R77 to R80). -/
namespace Sys2Proof.Machine

/-! ### The hold at a frame boundary -/

/-- R79: the hold once a pending request has been granted. -/
def Hold.granted (h : Hold) : Hold := if h.request then h.grantPortS else h

/-- R80: a hold that is active and that no one keeps. -/
def Hold.unheld (h : Hold) : Bool := h.active && !h.internal && !h.portS

theorem Hold.unheld_iff (h : Hold) : h.unheld = true ↔ h.active = true ∧ h.internal = false ∧ h.portS = false := by
  simp [unheld, and_assoc]

/-- R80: the hold once one that no one keeps has ended. -/
def Hold.ended (h : Hold) : Hold := if h.unheld then { h with active := false } else h

section boundary
variable (s : State)

theorem grantPending_lmd : (grantPending s).lmd = { s.lmd with hold := s.lmd.hold.granted } := by
  unfold grantPending Hold.granted
  split
  · exact post_lmd ..
  · rfl

theorem endUnheld_eq : endUnheld s =
    if s.lmd.hold.unheld then post .holdEnded 0 (modifyHold (fun h => { h with active := false }) s) else s := rfl

theorem endUnheld_lmd : (endUnheld s).lmd = { s.lmd with hold := s.lmd.hold.ended } := by
  rw [endUnheld_eq]
  unfold Hold.ended
  split
  · exact post_lmd ..
  · rfl

theorem grantPending_granted : if s.lmd.hold.request then Posted .holdGranted 1 s (grantPending s)
    else NotPosted .holdGranted s (grantPending s) := by
  unfold grantPending
  split
  · exact posted_post .holdGranted 1 (modifyHold Hold.grantPortS s)
  · exact fun _ => rfl

theorem endUnheld_ended : if s.lmd.hold.unheld then Posted .holdEnded 0 s (endUnheld s)
    else NotPosted .holdEnded s (endUnheld s) := by
  rw [endUnheld_eq]
  split
  · exact posted_post .holdEnded 0 (modifyHold _ s)
  · exact fun _ => rfl

end boundary

/-- R79, R80: the hold that a frame boundary leaves. -/
theorem Hold.ended_granted (h : Hold) :
    let k := h.granted.ended
    let ends := h.active = true ∧ h.internal = false ∧ h.portS = false ∧ h.request = false
    k.internal = h.internal ∧ k.portS = (h.portS || h.request) ∧ k.request = false ∧
      k.portSTimer = (if h.request then some 5000 else h.portSTimer) ∧ k.internalTimer = h.internalTimer ∧
      (k.active = true ↔ (h.active = true ∨ h.request = true) ∧ ¬ends) ∧ (h.granted.unheld = true ↔ ends) := by
  cases hr : h.request
  · have hgranted : h.granted = h := if_neg (by simp [hr])
    have hu := h.unheld_iff
    rw [hgranted]
    by_cases hends : h.unheld = true
    · have hended : h.ended = { h with active := false } := if_pos hends
      obtain ⟨hactive, hinternal, hport⟩ := hu.1 hends
      rw [hended]
      simp [hr, hactive, hinternal, hport, hends]
    · have hended : h.ended = h := if_neg hends
      have hkept : h.active = true → h.internal = false → h.portS = true := fun hactive hinternal =>
        of_not_not fun hport => hends (hu.2 ⟨hactive, hinternal, Bool.eq_false_iff.2 hport⟩)
      rw [hended]
      simpa [hr, hu] using hkept
  · have hgranted : h.granted = h.grantPortS := if_pos hr
    have hheld : h.grantPortS.unheld = false := by simp [Hold.unheld, Hold.grantPortS]
    have hended : h.grantPortS.ended = h.grantPortS := if_neg (by simp [hheld])
    rw [hgranted, hended, hheld]
    simp [Hold.grantPortS, Config.portSHoldPeriod]

/-- What is told, or not, after a step that does not tell it. -/
theorem postedIf_trans {c c' : Prop} [Decidable c] [Decidable c'] {k : EventKind} {n : Nat} {s t u : State} (hc : c' ↔ c)
    (hquiet : NotPosted k s t) (h : if c then Posted k n t u else NotPosted k t u) :
    if c' then Posted k n s u else NotPosted k s u := by
  by_cases hyes : c
  · rw [if_pos hyes] at h
    rw [if_pos (hc.2 hyes)]
    exact hquiet.trans_posted h
  · rw [if_neg hyes] at h
    rw [if_neg (mt hc.1 hyes)]
    exact hquiet.trans h

/-! ### The plan of a frame -/

theorem litByState_iff (m : LampMatrix) (a : LampState) : litByState m a = true ↔
    a = .on ∨ (a = .slow ∧ m.slowTime < 500) ∨ (a = .fast ∧ m.fastTime < 125) := by
  cases a <;> simp [litByState, slowLit, fastLit]

/-- R71: the duty of a lit lamp. -/
theorem dutyOf_eq (m : LampMatrix) (low : Bool) (cls : LampClass) : dutyOf m low cls =
    if low then m.floor else if m.hold.active then 16
      else if cls = .safety ∧ m.dimming + 1 < m.floor then m.floor else m.dimming + 1 := by
  unfold dutyOf
  cases cls with
  | info => simp
  | safety =>
    simp only [true_and]
    split_ifs <;> omega

/-- R73: a SAFETY lamp is never driven below the floor. -/
theorem floor_le_dutyOf {m : LampMatrix} (h : m.floor ≤ 16) (low : Bool) : m.floor ≤ dutyOf m low .safety := by
  unfold dutyOf
  split_ifs
  · exact le_refl _
  · exact h
  · exact le_max_right _ _

end Sys2Proof.Machine
end

section
/-! CERTIFICATE. The start of a scan frame (R66 to R73, R77 to R80). -/
namespace Sys2Proof.Machine

theorem exec_scanFrameStart (s : State) : exec .scanFrameStart s =
    .next (timed .scanFrameStart true (6 ≤ s.lmd.slot) (whenOut scanFrameStart) s) := rfl

section frame
variable (s : State)

/-- R66, R69: the matrix at the boundary, before the hold is settled. -/
def atBoundary : State := s.setLmd { s.lmd.flash (6 - s.lmd.slot) with slot := 0 }

/-- R73, R79, R80: the state whose plan a frame takes. -/
def planned : State :=
  let t := endUnheld (grantPending (atBoundary s))
  t.setLmd { t.lmd with floor := t.lmd.floorRequested }

theorem scanFrameStart_eq : scanFrameStart s = (planned s).setLmd
    { (planned s).lmd with plan := framePlan (planned s), scanning := inCycle (planned s) } := rfl

theorem planned_lmd : (planned s).lmd =
    { s.lmd.flash (6 - s.lmd.slot) with slot := 0, hold := s.lmd.hold.granted.ended, floor := s.lmd.floorRequested } := by
  rw [planned, State.setLmd_lmd, endUnheld_lmd, grantPending_lmd]
  rfl

theorem planned_frame : OnlyChanges [.matrix, .events] s (planned s) :=
  .after (setLmd_frame _ _) (by decide) <| .after (endUnheld_frame _) (by decide) <|
    .after (grantPending_frame _) (by decide) <| (setLmd_frame s _).mono (by decide)

/-- R79, R80: what a frame boundary tells. -/
theorem scanFrameStart_posts :
    (if s.lmd.hold.request then Posted .holdGranted 1 s (scanFrameStart s) else NotPosted .holdGranted s (scanFrameStart s)) ∧
      (if s.lmd.hold.granted.unheld then Posted .holdEnded 0 s (scanFrameStart s)
        else NotPosted .holdEnded s (scanFrameStart s)) := by
  have hgranted := grantPending_granted (atBoundary s)
  have hended := endUnheld_ended (grantPending (atBoundary s))
  have hquiet : NotPosted .holdGranted (grantPending (atBoundary s)) (endUnheld (grantPending (atBoundary s))) :=
    (endUnheld_tells _).notPosted (by decide)
  have hquiet' : NotPosted .holdEnded (atBoundary s) (grantPending (atBoundary s)) := (grantPending_tells _).notPosted (by decide)
  rw [grantPending_lmd] at hended
  constructor
  · split at hgranted
    · next h => exact (if_pos h).symm ▸ hgranted.trans_notPosted hquiet
    · next h => exact (if_neg h).symm ▸ hgranted.trans hquiet
  · exact postedIf_trans Iff.rfl hquiet' hended

end frame

/-- R66 to R71, R77: the matrix that a frame starts with. -/
theorem scanFrameStart_lmd (s : State) : (scanFrameStart s).lmd =
    { s.lmd.flash (6 - s.lmd.slot) with
      slot := 0, hold := s.lmd.hold.granted.ended, floor := s.lmd.floorRequested, plan := framePlan (planned s)
      scanning := inCycle s } := by
  have hin : inCycle (planned s) = inCycle s := by rw [inCycle, inCycle, (planned_frame s).pwc (by decide)]
  rw [scanFrameStart_eq, State.setLmd_lmd, planned_lmd, hin]

/-- R68, R70, R71: the place of a lamp in the plan that a frame starts with. -/
theorem planned_plan (s : State) (n : Fin 48) : (framePlan (planned s)).get n =
    let m := (scanFrameStart s).lmd
    if inCycle s && (m.hold.active || litByState m (s.lamps.get n).resolved) then
      some (dutyOf m s.pwc.supplyLow (s.lamps.get n).cls)
    else none := by
  have hpwc : (planned s).pwc = s.pwc := (planned_frame s).pwc (by decide)
  have hlamps : (planned s).lamps = s.lamps := (planned_frame s).lamps (by decide)
  have hin : inCycle (planned s) = inCycle s := by rw [inCycle, inCycle, hpwc]
  dsimp only
  rw [framePlan_get, hpwc, hlamps, hin, scanFrameStart_lmd, planned_lmd]
  cases (s.lamps.get n).resolved <;> rfl

/-- Settles O25: the hold by `Hold.ended_granted`, the plan lamp by lamp. -/
theorem scanFrameFixesPlan : Obligations.ScanFrameFixesPlan := by
  intro s hout
  have htrue : (true : Bool) = true ↔ True := by simp
  refine ⟨lapses_of_timed (exec_scanFrameStart s) htrue decide_eq_true_iff, fun hcomes => ?_⟩
  have hexec := acts_of_timed (exec_scanFrameStart s) htrue decide_eq_true_iff hcomes
  rw [whenOut_of_isOut (by simpa using hout)] at hexec
  have hlmd := scanFrameStart_lmd (ranBy .scanFrameStart s)
  have hplan := planned_plan (ranBy .scanFrameStart s)
  obtain ⟨hinternal, hport, hrequest, htimer, htimer', hactive, hends⟩ := s.lmd.hold.ended_granted
  obtain ⟨hgranted, hended⟩ := scanFrameStart_posts (ranBy .scanFrameStart s)
  have hframe := scanFrameStart_frame (ranBy .scanFrameStart s)
  refine ⟨_, hexec, ?_⟩
  have htells := scanFrameStart_tells (ranBy .scanFrameStart s)
  generalize scanFrameStart (ranBy .scanFrameStart s) = t at *
  intro h k ends scans
  have hold : t.lmd.hold = s.lmd.hold.granted.ended := congrArg LampMatrix.hold hlmd
  have hscans : inCycle (ranBy .scanFrameStart s) = true ↔ scans := inCycle_iff
  rw [show k = s.lmd.hold.granted.ended from hold]
  have hquiet {e : EventKind} : NotPosted e s (ranBy .scanFrameStart s) := .of_frame (ranBy_frame .scanFrameStart s) (by decide)
  have hslow : t.lmd.slowTime = (s.lmd.slowTime + (6 - s.lmd.slot)) % 1000 := congrArg LampMatrix.slowTime hlmd
  have hfast : t.lmd.fastTime = (s.lmd.fastTime + (6 - s.lmd.slot)) % 250 := congrArg LampMatrix.fastTime hlmd
  have hdimming : t.lmd.dimming = s.lmd.dimming := by rw [hlmd]; rfl
  refine ⟨hinternal, hport, hrequest, htimer, htimer', hactive, ?_, ?_, fun e he he' => ?_, congrArg LampMatrix.floor hlmd,
    by rw [hlmd]; rfl, hdimming, by rw [hlmd]; rfl,
    congrArg LampMatrix.slot hlmd, fun h6 h1000 h250 => ?_, hslow, hfast, ?_, fun n => ?_, ?_⟩
  · exact postedIf_trans Iff.rfl hquiet hgranted
  · exact postedIf_trans hends.symm hquiet hended
  · exact hquiet.trans (htells.notPosted (by simp [he, he']))
  · rw [hslow, hfast, h6]
    omega
  · rw [congrArg LampMatrix.scanning hlmd]
    exact hscans
  · have hplanN : t.lmd.plan.get n =
        if inCycle (ranBy .scanFrameStart s) && (t.lmd.hold.active || litByState t.lmd (s.lamps.get n).resolved) then
          some (dutyOf t.lmd s.pwc.supplyLow (s.lamps.get n).cls)
        else none := (congrArg (fun m : LampMatrix => m.plan.get n) hlmd).trans (hplan n)
    have hlit : (inCycle (ranBy .scanFrameStart s) && (t.lmd.hold.active || litByState t.lmd (s.lamps.get n).resolved)) = true ↔
        scans ∧ (s.lmd.hold.granted.ended.active = true ∨ (s.lamps.get n).resolved = .on ∨
          ((s.lamps.get n).resolved = .slow ∧ t.lmd.slowTime < 500) ∨
          ((s.lamps.get n).resolved = .fast ∧ t.lmd.fastTime < 125)) := by
      rw [Bool.and_eq_true, Bool.or_eq_true, hscans, litByState_iff, hold]
    refine ⟨fun hs hl => ?_, fun hdark => ?_, fun hfloor hsafety v hv => ?_⟩
    · rw [hplanN, if_pos (hlit.2 ⟨hs, hl⟩), dutyOf_eq, hold, hdimming]
    · refine hplanN.trans (if_neg (mt hlit.1 ?_))
      rintro ⟨hs, hl⟩
      rcases hdark with hd | ⟨hk, hasked⟩
      · exact hd hs
      · exact hl.elim (fun e => absurd (hk.symm.trans e) (by decide)) hasked
    · rw [hplanN] at hv
      split at hv
      · cases hv
        exact hsafety ▸ floor_le_dutyOf hfloor _
      · cases hv
  · exact .after hframe (by decide) ((ranBy_frame .scanFrameStart s).mono (by decide))

end Sys2Proof.Machine
end

section
/-! CERTIFICATE. LAMP_TEST and the ends of its hold timers (R78 to R80). -/
namespace Sys2Proof.Machine

theorem exec_lampTestRequest (p : Port) (action : Byte) (s : State) : exec (.lampTestRequest p action) s =
    .next (takenFrame p 0x25 (lampTestReply p action.toNat requestHold) s) := rfl

theorem exec_lampTestRelease (p : Port) (s : State) : exec (.lampTestRelease p) s =
    .next (takenFrame p 0x25 (lampTestReply p 0 releaseHold) s) := rfl

theorem exec_internalTimerExpiry (s : State) : exec .internalTimerExpiry s =
    .next (timed .internalTimerExpiry s.lmd.hold.internalTimer.isSome (ranOut s.lmd.hold.internalTimer)
      (whenOut (modifyHold Hold.dropInternal)) s) := rfl

theorem exec_portSTimerExpiry (s : State) : exec .portSTimerExpiry s =
    .next (timed .portSTimerExpiry s.lmd.hold.portSTimer.isSome (ranOut s.lmd.hold.portSTimer)
      (whenOut (modifyHold Hold.dropPortS)) s) := rfl

section reply
variable {n : Nat} {act : State → State} {s : State}

theorem lampTestReply_range (h : 1 < n) : lampTestReply .s n act s = refuse .range s := by
  rw [lampTestReply, ifPortS_portS, if_pos h]

theorem lampTestReply_off (hn : n ≤ 1) (h : inCycle s = false) : lampTestReply .s n act s = refuse .notNow s := by
  rw [lampTestReply, ifPortS_portS, if_neg (Nat.not_lt.2 hn), if_pos (by simp [h])]

theorem lampTestReply_inCycle (hn : n ≤ 1) (h : inCycle s = true) :
    lampTestReply .s n act s = accept [holdByte (act s).lmd.hold] (act s) := by
  rw [lampTestReply, ifPortS_portS, if_neg (Nat.not_lt.2 hn), if_neg (by simp [h])]

end reply

/-! ### A request (R79) and a release (R80) -/

section hold
variable {s : State}

theorem requestHold_known (h : s.lmd.hold.portS = true ∨ s.lmd.hold.request = true) : requestHold s = s :=
  if_pos (by simpa using h)

theorem requestHold_waits (hport : s.lmd.hold.portS = false) (hrequest : s.lmd.hold.request = false)
    (hinternal : s.lmd.hold.internal = false) : requestHold s = modifyHold (fun h => { h with request := true }) s := by
  simp [requestHold, hport, hrequest, hinternal]

theorem requestHold_joins (hport : s.lmd.hold.portS = false) (hrequest : s.lmd.hold.request = false)
    (hinternal : s.lmd.hold.internal = true) : requestHold s = grantPortS s := by
  simp [requestHold, hport, hrequest, hinternal]

theorem releaseHold_cancels (h : s.lmd.hold.request = true) :
    releaseHold s = modifyHold (fun h => { h with request := false }) s := if_pos h

theorem releaseHold_gives (hrequest : s.lmd.hold.request = false) (hport : s.lmd.hold.portS = true) :
    releaseHold s = modifyHold Hold.dropPortS s := by
  simp [releaseHold, hport, hrequest]

theorem releaseHold_idle (hrequest : s.lmd.hold.request = false) (hport : s.lmd.hold.portS = false) : releaseHold s = s := by
  simp [releaseHold, hport, hrequest]

end hold

/-- Settles O24: the checks, what a request and a release make of the hold, and the two timers by `timed`. -/
theorem lampTestRequestsAndReleases : Obligations.LampTestRequestsAndReleases := by
  intro action s hout b h answer
  have hlmd : b.lmd = s.lmd := beginFrame_lmd .s s
  have hcycle : inCycle b = true ↔ s.pwc.state = .runCheck ∨ s.pwc.state = .run := by rw [inCycle_iff, beginFrame_pwc]
  have hoff (hstate : s.pwc.state = .standby ∨ s.pwc.state = .parking) : inCycle b = false :=
    not_inCycle_iff.2 (by rwa [beginFrame_pwc])
  have hrequest (h1 : action = 1) (hin : inCycle b = true) : Answers (.lampTestRequest .s action) .s 0x25 .ok
      [holdByte (requestHold b).lmd.hold] s (requestHold b) :=
    answers_of_takenFrame (exec_lampTestRequest .s action s) hout (lampTestReply_inCycle (by rw [h1]; decide) hin)
  have hrelease (hin : inCycle b = true) : Answers (.lampTestRelease .s) .s 0x25 .ok
      [holdByte (releaseHold b).lmd.hold] s (releaseHold b) :=
    answers_of_takenFrame (exec_lampTestRelease .s s) hout (lampTestReply_inCycle (by decide) hin)
  refine ⟨refuses_of_takenFrame (exec_lampTestRequest ..) hout rfl, refuses_of_takenFrame (exec_lampTestRelease ..) hout rfl,
    fun hrange => refuses_of_takenFrame (exec_lampTestRequest ..) hout (lampTestReply_range hrange), fun hstate => ⟨fun hle => ?_, ?_⟩,
    fun hstate => ?_, fun hcomes => ?_, ?_, fun hcomes => ?_, ?_⟩
  · exact refuses_of_takenFrame (exec_lampTestRequest ..) hout (lampTestReply_off hle (hoff hstate))
  · exact refuses_of_takenFrame (exec_lampTestRelease ..) hout (lampTestReply_off (by decide) (hoff hstate))
  · have hin := hcycle.2 hstate
    refine ⟨fun h1 hknown => ?_, fun h1 hport hreq hint => ?_, fun h1 hport hreq hint => ?_, fun hreq => ?_, fun hreq hport => ?_,
      fun hreq hport => ?_⟩
    · have hanswer := hrequest h1 hin
      rwa [requestHold_known (by rwa [hlmd]), hlmd] at hanswer
    · have hanswer := hrequest h1 hin
      rwa [requestHold_waits (by rwa [hlmd]) (by rwa [hlmd]) (by rwa [hlmd]), modifyHold, hlmd] at hanswer
    · have hanswer := hrequest h1 hin
      rw [requestHold_joins (by rwa [hlmd]) (by rwa [hlmd]) (by rwa [hlmd])] at hanswer
      have hgranted : (grantPortS b).lmd = { s.lmd with hold := s.lmd.hold.grantPortS } := by
        rw [grantPortS, post_lmd, modifyHold, State.setLmd_lmd, hlmd]
      refine ⟨grantPortS b, ?_, hgranted, posted_post .holdGranted 1 (modifyHold Hold.grantPortS b),
        fun k hk => notPosted_post hk 1 (modifyHold Hold.grantPortS b),
        .after (post_frame _ _ _) (by decide) ((setLmd_frame b _).mono (by decide))⟩
      have hbyte : holdByte s.lmd.hold.grantPortS = flagByte [true, true, false, true] := by
        rw [holdByte, Hold.grantPortS, hint]
      rwa [hgranted, hbyte] at hanswer
    · have hanswer := hrelease hin
      rwa [releaseHold_cancels (by rwa [hlmd]), modifyHold, hlmd] at hanswer
    · have hanswer := hrelease hin
      rwa [releaseHold_gives (by rwa [hlmd]) (by rwa [hlmd]), modifyHold, hlmd] at hanswer
    · have hanswer := hrelease hin
      rwa [releaseHold_idle (by rwa [hlmd]) (by rwa [hlmd]), hlmd] at hanswer
  · rw [acts_of_timed (exec_internalTimerExpiry s) Option.isSome_iff_ne_none ranOut_iff hcomes, whenOut_of_isOut (by simpa using hout)]
    rfl
  · exact lapses_of_timed (exec_internalTimerExpiry s) Option.isSome_iff_ne_none ranOut_iff
  · rw [acts_of_timed (exec_portSTimerExpiry s) Option.isSome_iff_ne_none ranOut_iff hcomes, whenOut_of_isOut (by simpa using hout)]
    rfl
  · exact lapses_of_timed (exec_portSTimerExpiry s) Option.isSome_iff_ne_none ranOut_iff

end Sys2Proof.Machine
end

section
/-! SUPPORT. The readings at the end of a row slot (R74, R75), lamp by lamp and over the row. -/
namespace Sys2Proof.Machine

/-! ### One reading -/

section reading
variable (draws : Tab Bool 8) (n : Fin 48) (s : State)

/-- R75: the record that a lamp's reading leaves. -/
def readingAfter : OpenRecord := (s.lmd.readings.get n).read (draws.get (lampColumn n))

/-- R75: a reading sets or clears the open fault of its lamp. -/
def FaultChanges : Prop := (readingAfter draws n s).openFault ≠ (s.lmd.readings.get n).openFault

/-- A reading stored. -/
def readStored : State := s.setLmd { s.lmd with readings := s.lmd.readings.set n (readingAfter draws n s) }

/-- The event of an open fault set or cleared. -/
def faultKind : EventKind := if (readingAfter draws n s).openFault then .lampOpen else .lampRestored

variable {draws n s}

theorem readLamp_kept (h : ¬FaultChanges draws n s) : readLamp draws n s = readStored draws n s :=
  if_pos (of_not_not h).symm

theorem readLamp_changes (h : FaultChanges draws n s) :
    readLamp draws n s = lampUpdate (fun _ l => l) (post (faultKind draws n s) n.val (readStored draws n s)) := by
  have hkind : (if ((readStored draws n s).lmd.readings.get n).openFault then EventKind.lampOpen else .lampRestored) =
      faultKind draws n s := by
    rw [readStored, State.setLmd_lmd, Tab.get_set_same]
    rfl
  rw [← hkind]
  exact if_neg (Ne.symm h)

variable (draws n s)

theorem readStored_frame : OnlyChanges [.matrix] s (readStored draws n s) := setLmd_frame s _

theorem readLamp_lmd : (readLamp draws n s).lmd = { s.lmd with readings := s.lmd.readings.set n (readingAfter draws n s) } := by
  by_cases h : FaultChanges draws n s
  · rw [readLamp_changes h, (lampUpdate_frame _ _).lmd (by decide), post_lmd]
    rfl
  · rw [readLamp_kept h]
    rfl

variable {n} in
theorem readLamp_reading_other {m : Fin 48} (h : m ≠ n) :
    (readLamp draws n s).lmd.readings.get m = s.lmd.readings.get m := by
  rw [readLamp_lmd, Tab.get_set_other _ _ h]

/-- R62: a reading leaves every stored contribution. -/
theorem readLamp_stored (m : Fin 48) : ((readLamp draws n s).lamps.get m).stored = (s.lamps.get m).stored := by
  by_cases h : FaultChanges draws n s
  · rw [readLamp_changes h, lampUpdate_stored, post_lamps]
    rfl
  · rw [readLamp_kept h]
    rfl

variable {draws n s}

/-- R60, R61: an open fault set or cleared leaves the substitutions formed again. -/
theorem readLamp_substituted (h : FaultChanges draws n s) (hzero : (s.lamps.get 0).cls = .safety)
    (hone : (s.lamps.get 1).cls = .info) : Substituted (readLamp draws n s) := by
  rw [readLamp_changes h]
  exact substituted_lampUpdate (by rw [post_lamps]; exact hzero) (by rw [post_lamps]; exact hone)

variable (draws n s) in
/-- R75: a lamp's reading sets or clears its open fault, with an event of a kind. -/
def tellsFault (k : EventKind) : Bool :=
  (readingAfter draws n s).openFault ≠ (s.lmd.readings.get n).openFault && faultKind draws n s = k

theorem tellsFault_iff (k : EventKind) : tellsFault draws n s k = true ↔ FaultChanges draws n s ∧ faultKind draws n s = k := by
  simp [tellsFault, FaultChanges]

variable (draws n s) in
/-- R75: one event for each open fault set or cleared. -/
theorem readLamp_events {k : EventKind} (hk : k ≠ .chimeDropped) (q : Port) :
    ((readLamp draws n s).port q).events.get k.number = if tellsFault draws n s k then
      ((s.port q).events.get k.number).posted n.val else (s.port q).events.get k.number := by
  have hstored : NotPosted k s (readStored draws n s) := .of_frame (readStored_frame draws n s) (by decide)
  by_cases h : FaultChanges draws n s
  · have hupdate (t : State) : NotPosted k t (lampUpdate (fun _ l => l) t) := (lampUpdate_tells _ _).notPosted (by simpa using hk)
    rw [readLamp_changes h, hupdate _ q]
    by_cases hkind : faultKind draws n s = k
    · rw [if_pos ((tellsFault_iff k).2 ⟨h, hkind⟩), hkind, posted_post k _ _ q, hstored q]
    · rw [if_neg fun ht => hkind ((tellsFault_iff k).1 ht).2, notPosted_post (Ne.symm hkind) _ _ q, hstored q]
  · rw [readLamp_kept h, if_neg fun ht => h ((tellsFault_iff k).1 ht).1, hstored q]

end reading

/-! ### Several readings -/

section row
variable {draws : Tab Bool 8} {l : List (Fin 48)} {s : State}

/-- What a reading of one lamp makes of the others' readings, still to come. -/
theorem readingAfter_other {m n : Fin 48} (h : m ≠ n) : readingAfter draws m (readLamp draws n s) = readingAfter draws m s := by
  rw [readingAfter, readLamp_reading_other _ _ h]
  rfl

theorem tellsFault_other {m n : Fin 48} (h : m ≠ n) (k : EventKind) :
    tellsFault draws m (readLamp draws n s) k = tellsFault draws m s k := by
  rw [tellsFault, faultKind, readingAfter_other h, readLamp_reading_other _ _ h]
  rfl

theorem faultChanges_other {m n : Fin 48} (h : m ≠ n) : FaultChanges draws m (readLamp draws n s) ↔ FaultChanges draws m s := by
  rw [FaultChanges, readingAfter_other h, readLamp_reading_other _ _ h]
  rfl

theorem forEach_readLamp_lmd : (forEach (readLamp draws) l s).lmd =
    { s.lmd with readings := (forEach (readLamp draws) l s).lmd.readings } := by
  induction l generalizing s with
  | nil => rfl
  | cons n l ih => rw [forEach_cons, ih, readLamp_lmd]

theorem forEach_readLamp_stored (m : Fin 48) : ((forEach (readLamp draws) l s).lamps.get m).stored = (s.lamps.get m).stored := by
  induction l generalizing s with
  | nil => rfl
  | cons n l ih => rw [forEach_cons, ih, readLamp_stored]

section nodup
variable (hl : l.Nodup)
include hl

theorem forEach_readLamp_reading (m : Fin 48) : (forEach (readLamp draws) l s).lmd.readings.get m =
    if m ∈ l then readingAfter draws m s else s.lmd.readings.get m := by
  induction l generalizing s with
  | nil => rfl
  | cons n l ih =>
    obtain ⟨hn, hl⟩ := List.nodup_cons.1 hl
    rw [forEach_cons, ih hl]
    by_cases hm : m = n
    · subst hm
      rw [if_neg hn, if_pos List.mem_cons_self, readLamp_lmd, Tab.get_set_same]
    · rw [readingAfter_other hm, readLamp_reading_other _ _ hm]
      simp [hm]

theorem forEach_readLamp_events {k : EventKind} (hk : k ≠ .chimeDropped) (q : Port) :
    ((forEach (readLamp draws) l s).port q).events.get k.number = (l.filter fun n => tellsFault draws n s k).foldl
      (fun r n => r.posted n.val) ((s.port q).events.get k.number) := by
  induction l generalizing s with
  | nil => rfl
  | cons n l ih =>
    obtain ⟨hn, hl⟩ := List.nodup_cons.1 hl
    have hsame : (l.filter fun m => tellsFault draws m (readLamp draws n s) k) = l.filter fun m => tellsFault draws m s k :=
      List.filter_congr fun m hm => tellsFault_other (fun e : m = n => hn (e ▸ hm)) k
    rw [forEach_cons, ih hl, hsame, readLamp_events _ _ _ hk, List.filter_cons]
    split <;> rfl

/-- R60, R61: after readings that each set or clear an open fault the substitutions are formed. -/
theorem forEach_readLamp_substituted (hne : l ≠ []) (hchanges : ∀ n ∈ l, FaultChanges draws n s)
    (hzero : (s.lamps.get 0).cls = .safety) (hone : (s.lamps.get 1).cls = .info) :
    Substituted (forEach (readLamp draws) l s) := by
  induction l generalizing s with
  | nil => exact absurd rfl hne
  | cons n l ih =>
    obtain ⟨hn, hl⟩ := List.nodup_cons.1 hl
    have hcls (m : Fin 48) : ((readLamp draws n s).lamps.get m).cls = (s.lamps.get m).cls :=
      Lamp.eq_of_stored (·.cls) (fun _ => rfl) (readLamp_stored draws n s m)
    rw [forEach_cons]
    by_cases hempty : l = []
    · rw [hempty]
      exact readLamp_substituted (hchanges n List.mem_cons_self) hzero hone
    · exact ih hl hempty (fun m hm => (faultChanges_other fun e : m = n => hn (e ▸ hm)).2 (hchanges m (List.mem_cons_of_mem _ hm)))
        ((hcls 0).trans hzero) ((hcls 1).trans hone)

/-- R75: readings that change no open fault change the readings alone. -/
theorem forEach_readLamp_quiet (hkept : ∀ n ∈ l, ¬FaultChanges draws n s) :
    OnlyChanges [.matrix] s (forEach (readLamp draws) l s) := by
  induction l generalizing s with
  | nil => exact .refl _ _
  | cons n l ih =>
    obtain ⟨hn, hl⟩ := List.nodup_cons.1 hl
    have hfirst : OnlyChanges [.matrix] s (readLamp draws n s) := by
      rw [readLamp_kept (hkept n List.mem_cons_self)]
      exact readStored_frame draws n s
    exact hfirst.trans (ih hl fun m hm => mt (faultChanges_other fun e : m = n => hn (e ▸ hm)).1 (hkept m (List.mem_cons_of_mem _ hm)))

end nodup

/-- R180: several postings of one kind in one record. -/
theorem foldl_posted_count (l : List Nat) (r : EventRecord) : (l.foldl (fun r n => r.posted n) r).count =
    if r.level = 0 ∨ l = [] then r.count else min 255 (r.count + l.length) := by
  induction l generalizing r with
  | nil => simp
  | cons n l ih =>
    by_cases hlevel : r.level = 0
    · rw [List.foldl_cons, posted_of_level_zero _ hlevel, ih, if_pos (.inl hlevel), if_pos (.inl hlevel)]
    · rw [List.foldl_cons, posted_of_level _ hlevel, ih]
      simp only [hlevel, false_or, List.length_cons, reduceCtorEq, if_false]
      split
      · next h => rw [h]; rfl
      · omega

end row

/-! ### The lamps read -/

/-- R74: a lamp receives a reading at the end of the slot in progress. -/
def IsRead (m : LampMatrix) (n : Fin 48) : Prop := n.val / 8 = m.slot ∧ 4 ≤ (m.plan.get n).getD 0

/-- R75: the reading of a lamp sets its open fault. -/
def SetsFault (draws : Tab Bool 8) (m : LampMatrix) (n : Fin 48) : Prop :=
  IsRead m n ∧ ¬draws.get (lampColumn n) = true ∧ (m.readings.get n).low = 2 ∧ (m.readings.get n).openFault = false

/-- R75: the reading of a lamp clears its open fault. -/
def ClearsFault (draws : Tab Bool 8) (m : LampMatrix) (n : Fin 48) : Prop :=
  IsRead m n ∧ draws.get (lampColumn n) = true ∧ (m.readings.get n).good = 2 ∧ (m.readings.get n).openFault = true

theorem mem_lampsOfRow {row : Nat} (hrow : row < 6) (n : Fin 48) : n ∈ lampsOfRow row ↔ n.val / 8 = row := by
  simp only [lampsOfRow, List.mem_filterMap, List.mem_finRange, true_and, lampAt, dif_pos hrow, Option.some.injEq, Fin.ext_iff]
  constructor
  · rintro ⟨col, h⟩
    omega
  · intro h
    exact ⟨⟨n.val % 8, by omega⟩, by simp only; omega⟩

theorem nodup_lampsOfRow (row : Nat) : (lampsOfRow row).Nodup := by
  refine (List.nodup_finRange 8).filterMap fun a b n ha hb => ?_
  simp only [lampAt, Option.mem_def] at ha hb
  split at ha
  · next hrow =>
    rw [dif_pos hrow] at hb
    simp only [Option.some.injEq, Fin.ext_iff] at ha hb
    exact Fin.ext (by omega)
  · exact absurd ha (by simp)

theorem isRead_iff (plan : Tab (Option Nat) 48) (n : Fin 48) : isRead plan n = true ↔ 4 ≤ (plan.get n).getD 0 := by
  unfold isRead
  split
  · next h => simp [h]
  · next h => simp [h]

theorem mem_readLamps {m : LampMatrix} (hslot : m.slot < 6) (n : Fin 48) : n ∈ readLamps m ↔ IsRead m n := by
  rw [readLamps, List.mem_filter, mem_lampsOfRow hslot, isRead_iff, IsRead]

theorem nodup_readLamps (m : LampMatrix) : (readLamps m).Nodup := (nodup_lampsOfRow _).filter _

theorem mem_faultsChanged {draws : Tab Bool 8} {s : State} (hslot : s.lmd.slot < 6) (n : Fin 48) :
    n ∈ faultsChanged draws s.lmd ↔ IsRead s.lmd n ∧ FaultChanges draws n s := by
  rw [faultsChanged, List.mem_filter, mem_readLamps hslot, decide_eq_true_iff]
  rfl

theorem mem_faultsKept {draws : Tab Bool 8} {s : State} (hslot : s.lmd.slot < 6) (n : Fin 48) :
    n ∈ faultsKept draws s.lmd ↔ IsRead s.lmd n ∧ ¬FaultChanges draws n s := by
  rw [faultsKept, List.mem_filter, mem_readLamps hslot, decide_eq_true_iff, FaultChanges, not_not]
  rfl

theorem nodup_faultsChanged (draws : Tab Bool 8) (m : LampMatrix) : (faultsChanged draws m).Nodup :=
  (nodup_readLamps m).filter _

theorem nodup_faultsKept (draws : Tab Bool 8) (m : LampMatrix) : (faultsKept draws m).Nodup := (nodup_readLamps m).filter _

/-! ### What a reading sets and clears -/

theorem readingAfter_ok {draws : Tab Bool 8} {n : Fin 48} {s : State} (h : draws.get (lampColumn n) = true) :
    readingAfter draws n s = { s.lmd.readings.get n with
      low := 0
      good := min 3 ((s.lmd.readings.get n).good + 1)
      openFault := (s.lmd.readings.get n).openFault && !((s.lmd.readings.get n).good = 2) } := if_pos h

theorem readingAfter_low {draws : Tab Bool 8} {n : Fin 48} {s : State} (h : ¬draws.get (lampColumn n) = true) :
    readingAfter draws n s = { s.lmd.readings.get n with
      low := min 3 ((s.lmd.readings.get n).low + 1)
      good := 0
      openFault := (s.lmd.readings.get n).openFault || (s.lmd.readings.get n).low = 2 } := if_neg h

theorem tellsOpen_iff {draws : Tab Bool 8} {n : Fin 48} {s : State} (hread : IsRead s.lmd n) :
    tellsFault draws n s .lampOpen = true ↔ SetsFault draws s.lmd n := by
  rw [tellsFault_iff, FaultChanges, faultKind, SetsFault]
  by_cases h : draws.get (lampColumn n) = true
  · cases hopen : (s.lmd.readings.get n).openFault <;> simp [readingAfter_ok h, h, hopen]
  · cases hopen : (s.lmd.readings.get n).openFault <;> simp [readingAfter_low h, h, hread, hopen]

theorem tellsRestored_iff {draws : Tab Bool 8} {n : Fin 48} {s : State} (hread : IsRead s.lmd n) :
    tellsFault draws n s .lampRestored = true ↔ ClearsFault draws s.lmd n := by
  rw [tellsFault_iff, FaultChanges, faultKind, ClearsFault]
  by_cases h : draws.get (lampColumn n) = true
  · cases hopen : (s.lmd.readings.get n).openFault <;> simp [readingAfter_ok h, h, hread, hopen]
  · cases hopen : (s.lmd.readings.get n).openFault <;> simp [readingAfter_low h, h, hopen]

theorem faultChanges_iff {draws : Tab Bool 8} {n : Fin 48} {s : State} (hread : IsRead s.lmd n) :
    FaultChanges draws n s ↔ SetsFault draws s.lmd n ∨ ClearsFault draws s.lmd n := by
  rw [← tellsOpen_iff hread, ← tellsRestored_iff hread, tellsFault_iff, tellsFault_iff, ← and_or_left, iff_self_and]
  intro
  unfold faultKind
  split
  · exact .inl rfl
  · exact .inr rfl

theorem openFault_after {draws : Tab Bool 8} {n : Fin 48} {s : State} (hread : IsRead s.lmd n) :
    (readingAfter draws n s).openFault = true ↔ SetsFault draws s.lmd n ∨
      ((s.lmd.readings.get n).openFault = true ∧ ¬ClearsFault draws s.lmd n) := by
  rw [SetsFault, ClearsFault]
  by_cases h : draws.get (lampColumn n) = true
  · cases hopen : (s.lmd.readings.get n).openFault <;> simp [readingAfter_ok h, h, hread, hopen]
  · cases hopen : (s.lmd.readings.get n).openFault <;> simp [readingAfter_low h, h, hread, hopen]

/-! ### The row read -/

section rowRead
variable (draws : Tab Bool 8) (l : List (Fin 48)) (c : Nat) (s : State)

/-- R74, log 4: the readings that change no open fault. -/
def quietRead : State := (forEach (readLamp draws) (faultsKept draws s.lmd) s).setChoices c

/-- R75: the readings of a row, those that change an open fault in an order. -/
def rowRead : State := forEach (readLamp draws) l (quietRead draws c s)

/-- R66, R69, log 10: a row slot ended, its lamps read. -/
def slotPassed (t : State) : State :=
  let u := t.setLmd { t.lmd.flash 1 with slot := s.lmd.slot + 1 }
  u.setPins (u.pins.sensed s.lmd.slot draws)

theorem rowSlotEnd_eq (hslot : s.lmd.slot < 6) : ∃ l c, l.Perm (faultsChanged draws s.lmd) ∧
    rowSlotEnd draws s = slotPassed draws s (rowRead draws l c s) :=
  ⟨_, _, arrange_perm _ _, if_pos hslot⟩

theorem slotPassed_frame (t : State) : OnlyChanges [.matrix, .leads] t (slotPassed draws s t) :=
  .after (sensed_frame _ _ _) (by decide) ((setLmd_frame _ _).mono (by decide))

variable {draws l s}

theorem quietRead_frame (hslot : s.lmd.slot < 6) : OnlyChanges [.matrix] s (quietRead draws c s) :=
  (forEach_readLamp_quiet (nodup_faultsKept _ _) fun n hn => ((mem_faultsKept hslot n).1 hn).2).trans
    ((setChoices_frame _ c).mono (by decide))

theorem quietRead_reading (m : Fin 48) : (quietRead draws c s).lmd.readings.get m =
    if m ∈ faultsKept draws s.lmd then readingAfter draws m s else s.lmd.readings.get m :=
  forEach_readLamp_reading (nodup_faultsKept _ _) m

theorem quietRead_lmd : (quietRead draws c s).lmd = { s.lmd with readings := (quietRead draws c s).lmd.readings } :=
  forEach_readLamp_lmd

section changed
variable (hslot : s.lmd.slot < 6) (hl : l.Perm (faultsChanged draws s.lmd))
include hl

theorem rowRead_nodup : l.Nodup := hl.nodup_iff.2 (nodup_faultsChanged _ _)

include hslot

theorem rowRead_mem (n : Fin 48) : n ∈ l ↔ IsRead s.lmd n ∧ FaultChanges draws n s :=
  hl.mem_iff.trans (mem_faultsChanged hslot n)

/-- The quiet readings leave the lamps still to be read. -/
theorem quietRead_kept {n : Fin 48} (hn : n ∈ l) : (quietRead draws c s).lmd.readings.get n = s.lmd.readings.get n := by
  rw [quietRead_reading, if_neg]
  exact fun hkept => ((mem_faultsKept hslot n).1 hkept).2 ((rowRead_mem hslot hl n).1 hn).2

theorem quietRead_after {n : Fin 48} (hn : n ∈ l) : readingAfter draws n (quietRead draws c s) = readingAfter draws n s := by
  rw [readingAfter, quietRead_kept c hslot hl hn]
  rfl

theorem rowRead_reading (n : Fin 48) [Decidable (IsRead s.lmd n)] : (rowRead draws l c s).lmd.readings.get n =
    if IsRead s.lmd n then readingAfter draws n s else s.lmd.readings.get n := by
  rw [rowRead, forEach_readLamp_reading (rowRead_nodup hl), quietRead_reading]
  by_cases hn : n ∈ l
  · rw [if_pos hn, quietRead_after c hslot hl hn, if_pos ((rowRead_mem hslot hl n).1 hn).1]
  · rw [if_neg hn]
    have hkept : n ∈ faultsKept draws s.lmd ↔ IsRead s.lmd n := by
      rw [mem_faultsKept hslot, and_iff_left_iff_imp]
      exact fun hread hchanges => hn ((rowRead_mem hslot hl n).2 ⟨hread, hchanges⟩)
    simp only [hkept]

/-- R75, R180: the lamps whose reading makes an event of a kind. -/
theorem tellsFault_mem {k : EventKind} {P : Fin 48 → Prop} (hP : ∀ n, P n → IsRead s.lmd n)
    (hk : ∀ n, IsRead s.lmd n → (tellsFault draws n s k = true ↔ P n)) (n : Fin 48) :
    n ∈ l.filter (fun n => tellsFault draws n (quietRead draws c s) k) ↔ P n := by
  have hsame (hn : n ∈ l) : tellsFault draws n (quietRead draws c s) k = tellsFault draws n s k := by
    rw [tellsFault, faultKind, quietRead_after c hslot hl hn, quietRead_kept c hslot hl hn]
    rfl
  rw [List.mem_filter]
  constructor
  · rintro ⟨hn, htells⟩
    exact (hk n ((rowRead_mem hslot hl n).1 hn).1).1 (hsame hn ▸ htells)
  · intro h
    have htells := (hk n (hP n h)).2 h
    have hn : n ∈ l := (rowRead_mem hslot hl n).2 ⟨hP n h, ((tellsFault_iff k).1 htells).1⟩
    exact ⟨hn, by rw [hsame hn]; exact htells⟩

/-- R75, R180: the events of a kind are posted once for each lamp whose reading makes one. -/
theorem rowRead_events {k : EventKind} {P : Fin 48 → Prop} [DecidablePred P] (hdropped : k ≠ .chimeDropped)
    (hP : ∀ n, P n → IsRead s.lmd n) (hk : ∀ n, IsRead s.lmd n → (tellsFault draws n s k = true ↔ P n)) :
    ∃ hits : List (Fin 48), hits.Perm ((List.finRange 48).filter P) ∧
      ∀ q, ((rowRead draws l c s).port q).events.get k.number =
        hits.foldl (fun r n => r.posted n.val) ((s.port q).events.get k.number) := by
  refine ⟨l.filter fun n => tellsFault draws n (quietRead draws c s) k, ?_, fun q => ?_⟩
  · refine (List.perm_ext_iff_of_nodup ((rowRead_nodup hl).filter _) ((List.nodup_finRange 48).filter _)).2 fun n => ?_
    rw [tellsFault_mem c hslot hl hP hk, List.mem_filter]
    simp
  · rw [rowRead, forEach_readLamp_events (rowRead_nodup hl) hdropped,
      NotPosted.of_frame (quietRead_frame c hslot) (by decide) q]

theorem rowRead_substituted (hzero : (s.lamps.get 0).cls = .safety) (hone : (s.lamps.get 1).cls = .info) (hne : l ≠ []) :
    Substituted (rowRead draws l c s) := by
  have hlamps : (quietRead draws c s).lamps = s.lamps := (quietRead_frame c hslot).lamps (by decide)
  refine forEach_readLamp_substituted (rowRead_nodup hl) hne (fun n hn => ?_) (hlamps ▸ hzero) (hlamps ▸ hone)
  rw [FaultChanges, quietRead_after c hslot hl hn, quietRead_kept c hslot hl hn]
  exact ((rowRead_mem hslot hl n).1 hn).2

end changed

theorem rowRead_lmd : (rowRead draws l c s).lmd = { s.lmd with readings := (rowRead draws l c s).lmd.readings } := by
  rw [rowRead, forEach_readLamp_lmd, quietRead_lmd]

theorem rowRead_stored (hslot : s.lmd.slot < 6) (m : Fin 48) :
    ((rowRead draws l c s).lamps.get m).stored = (s.lamps.get m).stored := by
  rw [rowRead, forEach_readLamp_stored, (quietRead_frame c hslot).lamps (by decide)]

end rowRead

end Sys2Proof.Machine
end
section
/-! CERTIFICATE. The end of a row slot (R60 to R62, R69, R74, R75). -/
namespace Sys2Proof.Machine

section ended
variable {draws : Tab Bool 8} {l : List (Fin 48)} {c : Nat} {s : State}

theorem slotPassed_lmd (t : State) : (slotPassed draws s t).lmd = { t.lmd.flash 1 with slot := s.lmd.slot + 1 } := rfl

/-- R75, R180: the events of a kind, counted. -/
theorem slotPassed_count {k : EventKind} {P : Fin 48 → Prop} [DecidablePred P] {q : Port}
    (h : ∃ hits : List (Fin 48), hits.Perm ((List.finRange 48).filter P) ∧ ∀ q,
      ((rowRead draws l c s).port q).events.get k.number =
        hits.foldl (fun r n => r.posted n.val) ((s.port q).events.get k.number)) :
    (((slotPassed draws s (rowRead draws l c s)).port q).events.get k.number).count =
      if ((s.port q).events.get k.number).level = 0 ∨ (List.finRange 48).filter P = [] then ((s.port q).events.get k.number).count
      else min 255 (((s.port q).events.get k.number).count + ((List.finRange 48).filter P).length) := by
  obtain ⟨hits, hperm, hevents⟩ := h
  have hempty : hits = [] ↔ (List.finRange 48).filter P = [] :=
    ⟨fun e => (e ▸ hperm).symm.eq_nil, fun e => (e ▸ hperm).eq_nil⟩
  have hcount := foldl_posted_count (hits.map (·.val)) ((s.port q).events.get k.number)
  rw [List.foldl_map, List.length_map, hperm.length_eq] at hcount
  rw [NotPosted.of_frame (slotPassed_frame draws s _) (by decide) q, hevents, hcount]
  simp only [List.map_eq_nil_iff, hempty]

/-- R75, R180: the event of a kind that a row slot makes for one lamp alone. -/
theorem slotPassed_posted {k : EventKind} {P : Fin 48 → Prop} [DecidablePred P]
    (h : ∃ hits : List (Fin 48), hits.Perm ((List.finRange 48).filter P) ∧ ∀ q,
      ((rowRead draws l c s).port q).events.get k.number =
        hits.foldl (fun r n => r.posted n.val) ((s.port q).events.get k.number)) {n : Fin 48} (hn : P n)
    (honly : ∀ m, P m → m = n) : Posted k n.val s (slotPassed draws s (rowRead draws l c s)) := by
  obtain ⟨hits, hperm, hevents⟩ := h
  have hone : [n].Perm ((List.finRange 48).filter P) := by
    refine (List.perm_ext_iff_of_nodup (List.nodup_singleton n) ((List.nodup_finRange 48).filter _)).2 fun m => ?_
    simp only [List.mem_singleton, List.mem_filter, List.mem_finRange, true_and, decide_eq_true_iff]
    exact ⟨fun e => e ▸ hn, honly m⟩
  intro q
  rw [NotPosted.of_frame (slotPassed_frame draws s _) (by decide) q, hevents, List.perm_singleton.1 (hperm.trans hone.symm)]
  rfl

end ended

/-- Settles O26: the reading of each lamp of the row by `rowRead_reading`, their events by `rowRead_events`, and the
substitutions by the update that each open fault set or cleared makes. -/
theorem rowSlotReadsLamps : Obligations.RowSlotReadsLamps := by
  intro draws s hout hslot hzero hone
  obtain ⟨l, c, hl, heq⟩ := rowSlotEnd_eq draws s hslot
  refine ⟨rowSlotEnd draws s, congrArg Host.Outcome.next (whenOut_of_isOut hout), ?_⟩
  rw [heq]
  intro read ok sets clears
  have hopened := rowRead_events (P := sets) c hslot hl (by decide) (fun n h => h.1) fun n => tellsOpen_iff
  have hrestored := rowRead_events (P := clears) c hslot hl (by decide) (fun n h => h.1) fun n => tellsRestored_iff
  have hchanged (n : Fin 48) : n ∈ l ↔ sets n ∨ clears n := by
    rw [rowRead_mem hslot hl]
    constructor
    · exact fun ⟨hread, h⟩ => (faultChanges_iff hread).1 h
    · intro h
      have hread : IsRead s.lmd n := h.elim (·.1) (·.1)
      exact ⟨hread, (faultChanges_iff hread).2 h⟩
  have hlmd := rowRead_lmd (draws := draws) (l := l) (s := s) c
  have hframe := slotPassed_frame draws s (rowRead draws l c s)
  refine ⟨fun n => ?_, fun p => ⟨slotPassed_count hopened, slotPassed_count hrestored⟩,
    fun n => slotPassed_posted hopened, fun n => slotPassed_posted hrestored, ?_, fun hquiet => ?_, fun n => ?_,
    fun k hopen hrestored hdropped => ?_, rfl, ?_, ?_, ?_, ?_, ?_, ?_⟩
  · classical
    have hreading := rowRead_reading c hslot hl n
    intro old new
    have hnew : new = (rowRead draws l c s).lmd.readings.get n := rfl
    rw [hnew, hreading]
    refine ⟨fun hread => if_neg hread, fun (hread : IsRead s.lmd n) hok => ?_,
      fun (hread : IsRead s.lmd n) hlow => ?_, ?_⟩
    · rw [if_pos hread, readingAfter_ok hok]
      exact ⟨rfl, rfl⟩
    · rw [if_pos hread, readingAfter_low hlow]
      exact ⟨rfl, rfl⟩
    · by_cases hread : IsRead s.lmd n
      · rw [if_pos hread]
        exact openFault_after hread
      · rw [if_neg hread]
        exact ⟨fun h => .inr ⟨h, fun hclears => hread hclears.1⟩, fun h => h.elim (fun hsets => absurd hsets.1 hread) (·.1)⟩
  · rintro ⟨n, hn⟩
    have hsub := rowRead_substituted c hslot hl hzero hone (List.ne_nil_of_mem ((hchanged n).2 hn))
    rw [Substituted, hframe.lamps (by decide)]
    exact hsub
  · have hnil : l = [] := List.eq_nil_iff_forall_not_mem.2 fun n hn => ((hchanged n).1 hn).elim (hquiet n).1 (hquiet n).2
    have hread : OnlyChanges [.matrix] s (rowRead draws l c s) := hnil ▸ quietRead_frame c hslot
    exact ⟨(hframe.lamps (by decide)).trans (hread.lamps (by decide)), (hframe.cu (by decide)).trans (hread.cu (by decide))⟩
  · rw [hframe.lamps (by decide)]
    exact rowRead_stored c hslot n
  · rw [← heq]
    exact (rowSlotEnd_tells s draws).notPosted (by simp [hopen, hrestored, hdropped])
  iterate 5 · rw [slotPassed_lmd, hlmd]
              rfl
  · rw [← heq]
    exact (rowSlotEnd_frame s draws).mono (by decide)

end Sys2Proof.Machine
end

section
/-! SUPPORT. The filter and curve stages, case by case (R16, R18). -/
namespace Sys2Proof.Machine

/-! ### The filter stage (R16) -/

section filter
variable {shift x f : Nat}

theorem filterStage_of_le (h : f ≤ 256 * x) : filterStage shift x f = f + (256 * x - f) / 2 ^ shift := by
  have hdiff : (256 * x : Int) - f = ((256 * x - f : Nat) : Int) := by omega
  have hden : (2 ^ shift : Int) = ((2 ^ shift : Nat) : Int) := by push_cast; rfl
  rw [filterStage, hdiff, hden, ← Int.ofNat_tdiv]
  exact Int.toNat_natCast _

theorem filterStage_of_lt (h : 256 * x < f) : filterStage shift x f = f - (f - 256 * x) / 2 ^ shift := by
  have hdiff : (256 * x : Int) - f = -((f - 256 * x : Nat) : Int) := by omega
  have hden : (2 ^ shift : Int) = ((2 ^ shift : Nat) : Int) := by push_cast; rfl
  have hle : (f - 256 * x) / 2 ^ shift ≤ f - 256 * x := Nat.div_le_self _ _
  rw [filterStage, hdiff, hden, Int.neg_tdiv, ← Int.ofNat_tdiv]
  omega

end filter

/-! ### The curve stage (R18) -/

section curve
variable {p q : Point} {v : Nat} {rest curve : List Point}

/-- R18: between two neighbouring points the target lies at the rounded quotient from the first. -/
theorem interpolate_nearest (hlo : p.x ≤ v) (hhi : v < q.x) :
    NearestQuotient (((v : Int) - p.x) * ((q.a : Int) - p.a)) (q.x - p.x) ((interpolate p q v : Int) - p.a) := by
  have hden : 0 < q.x - p.x := by omega
  have hnear := roundQuotient_nearest (((v : Int) - p.x) * ((q.a : Int) - p.a)) hden
  have hnum : -((p.a : Int) * (q.x - p.x : Nat)) ≤ ((v : Int) - p.x) * ((q.a : Int) - p.a) := by
    have hrise : 0 ≤ ((v : Int) - p.x) * q.a := mul_nonneg (by omega) (by omega)
    have hfall : ((v : Int) - p.x) * p.a ≤ ((q.x - p.x : Nat) : Int) * p.a := mul_le_mul_of_nonneg_right (by omega) (by omega)
    linarith [mul_sub ((v : Int) - p.x) q.a p.a, mul_comm (p.a : Int) (q.x - p.x : Nat)]
  have hlow : 0 ≤ (p.a : Int) + roundQuotient (((v : Int) - p.x) * ((q.a : Int) - p.a)) (q.x - p.x) := by
    generalize roundQuotient _ _ = r at *
    generalize ((v : Int) - p.x) * ((q.a : Int) - p.a) = num at *
    by_contra hneg
    have hprod : r * (q.x - p.x : Nat) ≤ (-p.a - 1) * (q.x - p.x : Nat) := mul_le_mul_of_nonneg_right (by omega) (by omega)
    obtain ⟨hhalf, -⟩ := hnear
    rw [sub_mul, neg_mul] at hprod
    generalize r * (q.x - p.x : Nat) = m at *
    generalize (p.a : Int) * (q.x - p.x : Nat) = k at *
    omega
  rw [interpolate, Int.toNat_of_nonneg hlow, add_sub_cancel_left]
  exact hnear

theorem targetFrom_cons : targetFrom p (q :: rest) v = if v < q.x then interpolate p q v else targetFrom q rest v := rfl

theorem curveTarget_cons : curveTarget (p :: rest) v = if v ≤ p.x then p.a else targetFrom p rest v := rfl

/-- R18: at or past the last point the target is the last point's. -/
theorem targetFrom_last (hrise : (p :: rest).Pairwise fun p q => p.x < q.x) (hlast : ((p :: rest).getLast (by simp)).x ≤ v) :
    targetFrom p rest v = ((p :: rest).getLast (by simp)).a := by
  induction rest generalizing p with
  | nil => rfl
  | cons q rest ih =>
    rw [List.getLast_cons (by simp)] at hlast ⊢
    have hle : q.x ≤ ((q :: rest).getLast (by simp)).x := by
      rcases List.mem_cons.1 (List.getLast_mem (l := q :: rest) (by simp)) with h | h
      · rw [h]
      · exact ((List.pairwise_cons.1 (List.pairwise_cons.1 hrise).2).1 _ h).le
    rw [targetFrom_cons, if_neg (by omega), ih (List.pairwise_cons.1 hrise).2 hlast]

/-- R18: between two points of the curve the target is interpolated. -/
theorem targetFrom_between (hrise : (p :: rest).Pairwise fun p q => p.x < q.x) {z : Point × Point}
    (hz : z ∈ (p :: rest).zip rest) (hlo : z.1.x ≤ v) (hhi : v < z.2.x) : targetFrom p rest v = interpolate z.1 z.2 v := by
  induction rest generalizing p with
  | nil => simp at hz
  | cons q rest ih =>
    have hrest := (List.pairwise_cons.1 hrise).2
    rw [targetFrom_cons]
    rcases List.mem_cons.1 (List.zip_cons_cons ▸ hz) with rfl | hz
    · exact if_pos hhi
    · have hle : q.x ≤ z.1.x := by
        rcases List.mem_cons.1 (List.of_mem_zip (a := z.1) (b := z.2) hz).1 with h | h
        · rw [h]
        · exact ((List.pairwise_cons.1 hrest).1 _ h).le
      rw [if_neg (by omega), ih hrest hz]

theorem curveTarget_head (hq : q ∈ curve.head?) (h : v ≤ q.x) : curveTarget curve v = q.a := by
  cases curve with
  | nil => simp at hq
  | cons p rest =>
    obtain rfl : p = q := by simpa using hq
    exact if_pos h

theorem curveTarget_last (hrise : curve.Pairwise fun p q => p.x < q.x) (hq : q ∈ curve.getLast?) (h : q.x ≤ v) :
    curveTarget curve v = q.a := by
  cases curve with
  | nil => simp at hq
  | cons p rest =>
    obtain rfl : (p :: rest).getLast (by simp) = q := by simpa [List.getLast?_eq_some_getLast] using hq
    rw [curveTarget_cons]
    split
    · next hv =>
      cases rest with
      | nil => rfl
      | cons r rest =>
        have hlt := (List.pairwise_cons.1 hrise).1 _ (List.getLast_mem (l := r :: rest) (by simp))
        rw [List.getLast_cons (by simp)] at h
        omega
    · exact targetFrom_last hrise h

theorem curveTarget_between (hrise : curve.Pairwise fun p q => p.x < q.x) {z : Point × Point} (hz : z ∈ curve.zip curve.tail)
    (hlo : z.1.x ≤ v) (hhi : v < z.2.x) :
    NearestQuotient (((v : Int) - z.1.x) * ((z.2.a : Int) - z.1.a)) (z.2.x - z.1.x) ((curveTarget curve v : Int) - z.1.a) := by
  cases curve with
  | nil => simp at hz
  | cons p rest =>
    have hbetween := targetFrom_between hrise hz hlo hhi
    have hnear := interpolate_nearest hlo hhi
    rw [curveTarget_cons]
    split
    · next hv =>
      have hp : z.1 = p := by
        rcases List.mem_cons.1 (List.of_mem_zip (a := z.1) (b := z.2) hz).1 with h | h
        · exact h
        · have := (List.pairwise_cons.1 hrise).1 _ h
          omega
      have hx : z.1.x = p.x := congrArg Point.x hp
      have hzero : ((v : Int) - z.1.x) = 0 := by omega
      rw [hzero, zero_mul, hp, sub_self]
      refine ⟨by simp, fun hden => ?_⟩
      simp only [zero_mul, sub_self, Int.natAbs_zero, mul_zero] at hden
      omega
    · rw [hbetween]
      exact hnear

end curve

end Sys2Proof.Machine
end

section
/-! CERTIFICATE. The filter update (R16 to R18). -/
namespace Sys2Proof.Machine

section filter
variable {c : Channel}

theorem Channel.filterUpdate_still (h : c.state ≠ .tracking ∨ c.active.bind c.value = none) : c.filterUpdate = c := by
  unfold Channel.filterUpdate
  split
  · next x hstate hvalue => exact h.elim (absurd hstate) fun hnone => absurd (hvalue.symm.trans hnone) (by simp)
  · rfl

theorem Channel.filterUpdate_tracking {x : Nat} (hstate : c.state = .tracking) (hvalue : c.active.bind c.value = some x) :
    c.filterUpdate = { c with
      filter := filterStage c.filterShift x c.filter
      target := curveTarget c.curve ((filterStage c.filterShift x c.filter + 128) / 256) } := by
  have hactive : c.activeValue = some x := hvalue
  rw [Channel.filterUpdate, hstate, hactive]

end filter

theorem exec_filterUpdate (s : State) : exec .filterUpdate s =
    .next (timed .filterUpdate true (Config.filterPeriod ≤ s.ge.filterTime) (whenOut filterAll) s) := rfl

/-- Settles O17: the stages one channel at a time by `Channel.filterUpdate_tracking`, the target along the curve by the lemmas of
`curveTarget`. -/
theorem filterMovesTowardValue : Obligations.FilterMovesTowardValue := by
  intro s hout
  refine ⟨lapses_of_timed (exec_filterUpdate s) (iff_of_true rfl trivial) decide_eq_true_iff, fun hcomes => ?_⟩
  have hexec := acts_of_timed (exec_filterUpdate s) (iff_of_true rfl trivial) decide_eq_true_iff hcomes
  rw [whenOut_of_isOut (by simpa using hout)] at hexec
  refine ⟨_, hexec, .after (setGe_frame _ _) (by decide) ((ranBy_frame _ s).mono (by decide)), rfl, rfl, fun i => ?_⟩
  intro c a x
  have ha : a = c.filterUpdate := Tab.get_map ..
  refine ⟨fun h => ha.trans (Channel.filterUpdate_still h), fun hstate hvalue => ?_⟩
  have hx : c.active.bind c.value = some x := by
    obtain ⟨v, hv⟩ := Option.ne_none_iff_exists'.1 hvalue
    rw [hv, show x = v from congrArg (Option.getD · 0) hv]
  rw [ha, Channel.filterUpdate_tracking hstate hx]
  refine ⟨rfl, filterStage_of_le, filterStage_of_lt, fun ⟨_, _, hrise, hlimit⟩ => ?_⟩
  exact ⟨curveTarget_le hlimit, fun q => curveTarget_head, fun q => curveTarget_last hrise, fun z => curveTarget_between hrise⟩

end Sys2Proof.Machine
end

section
/-! SUPPORT. The motion law and the channel states, case by case (R26 to R39), and events posted for a list of channels. -/
namespace Sys2Proof.Machine

/-! ### The motion law (R27 to R30) -/

section motion
variable {c : Channel}

theorem Channel.arrives_iff : c.arrives = true ↔ c.distance = 0 ∧ c.speed ≤ 1 := by
  rw [Channel.arrives, Bool.and_eq_true, decide_eq_true_iff, decide_eq_true_iff]

theorem Channel.not_arrives_iff : c.arrives = false ↔ ¬(c.distance = 0 ∧ c.speed ≤ 1) := by
  rw [← Channel.arrives_iff, Bool.not_eq_true]

theorem Channel.opposes_iff : c.opposes = true ↔
    (c.direction = .up ∧ c.distance < 0) ∨ (c.direction = .down ∧ 0 < c.distance) := by
  unfold Channel.opposes
  cases c.direction <;> simp

/-- R30: a move stops at 0 and at the sweep limit. -/
theorem Channel.travel_eq (n speed : Nat) (h : c.position ≤ c.sweepLimit) :
    c.travel n speed = c.moved c.direction n speed := by
  unfold Channel.travel Channel.moved
  cases hd : c.direction
  · dsimp only
    by_cases hlimit : c.sweepLimit < c.position + n
    · rw [if_pos hlimit, if_neg (by omega), if_pos (by omega), if_pos (by omega), ← hd]
    · rw [if_neg hlimit, if_neg (by omega), if_neg (by omega), if_neg (by omega), ← hd]
      congr
  · dsimp only
    by_cases hzero : c.position < n
    · rw [if_pos hzero, if_pos (by omega), if_pos (by omega), ← hd]
    · rw [if_neg hzero, if_neg (by omega), if_neg (by omega), if_neg (by omega), ← hd]
      congr
      omega

theorem Channel.move_arrived (h : c.arrives = true) : c.move = { c with speed := 0 } := if_pos h

theorem Channel.move_away (h : c.arrives = false) (hs : 0 < c.speed) (ho : c.opposes = true) (hp : c.position ≤ c.sweepLimit) :
    c.move = c.moved c.direction (c.speed - 1) (c.speed - 1) := by
  rw [Channel.move, if_neg (by simp [h]), if_pos (by simp [hs, ho]), Channel.travel_eq _ _ hp]

/-- R28, R29: the first candidate speed that can stop within the distance, and late braking where there is none. -/
theorem Channel.move_toward (h : c.arrives = false) (ho : ¬(0 < c.speed ∧ c.opposes = true)) (hp : c.position ≤ c.sweepLimit) :
    c.move = match c.candidate c.distance.natAbs with
      | some v => c.moved c.toward (min v c.distance.natAbs) v
      | none => c.moved c.toward (c.speed - 1) (c.speed - 1) := by
  rw [Channel.move, if_neg (by simp [h]), if_neg (by simpa using ho)]
  cases c.candidate c.distance.natAbs with
  | some v => exact Channel.travel_eq (c := { c with direction := c.toward }) _ _ hp
  | none => exact Channel.travel_eq (c := { c with direction := c.toward }) _ _ hp

end motion

/-! ### The channel states (R35 to R39) -/

section interval
variable {c : Channel}

/-- R26: the states in which a pointer moves by the motion law. -/
def Channel.Moves (c : Channel) : Prop :=
  c.state = .tracking ∨ c.state = .sweepUp ∨ c.state = .sweepDown ∨ c.state = .parking

theorem Channel.interval_homing (h : c.state = .homing) : c.interval = c.homingStep := by rw [Channel.interval, h]

theorem Channel.interval_rests (h : c.state = .unhomed ∨ c.state = .parked) : c.interval = c := by
  rcases h with h | h <;> rw [Channel.interval, h]

theorem Channel.interval_moves (h : c.Moves) : c.interval = if c.arrives then c.stepped.onArrival else c.stepped := by
  rcases h with h | h | h | h <;> rw [Channel.interval, h]

theorem Channel.interval_stepped (h : c.Moves) (hn : c.arrives = false) : c.interval = c.stepped := by
  rw [Channel.interval_moves h, if_neg (by simp [hn])]

theorem Channel.interval_arrived (h : c.Moves) (ha : c.arrives = true) :
    c.interval = ({ c with speed := 0, walk := phaseWalk c.position c.position } : Channel).onArrival := by
  rw [Channel.interval_moves h, if_pos ha, Channel.stepped, Channel.move_arrived ha]

/-- An arrival changes the state and the target, and the walk where the coils are released. -/
theorem Channel.onArrival_pointer : c.onArrival.position = c.position ∧ c.onArrival.speed = c.speed ∧
    c.onArrival.direction = c.direction := by
  unfold Channel.onArrival
  split <;> exact ⟨rfl, rfl, rfl⟩

/-- R27 to R30: where an interval of the motion law leaves the pointer. -/
theorem Channel.interval_pointer (h : c.Moves) : c.interval.position = c.move.position ∧
    c.interval.speed = c.move.speed ∧ c.interval.direction = c.move.direction := by
  rw [Channel.interval_moves h]
  split
  · exact Channel.onArrival_pointer
  · exact ⟨rfl, rfl, rfl⟩

/-- R35: the channel an interval of homing leaves, before the pointer is free. -/
def Channel.overdriven (c : Channel) : Channel :=
  { c with overdrive := c.overdrive - min 4 c.overdrive, walk := phaseWalk c.overdrive (c.overdrive - min 4 c.overdrive) }

theorem Channel.homingStep_more (h : 4 < c.overdrive) : c.homingStep = c.overdriven :=
  if_neg (show c.overdrive - min 4 c.overdrive ≠ 0 by omega)

theorem Channel.homingStep_done (h : c.overdrive ≤ 4) : c.homingStep = ({ c.overdriven with direction := .up } : Channel).sweepOrTrack :=
  if_pos (show c.overdrive - min 4 c.overdrive = 0 by omega)

theorem Channel.sweepOrTrack_eq : c.sweepOrTrack = { c with
    state := if c.sweepTest then .sweepUp else .tracking
    target := if c.sweepTest then c.sweepLimit else if c.active = none then 0 else c.target } := by
  unfold Channel.sweepOrTrack
  split
  · rfl
  · simp [Channel.enterTracking]

theorem Channel.homingStep_walk : c.homingStep.walk = phaseWalk c.overdrive (c.overdrive - min 4 c.overdrive) := by
  rcases Nat.lt_or_ge 4 c.overdrive with h | h
  · rw [Channel.homingStep_more h]; rfl
  · rw [Channel.homingStep_done h, Channel.sweepOrTrack_eq]; rfl

/-- R35, R36, R39: what an interval leaves of a channel. -/
theorem Channel.interval_kept : { c.interval with
    state := c.state, target := c.target, position := c.position, speed := c.speed, direction := c.direction
    overdrive := c.overdrive, walk := c.walk } = c := by
  by_cases hm : c.Moves
  · obtain ⟨p, n, d, hmove⟩ := c.move_eq
    rw [Channel.interval_moves hm]
    unfold Channel.stepped
    rw [hmove]
    split
    · unfold Channel.onArrival
      split <;> rfl
    · rfl
  · by_cases hh : c.state = .homing
    · rw [Channel.interval_homing hh]
      rcases Nat.lt_or_ge 4 c.overdrive with h | h
      · rw [Channel.homingStep_more h]; rfl
      · rw [Channel.homingStep_done h, Channel.sweepOrTrack_eq]; rfl
    · have hrest : c.state = .unhomed ∨ c.state = .parked := by
        unfold Channel.Moves at hm
        cases hc : c.state <;> simp_all
      rw [Channel.interval_rests hrest]

end interval

/-! ### The walk of the coils (R31) -/

section walk
variable {c : Channel} {start goal j : Nat}

theorem phaseWalk_up (h : start ≤ goal) : (phaseWalk start goal).length = goal - start ∧
    (j < goal - start → (phaseWalk start goal)[j]? = some (phaseOf (start + (j + 1)))) := by
  rw [phaseWalk, if_pos h]
  exact ⟨by simp, fun hj => by simp [hj, Nat.add_assoc]⟩

theorem phaseWalk_down (h : goal < start) : (phaseWalk start goal).length = start - goal ∧
    (j < start - goal → (phaseWalk start goal)[j]? = some (phaseOf (start - (j + 1)))) := by
  rw [phaseWalk, if_neg (by omega)]
  exact ⟨by simp, fun hj => by simp [hj]⟩

/-- R31: the coils of a channel hold n indices, counted on, for an equal share of an interval each. -/
def Channel.Walks (c : Channel) (n : Nat) (count : Nat → Nat) : Prop :=
  ∀ micros, micros < 2000 → (n = 0 → c.coilsDuring false micros = .energized (count 0 % 48)) ∧
    ∀ j, j < n → 2000 * j ≤ micros * n → micros * n < 2000 * (j + 1) →
      c.coilsDuring false micros = .energized (count (j + 1) % 48)

theorem Channel.coilsDuring_energized {k : Nat} (h : c.coils = .energized k) (micros : Nat) :
    c.coilsDuring false micros = .energized (c.walk.getD (micros * c.walk.length / 2000) k) := by
  rw [Channel.coilsDuring, h]
  rfl

theorem Channel.walks_of {n k : Nat} {count : Nat → Nat} (hcoils : c.coils = .energized k) (hlength : c.walk.length = n)
    (hwalk : ∀ j, j < n → c.walk[j]? = some (phaseOf (count (j + 1)))) (hrest : n = 0 → k = phaseOf (count 0)) :
    c.Walks n count := by
  intro micros _
  rw [Channel.coilsDuring_energized hcoils, hlength]
  refine ⟨fun hn => ?_, fun j hj hlo hhi => ?_⟩
  · have hnil : c.walk = [] := List.length_eq_zero_iff.1 (hlength.trans hn)
    rw [hnil, hrest hn]
    rfl
  · have hshare : micros * n / 2000 = j := by omega
    rw [hshare, List.getD_eq_getElem?_getD, hwalk j hj]
    rfl

theorem Channel.walks_up {k : Nat} (hcoils : c.coils = .energized k) (hwalk : c.walk = phaseWalk start goal)
    (hrest : start = goal → k = phaseOf start) (h : start ≤ goal) : c.Walks (goal - start) (start + ·) :=
  Channel.walks_of hcoils (hwalk ▸ (phaseWalk_up (j := 0) h).1) (fun _ hj => hwalk ▸ (phaseWalk_up h).2 hj)
    fun hn => hrest (by omega)

theorem Channel.walks_down {k : Nat} (hcoils : c.coils = .energized k) (hwalk : c.walk = phaseWalk start goal)
    (h : goal < start) : c.Walks (start - goal) (start - ·) :=
  Channel.walks_of hcoils (hwalk ▸ (phaseWalk_down (j := 0) h).1) (fun _ hj => hwalk ▸ (phaseWalk_down h).2 hj)
    fun hn => by omega

/-- R26, R31: an interval of the motion law that leaves the coils energized leaves its walk, and their index at its end. -/
theorem Channel.interval_walk (h : c.Moves) (hparking : c.state = .parking → c.arrives = false) :
    c.interval.walk = phaseWalk c.position c.interval.position ∧ c.interval.coils = .energized (phaseOf c.interval.position) := by
  have hcoils {d : Channel} (hd : d.Moves) : d.coils = .energized (phaseOf d.position) := by
    rcases hd with h | h | h | h <;> simp [Channel.coils, h]
  by_cases ha : c.arrives = true
  · have hnot : c.state ≠ .parking := fun hp => by simp [hparking hp] at ha
    rw [Channel.interval_arrived h ha]
    unfold Channel.onArrival
    rcases h with h | h | h | h
    · simp [h, Channel.coils]
    · simp [h, Channel.coils]
    · simp [h, Channel.coils, Channel.enterTracking]
    · exact absurd h hnot
  · rw [Channel.interval_stepped h (by simpa using ha)]
    refine ⟨rfl, hcoils ?_⟩
    rw [Channel.Moves, Channel.stepped_state]
    exact h

/-- R31, R35: an interval of homing leaves its walk, and the coils energized. -/
theorem Channel.homing_walks (h : c.state = .homing) (hd : 0 < c.overdrive) :
    c.interval.Walks (min 4 c.overdrive) (c.overdrive - ·) := by
  have hcoils : ∃ k, c.homingStep.coils = .energized k := by
    rcases Nat.lt_or_ge 4 c.overdrive with hmore | hdone
    · rw [Channel.homingStep_more hmore]
      exact ⟨_, by rw [Channel.coils, show c.overdriven.state = .homing from h]⟩
    · rw [Channel.homingStep_done hdone, Channel.sweepOrTrack_eq]
      cases hsweep : c.sweepTest <;> exact ⟨_, by simp [Channel.coils, Channel.overdriven, hsweep]; rfl⟩
  obtain ⟨k, hcoils⟩ := hcoils
  rw [Channel.interval_homing h]
  have hwalks := Channel.walks_down hcoils Channel.homingStep_walk (by omega)
  rwa [show c.overdrive - (c.overdrive - min 4 c.overdrive) = min 4 c.overdrive by omega] at hwalks

end walk

/-! ### Events for a list of channels -/

section postAll
variable (k : EventKind) (s : State)

theorem notPosted_postAll_nil : NotPosted k s (postAll k [] s) := .of_frame (setChoices_frame s _) List.not_mem_nil

theorem posted_postAll_one (n : Nat) : Posted k n s (postAll k [n] s) :=
  NotPosted.trans_posted (.of_frame (setChoices_frame s _) List.not_mem_nil) (posted_post k n _)

end postAll

section indices
variable {α : Type} {n : Nat} {t : Tab α n} {p : α → Bool}

theorem indices_eq_nil (h : ∀ i, p (t.get i) = false) : t.indices p = [] :=
  List.eq_nil_iff_forall_not_mem.2 fun i hi => by simpa [h i] using (Tab.mem_indices t p i).1 hi

theorem nodup_indices : (t.indices p).Nodup := (List.nodup_finRange n).filter _

theorem indices_eq_one {i : Fin n} (hi : p (t.get i) = true) (honly : ∀ j, j ≠ i → p (t.get j) = false) : t.indices p = [i] := by
  refine List.perm_singleton.1 ((List.perm_ext_iff_of_nodup nodup_indices (List.nodup_singleton i)).2 fun j => ?_)
  rw [Tab.mem_indices, List.mem_singleton]
  constructor
  · intro h
    by_contra hj
    simp [honly j hj] at h
  · rintro rfl
    exact hi

end indices

/-! ### The motion interval -/

theorem exec_motionInterval (s : State) : exec .motionInterval s =
    .next (timed .motionInterval true (Config.motionPeriod ≤ s.ge.motionTime) (whenOut motionInterval) s) := rfl

section out
variable {s : State}

/-- R26: an interval as it comes, with the supply NORMAL. -/
theorem motionInterval_out (hout : isOut s = true) (hlow : s.pwc.supplyLow = false)
    (hcomes : Comes .motionInterval True (2 ≤ s.ge.motionTime) s) :
    exec .motionInterval s = .next (powerConditions (movedOn (ranBy .motionInterval s))) := by
  rw [acts_of_timed (exec_motionInterval s) (iff_of_true rfl trivial) decide_eq_true_iff hcomes,
    whenOut_of_isOut (by simpa using hout), motionInterval_eq, if_neg (by rw [(ranBy_frame _ s).pwc (by decide)]; simp [hlow])]

theorem powerConditions_supplyLow : (powerConditions s).pwc.supplyLow = s.pwc.supplyLow := by
  unfold powerConditions
  split
  · split <;> simp
  · split <;> simp
  · rfl
  · rfl

theorem movedOn_eq : movedOn s = postAll .homingDone ((s.ge.channels.indices Channel.homingDone).map (·.val))
    (mapChannels Channel.interval (s.setGe { s.ge with motionTime := 0 })) := rfl

theorem movedOn_homed (hnone : ∀ i, (s.ge.channels.get i).homingDone = false) : NotPosted .homingDone s (movedOn s) := by
  rw [movedOn_eq, indices_eq_nil hnone]
  exact .trans (.of_frame (setGe_frame s _) (by decide)) (.trans (.of_frame (mapChannels_frame _ _) (by decide))
    (notPosted_postAll_nil _ _))

theorem movedOn_homedOne {i : Fin 8} (hi : (s.ge.channels.get i).homingDone = true)
    (honly : ∀ j, j ≠ i → (s.ge.channels.get j).homingDone = false) : Posted .homingDone i.val s (movedOn s) := by
  rw [movedOn_eq, indices_eq_one hi honly]
  exact NotPosted.trans_posted (.of_frame (setGe_frame s _) (by decide))
    (NotPosted.trans_posted (.of_frame (mapChannels_frame _ _) (by decide)) (posted_postAll_one _ _ _))

end out

end Sys2Proof.Machine
end

section
/-! CERTIFICATE. The motion interval: the motion law, the coils and the channel states (R26 to R39). -/
namespace Sys2Proof.Machine

/-- R26: the state that an interval leaves. -/
def motionDone (s : State) : State := powerConditions (movedOn (ranBy .motionInterval s))

section interval
variable (s : State) (i : Fin 8)

@[simp] theorem motionDone_channel : (motionDone s).ge.channels.get i = (s.ge.channels.get i).interval := by
  rw [motionDone, powerConditions_ge, movedOn_channels, Tab.get_map, (ranBy_frame _ s).ge (by decide)]

theorem motionDone_motionTime : (motionDone s).ge.motionTime = 0 := by
  rw [motionDone, powerConditions_ge, movedOn_eq, postAll_ge]
  rfl

theorem motionDone_coils (hout : isOut s = true) (hlow : s.pwc.supplyLow = false) :
    coilDuring (motionDone s) i = (s.ge.channels.get i).interval.coilsDuring false := by
  have hrst : (motionDone s).rst = s.rst := by
    rw [motionDone, powerConditions_rst, (movedOn_frame _).rst (by decide), (ranBy_frame _ s).rst (by decide)]
  have hsupply : (motionDone s).pwc.supplyLow = false := by
    rw [motionDone, powerConditions_supplyLow, (movedOn_frame _).pwc (by decide), (ranBy_frame _ s).pwc (by decide), hlow]
  funext micros
  rw [coilDuring, hsupply, motionDone_channel, if_pos (by rw [isOut, hrst]; exact hout)]

end interval

theorem Channel.coilsDuring_released {c : Channel} (h : c.state = .unhomed ∨ c.state = .parked) (micros : Nat) :
    c.coilsDuring false micros = .released := by
  rcases h with h | h <;> rw [Channel.coilsDuring, Channel.coils, h]

/-- Settles O18: the walk by `Channel.interval_walk` and `Channel.homing_walks`, the pointer by the three cases of
`Channel.move`. -/
theorem motionLawMovesPointers : Obligations.MotionLawMovesPointers := by
  intro s hout hlow
  refine ⟨lapses_of_timed (exec_motionInterval s) (iff_of_true rfl trivial) decide_eq_true_iff, fun hcomes => ?_⟩
  refine ⟨motionDone s, motionInterval_out hout hlow hcomes, motionDone_motionTime s, fun i => ?_⟩
  rw [motionDone_coils _ _ hout hlow, motionDone_channel]
  intro c a d r arrived away dir found goes walks
  have hpos : c.arrives = true ↔ arrived := Channel.arrives_iff
  have hneg : c.arrives = false ↔ ¬arrived := Channel.not_arrives_iff
  refine ⟨fun hrest => ?_, fun hh hd => Channel.homing_walks hh hd,
    fun hparked => Channel.coilsDuring_released (.inr hparked), fun hmoves => ?_, fun hmoves hp => ?_⟩
  · have hsame : c.interval = c := Channel.interval_rests hrest
    exact ⟨hsame, fun micros => hsame ▸ Channel.coilsDuring_released hrest micros⟩
  · have hm : c.Moves := hmoves.imp_right (Or.imp_right (Or.imp_right And.left))
    obtain ⟨hwalk, hcoils⟩ := Channel.interval_walk hm fun hp => hneg.2 (by
      rcases hmoves with h | h | h | h
      iterate 3 exact absurd (h.symm.trans hp) (by decide)
      exact h.2)
    exact ⟨fun hle => Channel.walks_up hcoils hwalk (fun heq => congrArg phaseOf heq.symm) hle,
      fun hlt => Channel.walks_down hcoils hwalk hlt⟩
  · obtain ⟨hposition, hspeed, hdirection⟩ := Channel.interval_pointer hmoves
    have hgoes {m : Channel} (h : c.move = m) : goes m :=
      ⟨h ▸ hposition, h ▸ hspeed, h ▸ hdirection⟩
    have haway : away ↔ 0 < c.speed ∧ c.opposes = true := and_congr_right' Channel.opposes_iff.symm
    refine ⟨fun ha => hgoes (Channel.move_arrived (hpos.2 ha)), fun ha hn => ?_, fun hn ha => ?_⟩
    · obtain ⟨hs, ho⟩ := haway.1 ha
      exact hgoes (Channel.move_away (hneg.2 hn) hs ho hp)
    · have htoward := Channel.move_toward (hneg.2 hn) (mt haway.2 ha) hp
      have hfound : found = c.candidate r := by
        refine congrArg (List.find? · _) (funext fun v => ?_)
        rw [Bool.decide_and]
        rfl
      rw [hfound]
      cases hv : c.candidate r with
      | some v => exact hgoes (by rw [htoward, show c.candidate c.distance.natAbs = some v from hv]; rfl)
      | none => exact hgoes (by rw [htoward, show c.candidate c.distance.natAbs = none from hv]; rfl)

/-- R37, R13: a channel that enters TRACKING. -/
theorem Channel.interval_homed {c : Channel} (h : c.state = .homing) (hd : c.overdrive ≤ 4) : c.interval = { c with
    overdrive := 0
    walk := phaseWalk c.overdrive (c.overdrive - min 4 c.overdrive)
    direction := .up
    state := if c.sweepTest then .sweepUp else .tracking
    target := if c.sweepTest then c.sweepLimit else if c.active = none then 0 else c.target } := by
  rw [Channel.interval_homing h, Channel.homingStep_done hd, Channel.sweepOrTrack_eq, Channel.overdriven,
    show c.overdrive - min 4 c.overdrive = 0 by omega]

/-- Settles O19: one channel at a time by the equations of `Channel.interval`, the event by the list of channels homed. -/
theorem motionIntervalChangesStates : Obligations.MotionIntervalChangesStates := by
  intro s hout hlow hcomes
  have hhomed {i : Fin 8} : (s.ge.channels.get i).homingDone = true ↔
      (s.ge.channels.get i).state = .homing ∧ (s.ge.channels.get i).overdrive ≤ 4 := by
    rw [Channel.homingDone, Bool.and_eq_true, decide_eq_true_iff, decide_eq_true_iff]
  have hbefore : OnlyChanges [.due] s (ranBy .motionInterval s) := ranBy_frame _ s
  have hafter : NotPosted .homingDone (movedOn (ranBy .motionInterval s)) (motionDone s) :=
    (powerConditions_tells _).notPosted (by decide)
  have hframe : OnlyChanges [.gauges, .due, .power, .lamps, .chimes, .events, .ports, .recorder] s (motionDone s) :=
    .after (powerConditions_frame _) (by decide) (.after (movedOn_frame _) (by decide) (hbefore.mono (by decide)))
  refine ⟨motionDone s, motionInterval_out hout hlow hcomes, fun i => ?_, fun hnone => ?_, fun i hstate hdone honly => ?_,
    hframe.lmd (by decide), hframe.cc (by decide), hframe.aau (by decide), hframe.inputs (by decide),
    hframe.window (by decide), hframe.rst (by decide)⟩
  · rw [motionDone_channel]
    intro c a tracks arrives
    have harrives : c.arrives = true ↔ arrives :=
      Channel.arrives_iff.trans (and_congr_left' (by unfold Channel.distance; omega))
    have ha : a = c.interval := rfl
    have htracks : tracks ↔ c.interval.state = .tracking ∧ c.interval.target = if c.active = none then 0 else c.target := Iff.rfl
    refine ⟨Channel.interval_kept, fun hh hd => ?_, fun hh hd => ?_, fun hs hat => ?_, fun hs hat => ?_, fun hs hat => ?_,
      fun hh hstays => ?_⟩
    · rw [ha, Channel.interval_homing hh, Channel.homingStep_more hd, Channel.overdriven, show min 4 c.overdrive = 4 by omega]
    · rw [htracks, ha, Channel.interval_homed hh hd]
      refine ⟨rfl, rfl, rfl, rfl, ?_⟩
      cases hsweep : c.sweepTest <;> simp
    · rw [ha, Channel.interval_arrived (.inr (.inl hs)) (harrives.2 hat)]
      simp [Channel.onArrival, hs]
    · rw [htracks, Channel.interval_arrived (.inr (.inr (.inl hs))) (harrives.2 hat)]
      simp [Channel.onArrival, hs, Channel.enterTracking]
    · rw [ha, Channel.interval_arrived (.inr (.inr (.inr hs))) (harrives.2 hat)]
      simp [Channel.onArrival, hs]
    · rw [ha]
      by_cases hrest : c.state = .unhomed ∨ c.state = .parked
      · rw [Channel.interval_rests hrest]
        exact ⟨rfl, rfl⟩
      · have hm : c.Moves := by
          unfold Channel.Moves
          cases hc : c.state <;> simp_all
        by_cases hat : c.arrives = true
        · have ht : c.state = .tracking := hstays.resolve_right fun hn => hn (harrives.1 hat)
          rw [Channel.interval_arrived hm hat]
          simp [Channel.onArrival, ht]
        · obtain ⟨p, n, d, hmove⟩ := c.move_eq
          rw [Channel.interval_stepped hm (by simpa using hat), Channel.stepped, hmove]
          exact ⟨rfl, rfl⟩
  · exact .trans (.of_frame hbefore (by decide)) (.trans (movedOn_homed fun i => Bool.eq_false_iff.2 fun h => hnone i (hhomed.1 h))
      hafter)
  · have hone : Posted .homingDone i.val (ranBy .motionInterval s) (movedOn (ranBy .motionInterval s)) :=
      movedOn_homedOne (hhomed.2 ⟨hstate, hdone⟩) fun j hj => Bool.eq_false_iff.2 fun h => honly j hj (hhomed.1 h)
    exact NotPosted.trans_posted (.of_frame hbefore (by decide)) (hone.trans_notPosted hafter)

end Sys2Proof.Machine
end

section
/-! SUPPORT. The selection of the active sources (R6 to R12): the channels, the window, the events and the lamps it leaves. -/
namespace Sys2Proof.Machine

/-! ### The vehicle speed handed on (R15, R176) -/

section speed
variable {s t : State} {old : Option Nat}

/-- R176: a vehicle speed value that has changed closes an open window at 1 km/h and above. -/
def SpeedCloses (window : Bool) (old new : Option Nat) : Prop := window = true ∧ new ≠ old ∧ 100 ≤ new.getD 0

theorem vehicleSpeed_congr (h : t.ge = s.ge) : vehicleSpeed t = vehicleSpeed s := by rw [vehicleSpeed, h]; rfl

theorem handSpeed_closing (h : SpeedCloses s.window old (vehicleSpeed s)) : handSpeed old s = judgeTone (closeWindow s) := by
  obtain ⟨-, hnew, hfast⟩ := h
  rw [handSpeed, if_neg hnew]
  cases hv : vehicleSpeed s with
  | none => simp [hv] at hfast
  | some v => exact congrArg judgeTone (if_pos (show 100 ≤ v by simpa [hv] using hfast))

theorem handSpeed_open (h : ¬SpeedCloses s.window old (vehicleSpeed s)) : handSpeed old s = s ∨ handSpeed old s = judgeTone s := by
  unfold handSpeed
  split
  · exact .inl rfl
  · next hnew =>
    split
    · next v hv =>
      refine .inr (congrArg judgeTone ?_)
      split
      · next hfast =>
        refine closeWindow_of_closed _ (Bool.eq_false_iff.2 fun hw => h ⟨hw, hnew, ?_⟩)
        rw [hv]
        exact hfast
      · rfl
    · exact .inr rfl

theorem handSpeed_kept (h : ¬SpeedCloses s.window old (vehicleSpeed s)) : OnlyChanges [.chimes] s (handSpeed old s) := by
  rcases handSpeed_open h with he | he <;> rw [he]
  · exact .refl _ _
  · exact judgeTone_frame s

theorem vehicleSpeed_handSpeed : vehicleSpeed (handSpeed old s) = vehicleSpeed s := by
  by_cases h : SpeedCloses s.window old (vehicleSpeed s)
  · rw [handSpeed_closing h, vehicleSpeed_congr (judgeTone_ge _), vehicleSpeed_closeWindow]
  · exact vehicleSpeed_congr ((handSpeed_kept h).ge (by decide))

theorem handSpeed_closed (h : SpeedCloses s.window old (vehicleSpeed s)) : (handSpeed old s).window = false ∧
    ∀ i, (handSpeed old s).ge.channels.get i = (s.ge.channels.get i).dropPending := by
  have hjudge := judgeTone_frame (closeWindow s)
  rw [handSpeed_closing h, hjudge.window (by decide), hjudge.ge (by decide), closeWindow, if_pos h.1]
  exact ⟨rfl, fun i => Tab.get_map ..⟩

end speed

/-! ### Events of a list of channels (R180) -/

section posted
variable (k : EventKind)

theorem foldl_post_events (l : List Nat) (s : State) (q : Port) : ((forEach (post k) l s).port q).events.get k.number =
    l.foldl (fun r n => r.posted n) ((s.port q).events.get k.number) := by
  induction l generalizing s with
  | nil => rfl
  | cons n l ih => rw [forEach_cons, ih, posted_post k n s q, List.foldl_cons]

theorem postAll_count (l : List Nat) (s : State) (q : Port) : (((postAll k l s).port q).events.get k.number).count =
    if ((s.port q).events.get k.number).level = 0 ∨ l = [] then ((s.port q).events.get k.number).count
    else min 255 (((s.port q).events.get k.number).count + l.length) := by
  have hnil : arrange s.choices l = [] ↔ l = [] :=
    ⟨fun h => ((h ▸ arrange_perm s.choices l).symm).eq_nil, fun h => by rw [h]; rfl⟩
  rw [postAll, inSomeOrder, foldl_post_events, foldl_posted_count, (arrange_perm _ l).length_eq]
  simp only [hnil, State.setChoices_port]

end posted

/-! ### The selection (R6 to R12) -/

section select
variable (concerned : Fin 8 → Bool) (change : Channel → Channel) (s : State)

/-- R6 to R9: a channel as a selection leaves it. -/
def reselected (i : Fin 8) : Channel :=
  if concerned i then (change (s.ge.channels.get i)).reselect (sourceLive s) else s.ge.channels.get i

/-- R6 to R9: the channels selected, before anyone is told. -/
def selectedOnly : State :=
  s.setGe { s.ge with channels := s.ge.channels.mapIdx fun i c => if concerned i then (change c).reselect (sourceLive s) else c }

/-- R11, R12: the channels selected, with their events. -/
def selectedTold : State :=
  postAll .gaugeSignalRestored ((channelsGained s.ge.channels (selectedOnly concerned change s).ge.channels).map (·.val))
    (postAll .gaugeNoSignal ((channelsLost s.ge.channels (selectedOnly concerned change s).ge.channels).map (·.val))
      (selectedOnly concerned change s))

theorem gaugeSelect_eq : gaugeSelect concerned change s = handSpeed (vehicleSpeed s) (selectedTold concerned change s) := rfl

@[simp] theorem selectedOnly_channel (i : Fin 8) :
    (selectedOnly concerned change s).ge.channels.get i = reselected concerned change s i := Tab.get_mapIdx ..

@[simp] theorem selectedTold_ge : (selectedTold concerned change s).ge = (selectedOnly concerned change s).ge := by
  rw [selectedTold, postAll_ge, postAll_ge]

@[simp] theorem selectedTold_window : (selectedTold concerned change s).window = s.window := by
  rw [selectedTold, (postAll_frame _ _ _).window (by decide), (postAll_frame _ _ _).window (by decide)]
  rfl

variable {s} in
/-- R15: the selection as the vehicle speed goes on from it. -/
theorem gaugeSelect_speed : vehicleSpeed (gaugeSelect concerned change s) = vehicleSpeed (selectedTold concerned change s) :=
  vehicleSpeed_handSpeed

/-- R176: the vehicle speed that a selection leaves closes the window. -/
def SelectCloses : Prop := SpeedCloses s.window (vehicleSpeed s) (vehicleSpeed (gaugeSelect concerned change s))

theorem selectCloses_iff : SelectCloses concerned change s ↔ SpeedCloses (selectedTold concerned change s).window (vehicleSpeed s)
    (vehicleSpeed (selectedTold concerned change s)) := by
  rw [SelectCloses, gaugeSelect_speed, selectedTold_window]

theorem gaugeSelect_get [Decidable (SelectCloses concerned change s)] (i : Fin 8) :
    (gaugeSelect concerned change s).ge.channels.get i =
      if SelectCloses concerned change s then (reselected concerned change s i).dropPending else reselected concerned change s i := by
  rw [gaugeSelect_eq]
  split
  · next h => rw [(handSpeed_closed ((selectCloses_iff ..).1 h)).2, selectedTold_ge, selectedOnly_channel]
  · next h => rw [(handSpeed_kept (mt (selectCloses_iff ..).2 h)).ge (by decide), selectedTold_ge, selectedOnly_channel]

theorem gaugeSelect_window : (gaugeSelect concerned change s).window = true ↔
    s.window = true ∧ ¬SelectCloses concerned change s := by
  rw [gaugeSelect_eq]
  by_cases h : SelectCloses concerned change s
  · rw [(handSpeed_closed ((selectCloses_iff ..).1 h)).1]
    simp [h]
  · rw [(handSpeed_kept (mt (selectCloses_iff ..).2 h)).window (by decide), selectedTold_window]
    simp [h]

/-- What a selection leaves of a channel but its pending curve. -/
theorem gaugeSelect_same (i : Fin 8) : { (gaugeSelect concerned change s).ge.channels.get i with pendingCurve := none } =
    { reselected concerned change s i with pendingCurve := none } := by
  classical
  rw [gaugeSelect_get]
  split <;> rfl

variable {concerned change s} in
theorem gaugeSelect_field {α : Type} (f : Channel → α) (hf : ∀ c : Channel, f c = f { c with pendingCurve := none }) (i : Fin 8) :
    f ((gaugeSelect concerned change s).ge.channels.get i) = f (reselected concerned change s i) := by
  rw [hf, gaugeSelect_same, ← hf]

/-! ### The events of a selection -/

/-- R11: a channel enters NO_SIGNAL. -/
def EntersNoSignal (i : Fin 8) : Prop := (s.ge.channels.get i).active ≠ none ∧ (reselected concerned change s i).active = none

/-- R12: a channel leaves NO_SIGNAL. -/
def LeavesNoSignal (i : Fin 8) : Prop := (s.ge.channels.get i).active = none ∧ (reselected concerned change s i).active ≠ none

theorem mem_channelsLost (i : Fin 8) : i ∈ channelsLost s.ge.channels (selectedOnly concerned change s).ge.channels ↔
    EntersNoSignal concerned change s i := by
  simp [channelsLost, EntersNoSignal, Channel.signal, Option.isSome_iff_ne_none]

theorem mem_channelsGained (i : Fin 8) : i ∈ channelsGained s.ge.channels (selectedOnly concerned change s).ge.channels ↔
    LeavesNoSignal concerned change s i := by
  simp [channelsGained, LeavesNoSignal, Channel.signal, Option.isSome_iff_ne_none]

theorem nodup_channelsLost (before after : Tab Channel 8) : (channelsLost before after).Nodup := (List.nodup_finRange 8).filter _

theorem nodup_channelsGained (before after : Tab Channel 8) : (channelsGained before after).Nodup := (List.nodup_finRange 8).filter _

theorem selectedOnly_quiet (k : EventKind) (q : Port) :
    ((selectedOnly concerned change s).port q).events.get k.number = (s.port q).events.get k.number := by
  rw [selectedOnly, State.setGe_port]

theorem gaugeSelect_noSignal (q : Port) : ((gaugeSelect concerned change s).port q).events.get EventKind.gaugeNoSignal.number =
    ((postAll .gaugeNoSignal ((channelsLost s.ge.channels (selectedOnly concerned change s).ge.channels).map (·.val))
      (selectedOnly concerned change s)).port q).events.get EventKind.gaugeNoSignal.number := by
  have htold : NotPosted .gaugeNoSignal (selectedTold concerned change s) (gaugeSelect concerned change s) :=
    .of_frame (handSpeed_frame _ _) (by decide)
  rw [htold q, selectedTold]
  exact (postAll_tells .gaugeSignalRestored _ fin8_le _).notPosted (by decide) q

theorem gaugeSelect_restored (t : State) (ht : t = postAll .gaugeNoSignal
      ((channelsLost s.ge.channels (selectedOnly concerned change s).ge.channels).map (·.val)) (selectedOnly concerned change s)) :
    NotPosted .gaugeSignalRestored s t ∧ NotPosted .gaugeSignalRestored
      (postAll .gaugeSignalRestored ((channelsGained s.ge.channels (selectedOnly concerned change s).ge.channels).map (·.val)) t)
      (gaugeSelect concerned change s) := by
  subst ht
  exact ⟨.trans (.of_frame (setGe_frame s _) (by decide)) ((postAll_tells .gaugeNoSignal _ fin8_le _).notPosted (by decide)),
    .of_frame (handSpeed_frame _ _) (by decide)⟩

variable {concerned change s}

theorem gaugeSelect_noneRestored (h : ∀ i, ¬LeavesNoSignal concerned change s i) :
    NotPosted .gaugeSignalRestored s (gaugeSelect concerned change s) := by
  obtain ⟨hbefore, hafter⟩ := gaugeSelect_restored concerned change s _ rfl
  have hnil : channelsGained s.ge.channels (selectedOnly concerned change s).ge.channels = [] :=
    List.eq_nil_iff_forall_not_mem.2 fun i hi => h i ((mem_channelsGained ..).1 hi)
  rw [hnil] at hafter
  exact hbefore.trans (.trans (notPosted_postAll_nil _ _) hafter)

theorem gaugeSelect_oneRestored {i : Fin 8} (hi : LeavesNoSignal concerned change s i)
    (honly : ∀ j, LeavesNoSignal concerned change s j → j = i) :
    Posted .gaugeSignalRestored i.val s (gaugeSelect concerned change s) := by
  obtain ⟨hbefore, hafter⟩ := gaugeSelect_restored concerned change s _ rfl
  have hone : channelsGained s.ge.channels (selectedOnly concerned change s).ge.channels = [i] := by
    refine List.perm_singleton.1 ((List.perm_ext_iff_of_nodup (nodup_channelsGained _ _) (List.nodup_singleton i)).2 fun j => ?_)
    rw [mem_channelsGained, List.mem_singleton]
    exact ⟨honly j, fun h => h ▸ hi⟩
  rw [hone] at hafter
  exact hbefore.trans_posted ((posted_postAll_one _ _ _).trans_notPosted hafter)

theorem gaugeSelect_noneLost (h : ∀ i, ¬EntersNoSignal concerned change s i) :
    NotPosted .gaugeNoSignal s (gaugeSelect concerned change s) := by
  have hnil : channelsLost s.ge.channels (selectedOnly concerned change s).ge.channels = [] :=
    List.eq_nil_iff_forall_not_mem.2 fun i hi => h i ((mem_channelsLost ..).1 hi)
  intro q
  rw [gaugeSelect_noSignal, hnil, List.map_nil, notPosted_postAll_nil, selectedOnly_quiet]

theorem gaugeSelect_oneLost {i : Fin 8} (hi : EntersNoSignal concerned change s i)
    (honly : ∀ j, EntersNoSignal concerned change s j → j = i) : Posted .gaugeNoSignal i.val s (gaugeSelect concerned change s) := by
  have hone : channelsLost s.ge.channels (selectedOnly concerned change s).ge.channels = [i] := by
    refine List.perm_singleton.1 ((List.perm_ext_iff_of_nodup (nodup_channelsLost _ _) (List.nodup_singleton i)).2 fun j => ?_)
    rw [mem_channelsLost, List.mem_singleton]
    exact ⟨honly j, fun h => h ▸ hi⟩
  intro q
  rw [gaugeSelect_noSignal, hone, List.map_singleton, posted_postAll_one, selectedOnly_quiet]

theorem gaugeSelect_lostCount {lost : List (Fin 8)} (hnodup : lost.Nodup) (hmem : ∀ i, i ∈ lost ↔ EntersNoSignal concerned change s i)
    (q : Port) : (((gaugeSelect concerned change s).port q).events.get EventKind.gaugeNoSignal.number).count =
      if ((s.port q).events.get EventKind.gaugeNoSignal.number).level = 0 ∨ lost = [] then
        ((s.port q).events.get EventKind.gaugeNoSignal.number).count
      else min 255 (((s.port q).events.get EventKind.gaugeNoSignal.number).count + lost.length) := by
  have hperm : (channelsLost s.ge.channels (selectedOnly concerned change s).ge.channels).Perm lost :=
    (List.perm_ext_iff_of_nodup (nodup_channelsLost _ _) hnodup).2 fun i => (mem_channelsLost ..).trans (hmem i).symm
  have hnil : channelsLost s.ge.channels (selectedOnly concerned change s).ge.channels = [] ↔ lost = [] :=
    ⟨fun h => (h ▸ hperm).symm.eq_nil, fun h => (h ▸ hperm).eq_nil⟩
  rw [gaugeSelect_noSignal, postAll_count, List.length_map, hperm.length_eq]
  simp only [List.map_eq_nil_iff, hnil]
  rfl

end select

/-! ### The lamps of a selection (R14) -/

section lamps
variable {concerned : Fin 8 → Bool} {change : Channel → Channel} {s : State}

theorem formGaugeAny_stored (lamps : List (Fin 48)) (s : State) (n : Fin 48) : ((formGaugeAny lamps s).lamps.get n).stored =
    if n ∈ lamps then { (s.lamps.get n).stored with gauge := gaugeContribution s.ge s.pwc.state n } else (s.lamps.get n).stored := by
  unfold formGaugeAny
  split
  · next h => rw [if_neg (by simp [h])]
  · rw [formGauge, lampUpdate_stored]
    by_cases hn : n ∈ lamps
    · rw [if_pos (by simpa using hn), if_pos hn]
      rfl
    · rw [if_neg (by simpa using hn), if_neg hn]

/-- R14: a lamp whose gauge contribution a selection forms again: one that a channel names that enters or leaves NO_SIGNAL. -/
theorem mem_lampsConcerned (n : Fin 48) : n ∈ lampsConcerned s.ge.channels (gaugeSelect concerned change s).ge.channels ↔
    ∃ i, (EntersNoSignal concerned change s i ∨ LeavesNoSignal concerned change s i) ∧
      (reselected concerned change s i).faultLamp = n := by
  have hactive (i : Fin 8) : ((gaugeSelect concerned change s).ge.channels.get i).active = (reselected concerned change s i).active :=
    gaugeSelect_field (·.active) (fun _ => rfl) i
  have hlamp (i : Fin 8) : ((gaugeSelect concerned change s).ge.channels.get i).faultLamp =
      (reselected concerned change s i).faultLamp := gaugeSelect_field (·.faultLamp) (fun _ => rfl) i
  simp [lampsConcerned, channelsLost, channelsGained, EntersNoSignal, LeavesNoSignal, Channel.signal, hactive, hlamp,
    Option.isSome_iff_ne_none, or_and_right, exists_or]

end lamps

end Sys2Proof.Machine
end

section
/-! SUPPORT. A value delivered by a source to the channels that list it (R6, R9, R12, R15). -/
namespace Sys2Proof.Machine

section deliver
variable {c : Channel} {a : Source} {v : Nat} {live : Source → Bool}

theorem Channel.select_primary (he : c.enabled = true) (h : live c.primary = true ∧ c.value c.primary ≠ none) :
    c.select live = some c.primary := by
  rw [Channel.select, if_pos he, if_pos (by simpa [Option.isSome_iff_ne_none] using h)]

theorem Channel.select_fallback (he : c.enabled = true) (h : ¬(live c.primary = true ∧ c.value c.primary ≠ none))
    (hf : c.fallback = some a) (ha : live a = true ∧ c.value a ≠ none) : c.select live = c.fallback := by
  rw [Channel.select, if_pos he, if_neg (by simpa [Option.isSome_iff_ne_none] using h), hf]
  exact if_pos (by simpa [Option.isSome_iff_ne_none] using ha)

theorem Channel.store_same (c : Channel) (a : Source) (v : Option Nat) :
    (c.store a v).enabled = c.enabled ∧ (c.store a v).primary = c.primary ∧ (c.store a v).fallback = c.fallback ∧
      (c.store a v).active = c.active ∧ (c.store a v).faultLamp = c.faultLamp := by
  cases a <;> exact ⟨rfl, rfl, rfl, rfl, rfl⟩

theorem Channel.store_rest (c : Channel) (a : Source) (v : Option Nat) (b : Option Source) :
    { ({ c.store a v with active := b } : Channel) with
      valueD := c.valueD, valueS := c.valueS, valueR := c.valueR, active := c.active } = c := by
  cases a <;> rfl

/-- R9: with a value from a LIVE source of its list an enabled channel has an active source. -/
theorem Channel.select_delivered (he : c.enabled = true) (ha : c.primary = a ∨ c.fallback = some a) (hlive : live a = true)
    [Decidable (live c.primary = true ∧ (c.store a (some v)).value c.primary ≠ none)] :
    (c.store a (some v)).select live =
      (if live c.primary = true ∧ (c.store a (some v)).value c.primary ≠ none then some c.primary else c.fallback) ∧
    (c.store a (some v)).select live ≠ none := by
  obtain ⟨henabled, hprimary, hfallback, -⟩ := c.store_same a (some v)
  have hvalue : (c.store a (some v)).value a ≠ none := by simp [Channel.store_value]
  by_cases h : live c.primary = true ∧ (c.store a (some v)).value c.primary ≠ none
  · have hselect : (c.store a (some v)).select live = some c.primary := hprimary ▸
      Channel.select_primary (henabled.trans he) (by rw [hprimary]; exact h)
    rw [hselect, if_pos h]
    exact ⟨rfl, by simp⟩
  · have hf : c.fallback = some a := ha.resolve_left fun hp => h ⟨by rw [hp]; exact hlive, by rw [hp]; exact hvalue⟩
    have hselect : (c.store a (some v)).select live = c.fallback := hfallback ▸
      Channel.select_fallback (henabled.trans he) (by rw [hprimary]; exact h) (hfallback.trans hf) ⟨hlive, hvalue⟩
    rw [hselect, if_neg h, hf]
    exact ⟨rfl, by simp⟩

/-- R12: a selection that finds a source keeps everything else of its channel. -/
theorem Channel.reselect_found (h : c.select live ≠ none) : c.reselect live = { c with active := c.select live } := by
  rw [Channel.reselect_eq, if_neg (fun hn => h hn.2)]

theorem Channel.reselect_delivered (he : c.enabled = true) (ha : c.primary = a ∨ c.fallback = some a) (hlive : live a = true) :
    (c.store a (some v)).reselect live = { c.store a (some v) with active := (c.store a (some v)).select live } := by
  classical
  exact Channel.reselect_found (Channel.select_delivered he ha hlive).2

end deliver

/-! ### The state after a delivery -/

section delivered
variable {concerned : Fin 8 → Bool} {a : Source} {v : Nat} {s : State}

theorem deliver_frame : OnlyChanges [.gauges, .lamps, .chimes, .events, .window] s (deliver concerned a v s) :=
  .after (formGaugeAny_frame _ _) (by decide) ((gaugeSelect_frame s _ _).mono (by decide))

theorem deliver_ge : (deliver concerned a v s).ge = (gaugeSelect concerned (Channel.store a (some v)) s).ge :=
  (formGaugeAny_frame _ _).ge (by decide)

theorem deliver_window : (deliver concerned a v s).window = (gaugeSelect concerned (Channel.store a (some v)) s).window :=
  (formGaugeAny_frame _ _).window (by decide)

theorem deliver_told {k : EventKind} (hk : k ≠ .chimeDropped) :
    NotPosted k (gaugeSelect concerned (Channel.store a (some v)) s) (deliver concerned a v s) :=
  (formGaugeAny_tells _ _).notPosted (by simpa using hk)

theorem deliver_stored (n : Fin 48) :
    ((deliver concerned a v s).lamps.get n).stored = if n ∈ lampsConcerned s.ge.channels (deliver concerned a v s).ge.channels then
      { (s.lamps.get n).stored with gauge := gaugeContribution (deliver concerned a v s).ge s.pwc.state n } else (s.lamps.get n).stored := by
  have hframe := gaugeSelect_frame s concerned (Channel.store a (some v))
  have hstored := formGaugeAny_stored (lampsConcerned s.ge.channels (gaugeSelect concerned (Channel.store a (some v)) s).ge.channels)
    (gaugeSelect concerned (Channel.store a (some v)) s) n
  rw [hframe.lamps (by decide), hframe.pwc (by decide)] at hstored
  rw [deliver_ge]
  exact hstored

/-- R12, R15: the channels to which a value goes list its source, which is LIVE. -/
def Delivers (concerned : Fin 8 → Bool) (a : Source) (s : State) : Prop :=
  sourceLive s a = true ∧ ∀ i, concerned i = true → (s.ge.channels.get i).enabled = true ∧
    ((s.ge.channels.get i).primary = a ∨ (s.ge.channels.get i).fallback = some a)

variable (h : Delivers concerned a s)
include h

theorem Delivers.reselected {i : Fin 8} (hi : concerned i = true) : reselected concerned (Channel.store a (some v)) s i =
    { (s.ge.channels.get i).store a (some v) with
      active := ((s.ge.channels.get i).store a (some v)).select (sourceLive s) } := by
  obtain ⟨hlive, hlists⟩ := h
  obtain ⟨he, ha⟩ := hlists i hi
  rw [Machine.reselected, if_pos hi, Channel.reselect_delivered he ha hlive]

theorem Delivers.active {i : Fin 8} (hi : concerned i = true) : (Machine.reselected concerned (Channel.store a (some v)) s i).active ≠ none := by
  classical
  obtain ⟨hlive, hlists⟩ := h
  obtain ⟨he, ha⟩ := hlists i hi
  rw [Delivers.reselected ⟨hlive, hlists⟩ hi]
  exact (Channel.select_delivered he ha hlive).2

theorem Delivers.noneLost (i : Fin 8) : ¬EntersNoSignal concerned (Channel.store a (some v)) s i := by
  rintro ⟨hbefore, hafter⟩
  by_cases hi : concerned i = true
  · exact h.active hi hafter
  · rw [Machine.reselected, if_neg hi] at hafter
    exact hbefore hafter

theorem Delivers.gains_iff (i : Fin 8) : LeavesNoSignal concerned (Channel.store a (some v)) s i ↔
    concerned i = true ∧ (s.ge.channels.get i).active = none := by
  constructor
  · rintro ⟨hbefore, hafter⟩
    by_cases hi : concerned i = true
    · exact ⟨hi, hbefore⟩
    · rw [Machine.reselected, if_neg hi] at hafter
      exact absurd hbefore hafter
  · exact fun ⟨hi, hn⟩ => ⟨hn, h.active hi⟩

theorem Delivers.faultLamp (i : Fin 8) :
    (Machine.reselected concerned (Channel.store a (some v)) s i).faultLamp = (s.ge.channels.get i).faultLamp := by
  by_cases hi : concerned i = true
  · rw [h.reselected hi]
    exact ((s.ge.channels.get i).store_same a (some v)).2.2.2.2
  · rw [Machine.reselected, if_neg hi]

theorem Delivers.mem_lamps (n : Fin 48) : n ∈ lampsConcerned s.ge.channels (deliver concerned a v s).ge.channels ↔
    ∃ i, concerned i = true ∧ (s.ge.channels.get i).active = none ∧ (s.ge.channels.get i).faultLamp = n := by
  rw [deliver_ge, mem_lampsConcerned]
  simp only [h.noneLost, false_or, h.gains_iff, h.faultLamp, and_assoc]

/-- R12: GAUGE_SIGNAL_RESTORED for the one channel that gains a signal. -/
theorem Delivers.restored {i : Fin 8} (hi : concerned i = true) (hn : (s.ge.channels.get i).active = none)
    (honly : ∀ j, concerned j = true → (s.ge.channels.get j).active = none → j = i) :
    Posted .gaugeSignalRestored i.val s (deliver concerned a v s) :=
  (gaugeSelect_oneRestored ((h.gains_iff i).2 ⟨hi, hn⟩) fun j hj => honly j ((h.gains_iff j).1 hj).1 ((h.gains_iff j).1 hj).2).trans_notPosted
    (deliver_told (by decide))

theorem Delivers.notRestored (hnone : ∀ i, concerned i = true → (s.ge.channels.get i).active ≠ none) :
    NotPosted .gaugeSignalRestored s (deliver concerned a v s) :=
  (gaugeSelect_noneRestored fun i hi => hnone i ((h.gains_iff i).1 hi).1 ((h.gains_iff i).1 hi).2).trans (deliver_told (by decide))

/-- R12: a delivery makes no event but GAUGE_SIGNAL_RESTORED. -/
theorem Delivers.quiet {k : EventKind} (hrestored : k ≠ .gaugeSignalRestored) (hdropped : k ≠ .chimeDropped) :
    NotPosted k s (deliver concerned a v s) := by
  refine .trans ?_ (deliver_told hdropped)
  by_cases hlost : k = .gaugeNoSignal
  · rw [hlost]
    exact gaugeSelect_noneLost h.noneLost
  · exact (gaugeSelect_tells _ _ _).notPosted (by simp [hrestored, hlost])

/-! ### The channels after a delivery -/

theorem Delivers.same {i : Fin 8} (hi : concerned i = true) : { (deliver concerned a v s).ge.channels.get i with pendingCurve := none } =
    { (s.ge.channels.get i).store a (some v) with
      active := ((s.ge.channels.get i).store a (some v)).select (sourceLive s), pendingCurve := none } := by
  rw [deliver_ge, gaugeSelect_same, h.reselected hi]

theorem Delivers.value {i : Fin 8} (hi : concerned i = true) (b : Source) :
    ((deliver concerned a v s).ge.channels.get i).value b = if b = a then some v else (s.ge.channels.get i).value b := by
  have hvalue (c : Channel) : c.value b = ({ c with pendingCurve := none } : Channel).value b := by cases b <;> rfl
  rw [hvalue, h.same hi, ← Channel.store_value]
  cases b <;> rfl

theorem Delivers.source {i : Fin 8} (hi : concerned i = true)
    [Decidable (sourceLive s (s.ge.channels.get i).primary = true ∧
      ((deliver concerned a v s).ge.channels.get i).value (s.ge.channels.get i).primary ≠ none)] :
    ((deliver concerned a v s).ge.channels.get i).active =
      if sourceLive s (s.ge.channels.get i).primary = true ∧
        ((deliver concerned a v s).ge.channels.get i).value (s.ge.channels.get i).primary ≠ none
      then some (s.ge.channels.get i).primary else (s.ge.channels.get i).fallback := by
  classical
  obtain ⟨hlive, hlists⟩ := h
  obtain ⟨he, ha⟩ := hlists i hi
  have hactive := congrArg Channel.active (Delivers.same (v := v) ⟨hlive, hlists⟩ hi)
  refine hactive.trans (((Channel.select_delivered he ha hlive).1).trans ?_)
  exact if_congr (by rw [Delivers.value ⟨hlive, hlists⟩ hi, Channel.store_value]) rfl rfl

theorem Delivers.rest {i : Fin 8} (hi : concerned i = true) : { (deliver concerned a v s).ge.channels.get i with
    valueD := (s.ge.channels.get i).valueD, valueS := (s.ge.channels.get i).valueS, valueR := (s.ge.channels.get i).valueR
    active := (s.ge.channels.get i).active, pendingCurve := (s.ge.channels.get i).pendingCurve } = s.ge.channels.get i := by
  have hrest := congrArg (fun c : Channel => { c with
    valueD := (s.ge.channels.get i).valueD, valueS := (s.ge.channels.get i).valueS, valueR := (s.ge.channels.get i).valueR
    active := (s.ge.channels.get i).active, pendingCurve := (s.ge.channels.get i).pendingCurve }) (h.same (v := v) hi)
  refine hrest.trans ?_
  cases a <;> rfl

theorem Delivers.active_ne {i : Fin 8} (hi : concerned i = true) : ((deliver concerned a v s).ge.channels.get i).active ≠ none := by
  rw [deliver_ge, gaugeSelect_field (·.active) (fun _ => rfl)]
  exact h.active hi

omit h in
theorem deliver_other {i : Fin 8} (hi : concerned i = false) :
    { (deliver concerned a v s).ge.channels.get i with pendingCurve := (s.ge.channels.get i).pendingCurve } = s.ge.channels.get i := by
  have hother : reselected concerned (Channel.store a (some v)) s i = s.ge.channels.get i := by
    rw [reselected, if_neg (by simp [hi])]
  have hsame := gaugeSelect_same concerned (Channel.store a (some v)) s i
  rw [hother, ← deliver_ge] at hsame
  exact congrArg (fun c : Channel => { c with pendingCurve := (s.ge.channels.get i).pendingCurve }) hsame

omit h in
theorem deliver_closes : SelectCloses concerned (Channel.store a (some v)) s ↔
    SpeedCloses s.window (vehicleSpeed s) (vehicleSpeed (deliver concerned a v s)) := by
  rw [SelectCloses, vehicleSpeed_congr deliver_ge]

omit h in
/-- R176: the pending curves after a delivery. -/
theorem deliver_pending (i : Fin 8) [Decidable (SpeedCloses s.window (vehicleSpeed s) (vehicleSpeed (deliver concerned a v s)))] :
    ((deliver concerned a v s).ge.channels.get i).pendingCurve =
      if SpeedCloses s.window (vehicleSpeed s) (vehicleSpeed (deliver concerned a v s)) then none
      else (s.ge.channels.get i).pendingCurve := by
  classical
  have hkept : (reselected concerned (Channel.store a (some v)) s i).pendingCurve = (s.ge.channels.get i).pendingCurve := by
    rw [reselected]
    split
    · rw [Channel.reselect_eq]
      cases a <;> split <;> rfl
    · rfl
  rw [deliver_ge, gaugeSelect_get]
  by_cases hc : SelectCloses concerned (Channel.store a (some v)) s
  · rw [if_pos hc, if_pos (deliver_closes.1 hc)]
    rfl
  · rw [if_neg hc, if_neg (mt deliver_closes.2 hc), hkept]

omit h in
/-- R176: the window after a delivery. -/
theorem deliver_window_iff : (deliver concerned a v s).window = true ↔
    s.window = true ∧ ¬SpeedCloses s.window (vehicleSpeed s) (vehicleSpeed (deliver concerned a v s)) := by
  rw [deliver_window, gaugeSelect_window, deliver_closes]

/-! ### The lamps after a delivery (R14) -/

/-- R12, R14: the fault lamp of a channel that gains a signal has its gauge contribution formed again. -/
theorem Delivers.gauge {i : Fin 8} (hi : concerned i = true) (hn : (s.ge.channels.get i).active = none) :
    ((deliver concerned a v s).lamps.get (s.ge.channels.get i).faultLamp).gauge =
      gaugeContribution (deliver concerned a v s).ge s.pwc.state (s.ge.channels.get i).faultLamp := by
  have hstored := deliver_stored (concerned := concerned) (a := a) (v := v) (s := s) (s.ge.channels.get i).faultLamp
  rw [if_pos ((h.mem_lamps _).2 ⟨i, hi, hn, rfl⟩)] at hstored
  exact congrArg Lamp.gauge hstored

theorem Delivers.stored {n : Fin 48}
    (hn : ∀ i, concerned i = true → (s.ge.channels.get i).active = none → (s.ge.channels.get i).faultLamp ≠ n) :
    ((deliver concerned a v s).lamps.get n).stored = (s.lamps.get n).stored := by
  rw [deliver_stored, if_neg]
  intro hmem
  obtain ⟨i, hi, hnone, hlamp⟩ := (h.mem_lamps n).1 hmem
  exact hn i hi hnone hlamp

omit h in
theorem deliver_stored_but_gauge (n : Fin 48) : { ((deliver concerned a v s).lamps.get n).stored with gauge := none } =
    { (s.lamps.get n).stored with gauge := none } := by
  rw [deliver_stored]
  split <;> rfl

end delivered

end Sys2Proof.Machine
end

section
/-! CERTIFICATE. SET_VALUE (R19). -/
namespace Sys2Proof.Machine

theorem exec_setValue (p : Port) (ch : Byte) (v : BitVec 16) (s : State) :
    exec (.setValue p ch v) s = .next (takenFrame p 0x10 (setValueReply p ch v) s) := rfl

section reply
variable {p : Port} {ch : Byte} {v : BitVec 16} {s : State} {i : Fin 8} (hi : ch.toNat = i.val)
include hi

theorem setValueReply_disabled (he : (s.ge.channels.get i).enabled = false) : setValueReply p ch v s = refuse .notPermitted s := by
  rw [setValueReply, indexOf_eq_some hi]
  exact if_pos (by simp [he])

theorem setValueReply_notSource (he : (s.ge.channels.get i).enabled = true)
    (hl : (s.ge.channels.get i).lists (portSource p) = false) : setValueReply p ch v s = refuse .notSource s := by
  rw [setValueReply, indexOf_eq_some hi]
  exact (if_neg (by simp [he])).trans (if_pos (by simp [hl]))

theorem setValueReply_good (he : (s.ge.channels.get i).enabled = true) (hl : (s.ge.channels.get i).lists (portSource p) = true) :
    setValueReply p ch v s = accept (valueData i (portSource p)
      ((deliver (fun j => j = i) (portSource p) v.toNat s).ge.channels.get i)) (deliver (fun j => j = i) (portSource p) v.toNat s) := by
  rw [setValueReply, indexOf_eq_some hi]
  exact (if_neg (by simp [he])).trans (if_neg (by simp [hl]))

end reply

theorem Channel.lists_iff {c : Channel} {a : Source} : c.lists a = true ↔ c.primary = a ∨ c.fallback = some a := by
  rw [Channel.lists, Bool.or_eq_true, decide_eq_true_iff, decide_eq_true_iff]

theorem sourceLive_beginFrame (p : Port) (s : State) : sourceLive (beginFrame p s) (portSource p) = true := by
  have hlive := (beginFrame_port p p s).1
  cases p <;> simpa [sourceLive, portSource, State.port] using hlive

/-- Settles O12: the one channel that the value goes to by `Channel.select_delivered`, the others and the window by
`gaugeSelect_get`, and the lamps by `deliver_stored`. -/
theorem setValueStoresAndSelects : Obligations.SetValueStoresAndSelects := by
  intro p ch v s hout
  refine ⟨fun h => refuses_of_takenFrame (exec_setValue ..) hout ?_, fun i hi => ?_⟩
  · rw [setValueReply, indexOf_eq_none (by omega)]
  intro c
  have hge : (beginFrame p s).ge = s.ge := beginFrame_ge ..
  refine ⟨fun he => refuses_of_takenFrame (exec_setValue ..) hout (setValueReply_disabled hi (by rw [hge]; exact he)),
    fun he hp hf => refuses_of_takenFrame (exec_setValue ..) hout (setValueReply_notSource hi (by rw [hge]; exact he)
      (by rw [hge]; exact Bool.eq_false_iff.2 fun h => (Channel.lists_iff.1 h).elim hp hf)), fun he hl => ?_⟩
  have hdelivers : Delivers (fun j => decide (j = i)) (portSource p) (beginFrame p s) := by
    refine ⟨sourceLive_beginFrame p s, fun j hj => ?_⟩
    rw [of_decide_eq_true hj, hge]
    exact ⟨he, hl⟩
  have hself : decide (i = i) = true := decide_eq_true rfl
  have hother {j : Fin 8} (hj : j ≠ i) : decide (j = i) = false := decide_eq_false hj
  have hanswers := answers_of_takenFrame (exec_setValue p ch v s) hout (setValueReply_good hi (by rw [hge]; exact he)
    (by rw [hge]; exact Channel.lists_iff.2 hl))
  have hcloses : SpeedCloses (beginFrame p s).window (vehicleSpeed (beginFrame p s))
      (vehicleSpeed (deliver (fun j => decide (j = i)) (portSource p) v.toNat (beginFrame p s))) ↔ s.window = true ∧
        vehicleSpeed (deliver (fun j => decide (j = i)) (portSource p) v.toNat (beginFrame p s)) ≠ vehicleSpeed s ∧
        100 ≤ (vehicleSpeed (deliver (fun j => decide (j = i)) (portSource p) v.toNat (beginFrame p s))).getD 0 := by
    rw [SpeedCloses, beginFrame_window, vehicleSpeed_beginFrame]
  have hvalue := hdelivers.value (v := v.toNat) hself
  have hactive := hdelivers.source (v := v.toNat) hself
  have hrest := hdelivers.rest (v := v.toNat) hself
  have hrestored := hdelivers.restored (v := v.toNat) hself
  have hstored (n : Fin 48) (hn : n ≠ c.faultLamp ∨ c.active ≠ none) := hdelivers.stored (v := v.toNat) (n := n) fun j hj => by
    rw [of_decide_eq_true hj, hge]
    exact fun hnone hlamp => hn.elim (fun h => h hlamp.symm) (fun h => h hnone)
  rw [hge] at hvalue hactive hrest hrestored
  refine ⟨deliver (fun j => decide (j = i)) (portSource p) v.toNat (beginFrame p s), ?_⟩
  intro b a closes
  have ha : a = (deliver (fun j => decide (j = i)) (portSource p) v.toNat (beginFrame p s)).ge.channels.get i := rfl
  refine ⟨?_, ?_, fun q hq => ?_, ?_, ?_, fun j hj => ?_, fun j => ?_, ?_, fun hnone => ⟨?_, ?_⟩, fun hsome => ⟨?_, ?_⟩,
    fun n hn => hstored n (.inl hn), deliver_stored_but_gauge _, fun k hr hd => hdelivers.quiet hr hd, deliver_frame⟩
  · have hsignal : a.signal = true := Option.isSome_iff_ne_none.2 (hdelivers.active_ne hself)
    have hstate : a.state = c.state := by
      have h := congrArg Channel.state hrest
      exact h
    have hdata : valueData i (portSource p) a = [ch, if a.active = some (portSource p) then 1 else 0, 1, byteOf c.state.code] := by
      rw [valueData, byteOf_of_eq hi, bitByte_eq, bitByte_eq, hsignal, hstate]
      simp only [decide_eq_true_iff, if_true]
    rw [← hdata]
    exact hanswers
  · exact (hvalue _).trans (if_pos rfl)
  · exact (hvalue _).trans (if_neg hq)
  · exact hactive
  · exact hrest
  · have hsame := deliver_other (concerned := fun j => decide (j = i)) (a := portSource p) (v := v.toNat) (s := beginFrame p s) (hother hj)
    rw [hge] at hsame
    exact hsame
  · classical
    rw [deliver_pending, hge]
    exact if_congr hcloses rfl rfl
  · rw [deliver_window_iff, hcloses, beginFrame_window]
  · exact hrestored hnone fun j hj _ => of_decide_eq_true hj
  · have hgauge := hdelivers.gauge (v := v.toNat) hself (by rw [hge]; exact hnone)
    rw [hge, beginFrame_pwc] at hgauge
    exact hgauge
  · exact hdelivers.notRestored fun j hj => by rw [of_decide_eq_true hj, hge]; exact hsome
  · exact Lamp.eq_of_stored (·.gauge) (fun _ => rfl) (hstored _ (.inr hsome))

end Sys2Proof.Machine
end

section
/-! SUPPORT. The queue of the chimes by their origin (R85 to R89), and what a valid recorder frame leaves (R117, R119). -/
namespace Sys2Proof.Machine

/-! ### The chimes queued for an origin -/

/-- R85 to R88: an operation queues no chime of an origin. -/
def QueuesNone (r : Origin) (s t : State) : Prop := ∀ c ∈ t.cu.queue, c.origin = r → c ∈ s.cu.queue

section queue
variable {r : Origin} {s t u : State}

theorem QueuesNone.refl (r : Origin) (s : State) : QueuesNone r s s := fun _ h _ => h

theorem QueuesNone.trans (h : QueuesNone r s t) (h' : QueuesNone r t u) : QueuesNone r s u := fun c hc ho => h c (h' c hc ho) ho

theorem QueuesNone.of_queue (h : t.cu.queue = s.cu.queue) : QueuesNone r s t := fun _ hc _ => h ▸ hc

theorem QueuesNone.of_frame {W : List Block} (h : OnlyChanges W s t) (hc : .chimes ∉ W) : QueuesNone r s t :=
  .of_queue (congrArg ChimeUnit.queue (h.cu hc))

theorem startHead_mem {u : ChimeUnit} {c : Chime} (h : c ∈ u.startHead.queue) : c ∈ u.queue := by
  unfold ChimeUnit.startHead at h
  split at h
  · next hq =>
    rw [hq]
    exact List.mem_cons_of_mem _ h
  · exact h

/-- R86, R87: a request leaves the chimes as they are, or places its entry among some of them. -/
theorem request_cases (u : ChimeUnit) (d : Sound) (n : Nat) (r : Origin) :
    ((u.request d n r).1 = u ∧ ((∃ c ∈ u.queue, c.sound = d ∧ c.origin = r) ∨ 8 ≤ u.queue.length)) ∨
      ∃ q, q ⊆ u.queue ∧ (u.request d n r).1 = ({ u with queue := q } : ChimeUnit).place d n r := by
  unfold ChimeUnit.request
  split
  · next h => exact .inl ⟨rfl, .inl (by simpa using h)⟩
  · split
    · exact .inr ⟨u.queue, fun _ h => h, rfl⟩
    · next hlen =>
      have hfull : 8 ≤ u.queue.length := by omega
      split
      · split
        · exact .inr ⟨_, List.erase_subset, rfl⟩
        · exact .inl ⟨rfl, .inr hfull⟩
      · exact .inl ⟨rfl, .inr hfull⟩

theorem request_mem {u : ChimeUnit} {d : Sound} {n : Nat} {c : Chime} (h : c ∈ (u.request d n r).1.queue) :
    c ∈ u.queue ∨ c.origin = r := by
  rcases request_cases u d n r with ⟨he, -⟩ | ⟨q, hq, he⟩
  · exact .inl (he ▸ h)
  · rw [he] at h
    rcases List.mem_cons.1 ((placeChime_perm _ _).mem_iff.1 (startHead_mem h)) with rfl | hc
    · exact .inr rfl
    · exact .inl (hq hc)

theorem startHead_holds {u : ChimeUnit} {c : Chime} (h : c ∈ u.queue) :
    c ∈ u.startHead.queue ∨ ∃ q ∈ u.startHead.playing, q.chime = c := by
  unfold ChimeUnit.startHead
  split
  · next hq =>
    rw [hq] at h
    rcases List.mem_cons.1 h with rfl | h
    · exact .inr ⟨_, rfl, rfl⟩
    · exact .inl h
  · exact .inl h

/-- R86, R87: a chime requested in the ignition cycle is queued or in play, or the queue is full. -/
theorem chimes_request (h : inCycle s = true) (d : Sound) (n : Nat) (r : Origin) : Chimes d r (requestFor d n r s) := by
  have hcu : (requestFor d n r s).cu = (s.cu.request d n r).1 := chimeRequest_cu h d n r
  rw [Chimes, hcu]
  rcases request_cases s.cu d n r with ⟨he, hheld⟩ | ⟨q, -, he⟩
  · rw [he]
    exact hheld.imp_right .inr
  · rw [he]
    have hplaced := (placeChime_perm { sound := d, priority := n, origin := r, arrival := s.cu.arrivals + 1 } q).mem_iff.2
      List.mem_cons_self
    rcases startHead_holds (u := { s.cu with queue := placeChime { sound := d, priority := n, origin := r, arrival := s.cu.arrivals + 1 } q, arrivals := s.cu.arrivals + 1 }) hplaced with h | ⟨c, hc, hsame⟩
    · exact .inl ⟨_, h, rfl, rfl⟩
    · exact .inr (.inl ⟨c, hc, by rw [hsame], by rw [hsame]⟩)

theorem requestAll_mem (order : List (Fin 48)) {u : ChimeUnit} {c : Chime} (h : c ∈ (requestAll order u).queue) :
    c ∈ u.queue ∨ ∃ n, c.origin = .lamp n := by
  induction order generalizing u with
  | nil => exact .inl h
  | cons n order ih =>
    rcases ih h with h | h
    · exact (request_mem h).imp_right fun ho => ⟨n, ho⟩
    · exact .inr h

/-- R63: an update of the lamp table queues chimes of lamps alone. -/
theorem queuesNone_lampUpdate (hr : ∀ n, r ≠ .lamp n) (change : Fin 48 → Lamp → Lamp) (s : State) :
    QueuesNone r s (lampUpdate change s) := by
  intro c hc ho
  have hqueue := congrArg ChimeUnit.queue (lampUpdate_chimes change s)
  dsimp only at hqueue
  rw [hqueue] at hc
  split at hc
  · exact (requestAll_mem _ hc).resolve_right fun ⟨n, hn⟩ => hr n (ho ▸ hn)
  · exact hc

theorem queuesNone_formGaugeAny (hr : ∀ n, r ≠ .lamp n) (lamps : List (Fin 48)) (s : State) : QueuesNone r s (formGaugeAny lamps s) := by
  unfold formGaugeAny
  split
  · exact .refl r s
  · exact queuesNone_lampUpdate hr _ s

theorem queuesNone_handSpeed (old : Option Nat) (s : State) : QueuesNone r s (handSpeed old s) := by
  by_cases h : SpeedCloses s.window old (vehicleSpeed s)
  · rw [handSpeed_closing h]
    exact (QueuesNone.of_frame (closeWindow_frame s) (by decide)).trans (.of_queue rfl)
  · rcases handSpeed_open h with he | he <;> rw [he]
    · exact .refl r s
    · exact .of_queue rfl

theorem queuesNone_deliver (hr : ∀ n, r ≠ .lamp n) (concerned : Fin 8 → Bool) (a : Source) (v : Nat) (s : State) :
    QueuesNone r s (deliver concerned a v s) := by
  have htold : OnlyChanges [.gauges, .events] s (selectedTold concerned (Channel.store a (some v)) s) :=
    .after (postAll_frame _ _ _) (by decide) (.after (postAll_frame _ _ _) (by decide) ((setGe_frame s _).mono (by decide)))
  have hselect : QueuesNone r s (gaugeSelect concerned (Channel.store a (some v)) s) := by
    rw [gaugeSelect_eq]
    exact (QueuesNone.of_frame htold (by decide)).trans (queuesNone_handSpeed _ _)
  exact hselect.trans (queuesNone_formGaugeAny hr _ _)

end queue

/-! ### A valid frame (R117, R119) -/

section taken
variable (s : State)

theorem linkTaken_of_live (h : s.rlu.live = true) : OnlyChanges [.recorder] s (linkTaken s) := by
  have hreturn : returnLink (setAssembly .hunt s) = setAssembly .hunt s := if_pos h
  rw [linkTaken, hreturn]
  exact .after (setRlu_frame _ _) (by decide) ((setRlu_frame s _).mono (by decide))

/-- R119: the link returned, before the loss contributions are formed again. -/
def linkFound : State := post .sourceRestored Source.recorder.code
  ((setAssembly .hunt s).setRlu { (setAssembly .hunt s).rlu with live := true })

theorem linkTaken_of_lost (h : s.rlu.live = false) : linkTaken s = restartLink (reformLoss (linkFound s)) := by
  have hlost : ¬(setAssembly .hunt s).rlu.live = true := by simp [setAssembly, h]
  rw [linkTaken, returnLink, if_neg hlost]
  rfl

theorem linkFound_frame : OnlyChanges [.recorder, .events] s (linkFound s) :=
  .after (post_frame _ _ _) (by decide) (.after (setRlu_frame _ _) (by decide) ((setRlu_frame s _).mono (by decide)))

theorem restartLink_frame : OnlyChanges [.recorder] s (restartLink s) := setRlu_frame s _

/-- R119: the contributions that a valid frame leaves: the loss contributions alone are formed again. -/
theorem linkTaken_stored (n : Fin 48) :
    { ((linkTaken s).lamps.get n).stored with loss := (s.lamps.get n).loss } = (s.lamps.get n).stored := by
  cases h : s.rlu.live
  · have hrestart := restartLink_frame (reformLoss (linkFound s))
    have hstored := reformLoss_stored (linkFound s) n
    rw [linkTaken_of_lost s h, hrestart.lamps (by decide)]
    rwa [(linkFound_frame s).lamps (by decide)] at hstored
  · rw [(linkTaken_of_live s h).lamps (by decide)]
    rfl

theorem queuesNone_linkTaken {r : Origin} (hr : ∀ n, r ≠ .lamp n) : QueuesNone r s (linkTaken s) := by
  cases h : s.rlu.live
  · rw [linkTaken_of_lost s h]
    exact (QueuesNone.of_frame (linkFound_frame s) (by decide)).trans
      ((queuesNone_lampUpdate hr _ _).trans (.of_frame (restartLink_frame _) (by decide)))
  · exact .of_frame (linkTaken_of_live s h) (by decide)

end taken

end Sys2Proof.Machine
end

section
/-! CERTIFICATE. The SPEED frame (R120, R121). -/
namespace Sys2Proof.Machine

/-- R120: the channels that list RECORDER. -/
def listsRecorder (s : State) (i : Fin 8) : Bool := (s.ge.channels.get i).enabled && (s.ge.channels.get i).lists .recorder

theorem listsRecorder_iff (s : State) (i : Fin 8) : listsRecorder s i = true ↔
    (s.ge.channels.get i).enabled = true ∧
      ((s.ge.channels.get i).primary = .recorder ∨ (s.ge.channels.get i).fallback = some .recorder) := by
  rw [listsRecorder, Bool.and_eq_true, Channel.lists_iff]

section speed
variable (speed : Nat) (overspeed motion : Bool) (s : State)

/-- R120: the speed in its channels and in the vehicle record. -/
def speedKept : State := modifyVehicle (fun v => { v with speed, overspeed, motion, heldSpeed := false })
  (deliver (listsRecorder s) .recorder speed s)

theorem speedContents_eq : speedContents speed overspeed motion s =
    overspeedContents overspeed s.rlu.vehicle.overspeed (speedKept speed overspeed motion s) := rfl

variable {s}

theorem overspeedContents_frame (fast before : Bool) : OnlyChanges [.lamps, .chimes, .events] s (overspeedContents fast before s) := by
  unfold overspeedContents
  dsimp only
  split
  · exact .after (chimeRequest_frame _ _ _ _) (by decide) (lampUpdate_frame _ _)
  · exact lampUpdate_frame _ _

theorem overspeedContents_tells (fast before : Bool) : Tells [.chimeDropped] s (overspeedContents fast before s) := by
  unfold overspeedContents
  dsimp only
  split
  · exact .after (chimeRequest_tells _ _ _ _) (by decide) (lampUpdate_tells _ _)
  · exact lampUpdate_tells _ _

theorem overspeedContents_stored (fast before : Bool) (n : Fin 48) : ((overspeedContents fast before s).lamps.get n).stored =
    if n = 4 then { (s.lamps.get n).stored with recorder := some (if fast then .on else .off) } else (s.lamps.get n).stored := by
  have hlamps : (overspeedContents fast before s).lamps = (handRecorder 4 (if fast then .on else .off) s).lamps := by
    unfold overspeedContents
    dsimp only
    split
    · exact (chimeRequest_frame _ _ _ _).lamps (by decide)
    · rfl
  rw [hlamps, handRecorder, lampUpdate_stored]
  split <;> rfl

theorem inCycle_handRecorder (n : Fin 48) (v : LampState) : inCycle (handRecorder n v s) = inCycle s := by
  have hpwc : (handRecorder n v s).pwc = s.pwc := (lampUpdate_frame s _).pwc (by decide)
  rw [inCycle, hpwc]
  rfl

theorem overspeedContents_queues {fast before : Bool} (h : inCycle s = false ∨ fast = false ∨ before = true) :
    QueuesNone .recorder s (overspeedContents fast before s) := by
  have hhand (v : LampState) : QueuesNone .recorder s (handRecorder 4 v s) := queuesNone_lampUpdate (by simp) _ s
  unfold overspeedContents
  dsimp only
  split
  · next hrises =>
    have hcycle : inCycle s = false := h.resolve_right fun h => by simp_all
    refine (hhand (if fast = true then .on else .off)).trans (.of_queue ?_)
    rw [requestFor, chimeRequest, if_neg (by simp [inCycle_handRecorder, hcycle])]
  · exact hhand _

theorem overspeedContents_chimes (hcycle : inCycle s = true) : Chimes .single .recorder (overspeedContents true false s) := by
  exact chimes_request (by rw [inCycle_handRecorder, hcycle]) _ _ _

end speed

section contents
variable (speed : Nat) (overspeed motion : Bool) (s : State)

theorem speedContents_frame : OnlyChanges [.recorder, .lamps, .chimes, .events]
    (deliver (listsRecorder s) .recorder speed s) (speedContents speed overspeed motion s) :=
  .after (overspeedContents_frame _ _) (by decide) ((setRlu_frame _ _).mono (by decide))

theorem speedContents_rlu : (speedContents speed overspeed motion s).rlu =
    { s.rlu with vehicle := { s.rlu.vehicle with speed, overspeed, motion, heldSpeed := false } } := by
  have hrlu : (deliver (listsRecorder s) .recorder speed s).rlu = s.rlu := deliver_frame.rlu (by decide)
  rw [speedContents_eq, (overspeedContents_frame _ _).rlu (by decide), speedKept, modifyVehicle, hrlu]
  rfl

theorem speedContents_stored (n : Fin 48) : ((speedContents speed overspeed motion s).lamps.get n).stored =
    if n = 4 then
      { ((deliver (listsRecorder s) .recorder speed s).lamps.get n).stored with recorder := some (if overspeed then .on else .off) }
    else ((deliver (listsRecorder s) .recorder speed s).lamps.get n).stored := overspeedContents_stored ..

variable {speed overspeed motion s}

theorem speedContents_told {k : EventKind} (hk : k ≠ .chimeDropped) :
    NotPosted k (deliver (listsRecorder s) .recorder speed s) (speedContents speed overspeed motion s) :=
  NotPosted.trans (.of_frame (setRlu_frame _ _) (by decide)) ((overspeedContents_tells _ _).notPosted (by simpa using hk))

theorem speedContents_gauge (n : Fin 48) : ((speedContents speed overspeed motion s).lamps.get n).gauge =
    ((deliver (listsRecorder s) .recorder speed s).lamps.get n).gauge := by
  have hgauge := congrArg Lamp.gauge (speedContents_stored speed overspeed motion s n)
  refine hgauge.trans ?_
  split <;> rfl

theorem speedContents_sources : sourceLive (speedContents speed overspeed motion s) = sourceLive s := by
  have hframe := (speedContents_frame speed overspeed motion s)
  have hdeliver := deliver_frame (concerned := listsRecorder s) (a := .recorder) (v := speed) (s := s)
  refine sourceLive_congr (fun q => (hframe.live q (by decide)).trans (hdeliver.live q (by decide))) ?_
  rw [speedContents_rlu]

theorem inCycle_speedKept : inCycle (speedKept speed overspeed motion s) = inCycle s := by
  have hkept := setRlu_frame (deliver (listsRecorder s) .recorder speed s)
    { (deliver (listsRecorder s) .recorder speed s).rlu with
      vehicle := { (deliver (listsRecorder s) .recorder speed s).rlu.vehicle with speed, overspeed, motion, heldSpeed := false } }
  have hpwc : (speedKept speed overspeed motion s).pwc = s.pwc := (hkept.pwc (by decide)).trans (deliver_frame.pwc (by decide))
  rw [inCycle, hpwc]
  rfl

theorem speedContents_queues (h : inCycle s = false ∨ overspeed = false ∨ s.rlu.vehicle.overspeed = true) :
    QueuesNone .recorder s (speedContents speed overspeed motion s) := by
  have hkept : QueuesNone .recorder (deliver (listsRecorder s) .recorder speed s) (speedKept speed overspeed motion s) :=
    .of_queue rfl
  refine (queuesNone_deliver (by simp) _ _ _ s).trans (hkept.trans (overspeedContents_queues ?_))
  rwa [inCycle_speedKept]

theorem speedContents_chimes (hcycle : inCycle s = true) (hbefore : s.rlu.vehicle.overspeed = false) :
    Chimes .single .recorder (speedContents speed true motion s) := by
  rw [speedContents_eq, hbefore]
  exact overspeedContents_chimes (by rw [inCycle_speedKept, hcycle])

end contents

theorem exec_speedFrame {s : State} (hout : isOut s = true) (speed : BitVec 16) (overspeed motion : Bool) :
    exec (.speedFrame speed overspeed motion) s = .next (speedContents speed.toNat overspeed motion (linkTaken s)) :=
  congrArg Host.Outcome.next (whenOut_of_isOut hout)

/-- Settles O40: the channels, the window and the gauge contributions by the delivery of the speed, L4 and the chime by
`overspeedContents`. -/
theorem speedFrameReachesOwners : Obligations.SpeedFrameReachesOwners := by
  intro speed overspeed motion s hout
  refine ⟨_, exec_speedFrame hout speed overspeed motion, ?_⟩
  have htaken := linkTaken_frame s
  have hlive := linkTaken_live s
  have hge : (linkTaken s).ge = s.ge := htaken.ge (by decide)
  have hpwc : (linkTaken s).pwc = s.pwc := htaken.pwc (by decide)
  have hwindow : (linkTaken s).window = s.window := htaken.window (by decide)
  have hspeed : vehicleSpeed (linkTaken s) = vehicleSpeed s := vehicleSpeed_congr hge
  have hvehicle : (linkTaken s).rlu.vehicle = s.rlu.vehicle := by rw [linkTaken_rlu]
  have hquiet {k : EventKind} (hr : k ≠ .sourceRestored) (hd : k ≠ .chimeDropped) : NotPosted k s (linkTaken s) :=
    (linkTaken_tells s).notPosted (by simp [hr, hd])
  have hstored (n : Fin 48) := linkTaken_stored s n
  have hqueues : QueuesNone .recorder s (linkTaken s) := queuesNone_linkTaken s (by simp)
  have hcycle : inCycle (linkTaken s) = inCycle s := by
    rw [inCycle, hpwc]
    rfl
  generalize linkTaken s = u at *
  intro lists gains closes
  have hlists (i : Fin 8) : listsRecorder u i = true ↔ lists (s.ge.channels.get i) := by
    rw [listsRecorder_iff, hge]
  have hnotLists {i : Fin 8} (h : ¬lists (s.ge.channels.get i)) : listsRecorder u i = false :=
    Bool.eq_false_iff.2 (mt (hlists i).1 h)
  have hgains {i : Fin 8} (hi : listsRecorder u i = true) (hn : (u.ge.channels.get i).active = none) : gains i :=
    ⟨(hlists i).1 hi, by rwa [hge] at hn⟩
  have hdelivers : Delivers (listsRecorder u) .recorder u := ⟨hlive, fun i hi => (listsRecorder_iff _ i).1 hi⟩
  have hcontents := speedContents_frame speed.toNat overspeed motion u
  have htge := hcontents.ge (by decide)
  have hcloses : closes ↔ SpeedCloses u.window (vehicleSpeed u)
      (vehicleSpeed (deliver (listsRecorder u) .recorder speed.toNat u)) := by
    rw [SpeedCloses, hwindow, hspeed, ← vehicleSpeed_congr htge]
  have htold {k : EventKind} (hk : k ≠ .chimeDropped) := speedContents_told (s := u) (speed := speed.toNat) (overspeed := overspeed)
    (motion := motion) hk
  have hgauge (n : Fin 48) : (u.lamps.get n).gauge = (s.lamps.get n).gauge := by
    have h := congrArg Lamp.gauge (hstored n)
    exact h
  refine ⟨?_, fun i => ⟨?_, ?_, fun hi => ⟨?_, ?_⟩, fun hi => ?_, fun hi => ?_, fun hi honly => ?_⟩, fun hnone => ⟨?_, fun n => ?_⟩,
    ?_, ?_, ?_, fun hin hover hbefore => ?_, fun hno => ?_, fun k hr hg hd => ?_, ?_⟩
  · rw [speedContents_rlu, hvehicle]
  · rw [htge, ← hge]
    by_cases hi : listsRecorder u i = true
    · exact congrArg (fun c : Channel => { c with
        valueR := (u.ge.channels.get i).valueR, active := (u.ge.channels.get i).active
        pendingCurve := (u.ge.channels.get i).pendingCurve }) (hdelivers.same (v := speed.toNat) hi)
    · have hother := deliver_other (a := .recorder) (v := speed.toNat) (s := u) (Bool.eq_false_iff.2 hi)
      exact congrArg (fun c : Channel => { c with
        valueR := (u.ge.channels.get i).valueR, active := (u.ge.channels.get i).active }) hother
  · classical
    rw [htge, deliver_pending, hge]
    exact if_congr hcloses.symm rfl rfl
  · rw [htge]
    exact hdelivers.value (v := speed.toNat) ((hlists i).2 hi) .recorder
  · rw [htge, speedContents_sources, hdelivers.source (v := speed.toNat) ((hlists i).2 hi), hge]
  · have hother := deliver_other (a := .recorder) (v := speed.toNat) (s := u) (hnotLists hi)
    rw [htge, ← hge]
    have hvalue := congrArg Channel.valueR hother
    have hactive := congrArg Channel.active hother
    exact ⟨hvalue, hactive⟩
  · rw [speedContents_gauge, htge]
    have h := hdelivers.gauge (v := speed.toNat) ((hlists i).2 hi.1) (by rw [hge]; exact hi.2)
    rw [hge, hpwc] at h
    exact h
  · have hposted := hdelivers.restored (v := speed.toNat) ((hlists i).2 hi.1) (by rw [hge]; exact hi.2) fun j hj hn =>
      by_contra fun hne => honly j hne (hgains hj hn)
    exact (hquiet (by decide) (by decide)).trans_posted (hposted.trans_notPosted (htold (by decide)))
  · have hnot := hdelivers.notRestored (v := speed.toNat) fun j hj hn => hnone j (hgains hj hn)
    exact (hquiet (by decide) (by decide)).trans (hnot.trans (htold (by decide)))
  · rw [speedContents_gauge, ← hgauge]
    exact Lamp.eq_of_stored (·.gauge) (fun _ => rfl) (hdelivers.stored fun i hi hn => absurd (hgains hi hn) (hnone i))
  · rw [hcontents.window (by decide), deliver_window_iff, ← hcloses, hwindow]
  · have h := congrArg Lamp.recorder (speedContents_stored speed.toNat overspeed motion u 4)
    exact h
  · have hthree := congrArg Lamp.recorder (speedContents_stored speed.toNat overspeed motion u 3)
    have hdeliver := congrArg Lamp.recorder (deliver_stored_but_gauge (concerned := listsRecorder u) (a := .recorder)
      (v := speed.toNat) (s := u) 3)
    have htook := congrArg Lamp.recorder (hstored 3)
    exact hthree.trans (hdeliver.trans htook)
  · subst hover
    exact speedContents_chimes (by rw [hcycle, hin]) (by rw [hvehicle, hbefore])
  · exact hqueues.trans (speedContents_queues (by rwa [hcycle, hvehicle]))
  · exact (hquiet hr hd).trans ((hdelivers.quiet hg hd).trans (htold hd))
  · exact .after hcontents (by decide) (.after deliver_frame (by decide) (htaken.mono (by decide)))

end Sys2Proof.Machine
end

section
/-! CERTIFICATE. Every valid recorder frame, and the DISTANCE and NOTICE frames (R117, R119, R124). -/
namespace Sys2Proof.Machine

/-! ### The contributions that the driver records leave -/

/-- R50: of the contributions, only the account contributions change. -/
def AccountOnly (s t : State) : Prop :=
  ∀ n, { (t.lamps.get n).stored with account := (s.lamps.get n).account } = (s.lamps.get n).stored

section account
variable {s t u : State}

theorem AccountOnly.refl (s : State) : AccountOnly s s := fun _ => rfl

theorem AccountOnly.trans (h : AccountOnly s t) (h' : AccountOnly t u) : AccountOnly s u := by
  intro n
  rw [← h n, ← h' n]

theorem AccountOnly.of_frame {W : List Block} (h : OnlyChanges W s t) (hl : .lamps ∉ W) : AccountOnly s t := by
  intro n
  rw [h.lamps hl]
  rfl

theorem AccountOnly.after {W : List Block} (h : OnlyChanges W t u) (hl : .lamps ∉ W) (h' : AccountOnly s t) : AccountOnly s u :=
  h'.trans (.of_frame h hl)

theorem accountOnly_handAccount (s : State) : AccountOnly s (handAccount s) := by
  intro n
  rw [handAccount, lampUpdate_stored]
  split <;> rfl

theorem accountOnly_formWarn (slot : Slot) (s : State) : AccountOnly s (formWarn slot s) := by
  unfold formWarn
  split
  · refine .trans ?_ (accountOnly_handAccount _)
    exact .of_frame (W := [.drivers, .chimes, .events]) (.after (announceWarn_frame _ _ _) (by decide)
      ((modifyRecord_frame _ _ _).mono (by decide))) (by decide)
  · exact .refl s

theorem accountOnly_slotActivity (c : Slot × ActivityArg) (s : State) : AccountOnly s (slotActivity c s) := by
  have hset (f : DriverRecord → DriverRecord) : AccountOnly s (modifyRecord c.1 f s) :=
    .of_frame (modifyRecord_frame s c.1 f) (by decide)
  have hcard (f : DriverRecord → DriverRecord) :
      AccountOnly s (handAccount (post .cardChange (slotNumber c.1) (modifyRecord c.1 f s))) :=
    (AccountOnly.after (post_frame _ _ _) (by decide) (hset f)).trans (accountOnly_handAccount _)
  unfold slotActivity
  dsimp only
  split
  · split
    · split
      · split
        · exact .after (post_frame _ _ _) (by decide) (hset _)
        · exact hset _
      · exact hcard _
    · exact hcard _
  · exact .refl s

theorem accountOnly_adopt (slot : Slot) (arg : SummaryArg) (k : SummaryCase) (s : State) : AccountOnly s (adopt slot arg k s) := by
  have hpost (b : Prop) [Decidable b] (kind : EventKind) (n : Nat) (t : State) : AccountOnly t (if b then post kind n t else t) := by
    split
    · exact .of_frame (post_frame _ _ _) (by decide)
    · exact .refl t
  refine .after (modifyRecord_frame _ _ _) (by decide) (.after (post_frame _ _ _) (by decide) (.trans ?_ (accountOnly_formWarn _ _)))
  have hplaced (r : DriverRecord) (b : Prop) [Decidable b] : AccountOnly s
      (setRecord slot r (if b then post .recorderInconsistent (slotNumber slot) s else s)) :=
    .after (setRecord_frame _ _ _) (by decide) (hpost b _ _ s)
  split
  · exact (hplaced _ _).trans (hpost _ _ _ _)
  · exact hplaced _ _

theorem accountOnly_slotSummary (c : Slot × SummaryArg) (s : State) : AccountOnly s (slotSummary c s) := by
  unfold slotSummary
  dsimp only
  split
  · split
    · exact .of_frame (post_frame s _ _) (by decide)
    · exact accountOnly_adopt _ _ _ s
  · exact .refl s

theorem AccountOnly.inSomeOrder {α : Type} {act : α → State → State} (h : ∀ a s, AccountOnly s (act a s)) (l : List α) (s : State) :
    AccountOnly s (inSomeOrder l (forEach act) s) := by
  have heach (l : List α) (s : State) : AccountOnly s (forEach act l s) := by
    induction l generalizing s with
    | nil => exact .refl s
    | cons a l ih => exact (h a s).trans (ih _)
  exact (AccountOnly.of_frame (setChoices_frame s _) List.not_mem_nil).trans (heach _ _)

end account

/-! ### What the contents of a frame leave (R120 to R124) -/

/-- What the contents of a valid frame leave: the link but for the vehicle record, every loss contribution, and the recorder
contributions of all lamps but L3 and L4. -/
structure ContentsLeave (s t : State) : Prop where
  rlu : t.rlu = { s.rlu with vehicle := t.rlu.vehicle }
  stored : ∀ n, { (t.lamps.get n).stored with
    account := (s.lamps.get n).account, gauge := (s.lamps.get n).gauge, recorder := (s.lamps.get n).recorder } = (s.lamps.get n).stored
  recorder : ∀ n, n ≠ 3 → n ≠ 4 → (t.lamps.get n).recorder = (s.lamps.get n).recorder
  quiet : NotPosted .sourceRestored s t
  frame : OnlyChanges [.gauges, .lamps, .chimes, .clock, .recorder, .drivers, .events, .window] s t

section contents
variable {s t : State}

/-- What the contents leave where they change no lamp but by the account. -/
theorem ContentsLeave.of_account (hlamps : AccountOnly s t) (hquiet : NotPosted .sourceRestored s t) {W : List Block}
    (h : OnlyChanges W s t) (hrlu : .recorder ∉ W)
    (hW : ∀ b ∈ W, b ∈ [Block.gauges, .lamps, .chimes, .clock, .recorder, .drivers, .events, .window]) : ContentsLeave s t where
  rlu := by rw [h.rlu hrlu]
  stored n := congrArg (fun l : Lamp => { l with gauge := (s.lamps.get n).gauge, recorder := (s.lamps.get n).recorder }) (hlamps n)
  recorder n _ _ := by
    have hrecorder := congrArg Lamp.recorder (hlamps n)
    exact hrecorder
  quiet := hquiet
  frame := h.mono hW

theorem contentsLeave_activity (a b : ActivityArg) (s : State) : ContentsLeave s (activityContents a b s) :=
  .of_account (.inSomeOrder accountOnly_slotActivity _ s)
    ((inSomeOrder_tells _ (fun c _ t => slotActivity_tells t c) s).notPosted (by decide))
    (inSomeOrder_frame (forEach_frame fun c t => slotActivity_frame t c) _ s) (by decide) (by decide)

theorem contentsLeave_summary (a b : SummaryArg) (s : State) : ContentsLeave s (summaryContents a b s) :=
  .of_account (.inSomeOrder accountOnly_slotSummary _ s)
    ((inSomeOrder_tells _ (fun c _ t => slotSummary_tells t c) s).notPosted (by decide))
    (inSomeOrder_frame (forEach_frame fun c t => slotSummary_frame t c) _ s) (by decide) (by decide)

theorem contentsLeave_time (t : DateTime) (valid : Bool) (s : State) : ContentsLeave s (timeContents t valid s) := by
  unfold timeContents
  split
  · exact .of_account (.of_frame (loadClock_frame s t true) (by decide)) ((loadClock_tells s t true).notPosted (by decide))
      (loadClock_frame s t true) (by decide) (by decide)
  · exact .of_account (.refl s) (.refl _ s) (.refl [] s) (by decide) (by decide)

theorem contentsLeave_speed (speed : Nat) (overspeed motion : Bool) (s : State) :
    ContentsLeave s (speedContents speed overspeed motion s) := by
  have hdeliver : OnlyChanges [.gauges, .lamps, .chimes, .events, .window] s (deliver (listsRecorder s) .recorder speed s) :=
    deliver_frame
  have hstored (n : Fin 48) := deliver_stored_but_gauge (concerned := listsRecorder s) (a := .recorder) (v := speed) (s := s) n
  refine ⟨by rw [speedContents_rlu], fun n => ?_, fun n _ hfour => ?_, ?_,
    .after (speedContents_frame speed overspeed motion s) (by decide) (hdeliver.mono (by decide))⟩
  · have hgauge := congrArg (fun l : Lamp => { l with
      account := (s.lamps.get n).account, gauge := (s.lamps.get n).gauge, recorder := (s.lamps.get n).recorder }) (hstored n)
    rw [speedContents_stored]
    refine Eq.trans ?_ hgauge
    have haccount := congrArg Lamp.account (hstored n)
    split <;> rfl
  · have hsame := speedContents_stored speed overspeed motion s n
    rw [if_neg hfour] at hsame
    have hrecorder := congrArg Lamp.recorder (hstored n)
    exact (Lamp.eq_of_stored (·.recorder) (fun _ => rfl) hsame).trans hrecorder
  · have hselect : NotPosted .sourceRestored s (gaugeSelect (listsRecorder s) (Channel.store .recorder (some speed)) s) :=
      (gaugeSelect_tells s _ _).notPosted (by decide)
    exact hselect.trans ((deliver_told (by decide)).trans (speedContents_told (by decide)))

theorem contentsLeave_distance (odometer trip : Nat) (s : State) : ContentsLeave s (distanceContents odometer trip s) :=
  ⟨rfl, fun _ => rfl, fun _ _ _ => rfl, .of_frame (setRlu_frame s _) (by decide), (setRlu_frame s _).mono (by decide)⟩

theorem noticeContents_stored (level : NoticeLevel) (code : Byte) (s : State) (n : Fin 48) :
    ((noticeContents level code s).lamps.get n).stored =
      if n = 3 then { (s.lamps.get n).stored with recorder := some level.lamp } else (s.lamps.get n).stored := by
  rw [noticeContents, handRecorder, lampUpdate_stored]
  split <;> rfl

theorem contentsLeave_notice (level : NoticeLevel) (code : Byte) (s : State) : ContentsLeave s (noticeContents level code s) := by
  have hkept : OnlyChanges [.recorder] s
      (modifyVehicle (fun v => { v with noticeLevel := level, noticeCode := code, heldNotice := false }) s) := setRlu_frame s _
  have hstored (n : Fin 48) := noticeContents_stored level code s n
  refine ⟨?_, fun n => ?_, fun n hthree _ => ?_, ?_, .after (lampUpdate_frame _ _) (by decide) (hkept.mono (by decide))⟩
  · rw [noticeContents, handRecorder, (lampUpdate_frame _ _).rlu (by decide)]
    rfl
  · rw [hstored]
    split <;> rfl
  · have hsame := hstored n
    rw [if_neg hthree] at hsame
    exact Lamp.eq_of_stored (·.recorder) (fun _ => rfl) hsame
  · exact .trans (.of_frame hkept (by decide)) ((lampUpdate_tells _ _).notPosted (by decide))

theorem contentsLeave (i : Instr) (s : State) : ContentsLeave s (frameContents i s) := by
  cases i
  case speedFrame => exact contentsLeave_speed ..
  case timeFrame => exact contentsLeave_time ..
  case activityFrame => exact contentsLeave_activity ..
  case summaryFrame => exact contentsLeave_summary ..
  case distanceFrame => exact contentsLeave_distance ..
  case noticeFrame => exact contentsLeave_notice ..
  all_goals exact .of_account (.refl s) (.refl _ s) (.refl [] s) (by decide) (by decide)

theorem ContentsLeave.loss (h : ContentsLeave s t) (n : Fin 48) : (t.lamps.get n).loss = (s.lamps.get n).loss := by
  have hloss := congrArg Lamp.loss (h.stored n)
  exact hloss

theorem ContentsLeave.lossNow (h : ContentsLeave s t) (n : Fin 48) : lossNow t (t.lamps.get n) = lossNow s (s.lamps.get n) := by
  have hsources : sourceLive t = sourceLive s := sourceLive_congr (fun q => h.frame.live q (by decide)) (by rw [h.rlu])
  have hstored := congrArg (Machine.lossNow s) (h.stored n)
  rw [lossNow_congr hsources]
  exact hstored

end contents

/-- R117: a recorder command acts as its contents on the link it has restarted. -/
theorem exec_recorder {c : Instr} {s : State} (hout : isOut s = true) (h : (recorderPayload c).isSome = true) :
    exec c s = .next (frameContents c (linkTaken s)) := by
  cases c
  case speedFrame | timeFrame | activityFrame | summaryFrame | distanceFrame | noticeFrame =>
    exact congrArg Host.Outcome.next (whenOut_of_isOut hout)
  all_goals simp [recorderPayload] at h

theorem noticeOfByte_eq (level : Byte) : noticeOfByte level =
    if level = 0 then .none else if level = 1 then .warning else .fault := by
  have hzero : level.toNat = 0 ↔ level = 0 := toNat_eq_zero_iff level
  have hone : level.toNat = 1 ↔ level = 1 := BitVec.toNat_inj (y := 1)
  unfold noticeOfByte
  split
  · next h => rw [if_pos (hzero.1 h)]
  · next h => rw [if_neg (mt hzero.2 (by omega)), if_pos (hone.1 h)]
  · next h h' => rw [if_neg (mt hzero.2 h), if_neg (mt hone.2 h')]

/-- R119: SOURCE_RESTORED with the link's return, and no such event while it is LIVE. -/
theorem linkTaken_restored {s : State} (h : s.rlu.live = false) : Posted .sourceRestored 2 s (linkTaken s) := by
  have hset : OnlyChanges [.recorder] s ((setAssembly .hunt s).setRlu { (setAssembly .hunt s).rlu with live := true }) :=
    .after (setRlu_frame _ _) (by decide) (setRlu_frame s _)
  have hfound : Posted .sourceRestored 2 s (linkFound s) := (NotPosted.of_frame hset (by decide)).trans_posted (posted_post _ _ _)
  have hafter : NotPosted .sourceRestored (linkFound s) (linkTaken s) := by
    rw [linkTaken_of_lost s h]
    exact .trans ((lampUpdate_tells _ _).notPosted (by decide)) (.of_frame (restartLink_frame _) (by decide))
  exact hfound.trans_notPosted hafter

theorem linkTaken_loss {s : State} (h : s.rlu.live = false) (n : Fin 48) :
    ((linkTaken s).lamps.get n).loss = lossNow (linkTaken s) ((linkTaken s).lamps.get n) := by
  have hrestart := restartLink_frame (reformLoss (linkFound s))
  have hsources : sourceLive (restartLink (reformLoss (linkFound s))) = sourceLive (reformLoss (linkFound s)) :=
    sourceLive_congr (fun q => hrestart.live q (by decide)) rfl
  rw [linkTaken_of_lost s h, lossNow_congr hsources, hrestart.lamps (by decide)]
  exact reformLoss_loss _ n

theorem linkTaken_recorder (s : State) (n : Fin 48) : ((linkTaken s).lamps.get n).recorder = (s.lamps.get n).recorder := by
  have hrecorder := congrArg Lamp.recorder (linkTaken_stored s n)
  exact hrecorder

theorem exec_distanceFrame {s : State} (hout : isOut s = true) (odometer trip : BitVec 32) :
    exec (.distanceFrame odometer trip) s = .next (distanceContents odometer.toNat trip.toNat (linkTaken s)) :=
  congrArg Host.Outcome.next (whenOut_of_isOut hout)

theorem exec_noticeFrame {s : State} (hout : isOut s = true) (level code : Byte) :
    exec (.noticeFrame level code) s = .next (noticeContents (noticeOfByte level) code (linkTaken s)) :=
  congrArg Host.Outcome.next (whenOut_of_isOut hout)

/-- Settles O39: the link by `linkTaken`, and what the contents leave by `contentsLeave`. -/
theorem validFrameKeepsLinkLive : Obligations.ValidFrameKeepsLinkLive := by
  refine ⟨fun c s hout hc => ⟨_, exec_recorder hout hc, ?_⟩, fun odometer trip s hout => ⟨_, exec_distanceFrame hout odometer trip, ?_⟩,
    fun level code s hout => ⟨_, exec_noticeFrame hout level code, ?_⟩⟩
  · have hleave := contentsLeave c (linkTaken s)
    refine ⟨by rw [hleave.rlu, linkTaken_rlu], fun hlost => ⟨?_, fun n => ?_⟩, fun hlive => ⟨?_, fun n => ?_⟩, fun n hthree hfour => ?_,
      .after hleave.frame (by decide) ((linkTaken_frame s).mono (by decide))⟩
    · exact (linkTaken_restored hlost).trans_notPosted hleave.quiet
    · rw [hleave.loss, hleave.lossNow]
      exact linkTaken_loss hlost n
    · exact NotPosted.trans (.of_frame (linkTaken_of_live s hlive) (by decide)) hleave.quiet
    · rw [hleave.loss, (linkTaken_of_live s hlive).lamps (by decide)]
    · rw [hleave.recorder n hthree hfour, linkTaken_recorder]
  · have hcontents : OnlyChanges [.recorder] (linkTaken s) (distanceContents odometer.toNat trip.toNat (linkTaken s)) :=
      setRlu_frame _ _
    refine ⟨?_, fun hlive => (linkTaken_of_live s hlive).trans hcontents,
      .after hcontents (by decide) ((linkTaken_frame s).mono (by decide))⟩
    rw [distanceContents, modifyVehicle, State.setRlu_rlu, linkTaken_rlu]
  · have hkept : OnlyChanges [.recorder, .lamps, .chimes, .events] (linkTaken s)
        (noticeContents (noticeOfByte level) code (linkTaken s)) :=
      .after (lampUpdate_frame _ _) (by decide) ((setRlu_frame _ _).mono (by decide))
    have hstored (n : Fin 48) := noticeContents_stored (noticeOfByte level) code (linkTaken s) n
    refine ⟨?_, ?_, ?_, .after hkept (by decide) (linkTaken_frame s |>.mono (by decide))⟩
    · rw [noticeContents, handRecorder, (lampUpdate_frame _ _).rlu (by decide), modifyVehicle, State.setRlu_rlu, linkTaken_rlu,
        noticeOfByte_eq]
    · have hthree := congrArg Lamp.recorder (hstored 3)
      refine hthree.trans (congrArg some ?_)
      rw [noticeOfByte_eq]
      split
      · rfl
      · split <;> rfl
    · have hfour := congrArg Lamp.recorder (hstored 4)
      exact hfour.trans (linkTaken_recorder s 4)

end Sys2Proof.Machine
end

section
/-! SUPPORT. A source that falls silent: its values, the selection and the lamps (R7, R11, R55, R56, R171). -/
namespace Sys2Proof.Machine

/-! ### The lamps (R14, R55, R56) -/

section lamps
variable {lamps : List (Fin 48)} {other : State → State} {f : Lamp → Lamp} {t : State}

theorem Lamp.eq_but_gauge {α : Type} (f : Lamp → α) (hf : ∀ l : Lamp, f l = f { l.stored with gauge := none }) {l m : Lamp}
    (h : { l.stored with gauge := none } = { m.stored with gauge := none }) : f l = f m := by rw [hf, h, ← hf]

theorem formGauge_stored (lamps : List (Fin 48)) (s : State) (n : Fin 48) :
    { ((formGauge lamps s).lamps.get n).stored with gauge := none } = { (s.lamps.get n).stored with gauge := none } := by
  rw [formGauge, lampUpdate_stored]
  split <;> rfl

/-- R171: whatever the order of the two updates, but for the gauge contributions the lamp table's own update is what stands. -/
theorem withGaugeUpdate_stored (hf : ∀ l m : Lamp, { l.stored with gauge := none } = { m.stored with gauge := none } →
      { (f l).stored with gauge := none } = { (f m).stored with gauge := none })
    (hother : ∀ u, sourceLive u = sourceLive t → ∀ n, ((other u).lamps.get n).stored = (f (u.lamps.get n)).stored) (n : Fin 48) :
    { ((withGaugeUpdate lamps other t).lamps.get n).stored with gauge := none } =
      { (f (t.lamps.get n)).stored with gauge := none } := by
  have hchosen : sourceLive (t.setChoices (t.choices + 1)) = sourceLive t := rfl
  have hformed : sourceLive (formGauge lamps (t.setChoices (t.choices + 1))) = sourceLive t :=
    ((lampUpdate_frame _ _).sources (by decide) (by decide)).trans hchosen
  unfold withGaugeUpdate
  split
  · split
    · rw [hother _ hformed]
      exact hf _ _ (formGauge_stored _ _ n)
    · rw [formGauge_stored, hother _ hchosen]
      rfl
  · rw [hother _ rfl]

theorem discardWritten_stored (p : Port) (s : State) (n : Fin 48) : ((discardWritten p s).lamps.get n).stored =
    ({ (s.lamps.get n).withoutPort p with loss := lossNow s (s.lamps.get n) } : Lamp).stored := by
  rw [discardWritten, lampUpdate_stored]

theorem discardRecorder_stored (s : State) (n : Fin 48) : ((discardRecorder s).lamps.get n).stored =
    ({ s.lamps.get n with recorder := none, loss := lossNow s (s.lamps.get n) } : Lamp).stored := by
  rw [discardRecorder, lampUpdate_stored]

end lamps

/-! ### The channels (R7, R11) -/

section channels
variable (a : Source) (s : State)

/-- R7: a source's values discarded, with the selection made again, before the lamp table acts. -/
def discarded : State := gaugeSelect (fun _ => true) (Channel.store a none) s

theorem silenceSource_eq (other : State → State) : silenceSource a other s =
    withGaugeUpdate (lampsConcerned s.ge.channels (discarded a s).ge.channels) other (discarded a s) := rfl

theorem reselected_discarded (i : Fin 8) : reselected (fun _ => true) (Channel.store a none) s i =
    ((s.ge.channels.get i).store a none).reselect (sourceLive s) := if_pos rfl

variable {a s}

theorem discarded_field {α : Type} (f : Channel → α) (hf : ∀ c : Channel, f c = f { c with pendingCurve := none }) (i : Fin 8) :
    f ((discarded a s).ge.channels.get i) = f (((s.ge.channels.get i).store a none).reselect (sourceLive s)) := by
  rw [discarded, gaugeSelect_field f hf, reselected_discarded]

theorem Channel.reselect_value (live : Source → Bool) (c : Channel) (b : Source) : (c.reselect live).value b = c.value b := by
  rw [Channel.reselect_eq]
  cases b <;> split <;> rfl

theorem Channel.reselect_select (live : Source → Bool) (c : Channel) : (c.reselect live).select live = c.select live := by
  have hsame : (c.reselect live).enabled = c.enabled ∧ (c.reselect live).primary = c.primary ∧
      (c.reselect live).fallback = c.fallback := by
    rw [Channel.reselect_eq]
    split <;> exact ⟨rfl, rfl, rfl⟩
  exact Channel.select_congr (c.reselect_value live) hsame.1 hsame.2.1 hsame.2.2 fun _ _ => rfl

theorem discarded_value (i : Fin 8) (b : Source) :
    ((discarded a s).ge.channels.get i).value b = if b = a then none else (s.ge.channels.get i).value b := by
  rw [discarded_field (·.value b) (fun c => by cases b <;> rfl), Channel.reselect_value, Channel.store_value]

theorem discarded_active (i : Fin 8) : ((discarded a s).ge.channels.get i).active =
    ((discarded a s).ge.channels.get i).select (sourceLive s) := by
  rw [discarded_field (·.active) (fun _ => rfl), discarded_field (·.select (sourceLive s)) (fun _ => rfl), Channel.reselect_active,
    Channel.reselect_select]

/-- R7: what a silenced source leaves of the pointer. -/
theorem discarded_pointer (i : Fin 8) : ((discarded a s).ge.channels.get i).position = (s.ge.channels.get i).position ∧
    ((discarded a s).ge.channels.get i).state = (s.ge.channels.get i).state := by
  rw [discarded_field (·.position) (fun _ => rfl), discarded_field (·.state) (fun _ => rfl), Channel.reselect_eq]
  split <;> cases a <;> exact ⟨rfl, rfl⟩

theorem losesSignal_discarded (i : Fin 8) : LosesSignal s (discarded a s) i ↔ EntersNoSignal (fun _ => true) (Channel.store a none) s i := by
  rw [LosesSignal, EntersNoSignal, discarded, gaugeSelect_field (·.active) (fun _ => rfl)]

/-- R11: the channels that the silence leaves without a source, and their events. -/
theorem signalsLost_discarded (a : Source) (s : State) : SignalsLost s (discarded a s) := by
  have hreset (i : Fin 8) : EntersNoSignal (fun _ => true) (Channel.store a none) s i ↔
      ((s.ge.channels.get i).store a none).active.isSome = true ∧
        ((s.ge.channels.get i).store a none).select (sourceLive s) = none := by
    rw [EntersNoSignal, reselected_discarded, Channel.reselect_active, Option.isSome_iff_ne_none,
      ((s.ge.channels.get i).store_same a none).2.2.2.1]
  refine ⟨fun i hi => ?_, fun i hi => ?_, fun p lost hnodup hmem => ?_, fun hnone => ?_, fun i hi honly => ?_⟩
  · rw [losesSignal_discarded, hreset] at hi
    rw [discarded_field (·.filter) (fun _ => rfl), discarded_field (·.target) (fun _ => rfl), Channel.reselect_eq, if_pos hi]
    cases a <;> exact ⟨rfl, rfl⟩
  · rw [losesSignal_discarded, hreset] at hi
    rw [discarded_field (·.filter) (fun _ => rfl), discarded_field (·.target) (fun _ => rfl), Channel.reselect_eq, if_neg hi]
    cases a <;> exact ⟨rfl, rfl⟩
  · exact gaugeSelect_lostCount hnodup (fun i => (hmem i).trans (losesSignal_discarded i)) p
  · exact gaugeSelect_noneLost fun i hi => hnone i ((losesSignal_discarded i).2 hi)
  · exact gaugeSelect_oneLost ((losesSignal_discarded i).1 hi) fun j hj => honly j ((losesSignal_discarded j).2 hj)

end channels

/-- R11: the lost signals between two states, seen from before and after. -/
theorem SignalsLost.of_same {s u w t : State} (h : SignalsLost u w)
    (hbefore : ∀ i, { u.ge.channels.get i with pendingCurve := none } = { s.ge.channels.get i with pendingCurve := none })
    (hafter : t.ge.channels = w.ge.channels) (hquiet : NotPosted .gaugeNoSignal s u) (hquiet' : NotPosted .gaugeNoSignal w t) :
    SignalsLost s t := by
  have hfield {α : Type} (f : Channel → α) (hf : ∀ c : Channel, f c = f { c with pendingCurve := none }) (i : Fin 8) :
      f (s.ge.channels.get i) = f (u.ge.channels.get i) := by
    rw [hf, ← hbefore, ← hf]
  have hloses (i : Fin 8) : LosesSignal s t i ↔ LosesSignal u w i := by
    rw [LosesSignal, LosesSignal, hafter, hfield (·.active) (fun _ => rfl)]
  obtain ⟨hlost, hkept, hcount, hnone, hone⟩ := h
  refine ⟨fun i hi => ?_, fun i hi => ?_, fun p lost hnodup hmem => ?_, fun h => ?_, fun i hi honly => ?_⟩
  · rw [hafter, hfield (·.state) (fun _ => rfl), hfield (·.target) (fun _ => rfl)]
    exact hlost i ((hloses i).1 hi)
  · rw [hafter, hfield (·.filter) (fun _ => rfl), hfield (·.target) (fun _ => rfl)]
    exact hkept i (mt (hloses i).2 hi)
  · have hcounted := hcount p lost hnodup fun i => (hmem i).trans (hloses i)
    rw [hquiet' p, ← hquiet p]
    exact hcounted
  · exact hquiet.trans ((hnone fun i hi => h i ((hloses i).2 hi)).trans hquiet')
  · exact hquiet.trans_posted ((hone i ((hloses i).1 hi) fun j hj => honly j ((hloses j).2 hj)).trans_notPosted hquiet')

end Sys2Proof.Machine
end

section
/-! CERTIFICATE. A supervision timer that runs out, the loss of the link, and the end of a basis timer (R118, R119, R135, R152, R171). -/
namespace Sys2Proof.Machine

section silent
variable (a : Source) (u : State)

/-- R55, R56: a source's silence as its readers leave it. -/
theorem silenced_channels {other : State → State} (hother : ∀ s, OnlyChanges [.lamps, .chimes, .events] s (other s)) :
    (silenceSource a other u).ge = (discarded a u).ge := by
  rw [silenceSource_eq]
  exact (withGaugeUpdate_frame _ hother).ge (by decide)

theorem silenced_window {other : State → State} (hother : ∀ s, OnlyChanges [.lamps, .chimes, .events] s (other s))
    (h : (silenceSource a other u).window = true) : u.window = true := by
  rw [silenceSource_eq, (withGaugeUpdate_frame _ hother).window (by decide)] at h
  exact ((gaugeSelect_window ..).1 h).1

theorem silenced_signals {other : State → State} (hother : ∀ s, OnlyChanges [.lamps, .chimes, .events] s (other s))
    (htells : ∀ s, Tells [.chimeDropped] s (other s)) {s : State} (hquiet : NotPosted .gaugeNoSignal s u)
    (hbefore : ∀ i, { u.ge.channels.get i with pendingCurve := none } = { s.ge.channels.get i with pendingCurve := none }) :
    SignalsLost s (silenceSource a other u) := by
  refine (signalsLost_discarded a u).of_same hbefore (congrArg GaugeEngine.channels (silenced_channels a u hother)) hquiet ?_
  rw [silenceSource_eq]
  exact (withGaugeUpdate_tells _ htells).notPosted (by decide)

variable {a u}

theorem silenced_stored {f : Lamp → Lamp} {other : State → State}
    (hf : ∀ l m : Lamp, { l.stored with gauge := none } = { m.stored with gauge := none } →
      { (f l).stored with gauge := none } = { (f m).stored with gauge := none })
    (hother : ∀ t, sourceLive t = sourceLive u → ∀ n, ((other t).lamps.get n).stored = (f (t.lamps.get n)).stored) (n : Fin 48) :
    { ((silenceSource a other u).lamps.get n).stored with gauge := none } = { (f (u.lamps.get n)).stored with gauge := none } := by
  have hselect := gaugeSelect_frame u (fun _ => true) (Channel.store a none)
  have hsources : sourceLive (discarded a u) = sourceLive u := hselect.sources (by decide) (by decide)
  rw [silenceSource_eq, withGaugeUpdate_stored hf (fun t ht => hother t (ht.trans hsources)), discarded, hselect.lamps (by decide)]

end silent

/-! ### A port that falls silent (R171) -/

section port
variable (p : Port) (s : State)

/-- R171: a port's source SILENT, before its readers act. -/
def portSilent : State :=
  let t := post .sourceSilent (portSource p).code (s.setPort p { s.port p with live := false, timer := none })
  match p with
  | .d => t
  | .s => closeWindow t

theorem silencePort_eq : silencePort p s = silenceSource (portSource p) (discardWritten p) (portSilent p s) := by cases p <;> rfl

theorem portSilent_frame : OnlyChanges [.gauges, .window, .events, .ports] s (portSilent p s) := by
  cases p
  · exact .after (post_frame _ _ _) (by decide) ((setLive_frame .d s false none).mono (by decide))
  · exact .after (closeWindow_frame _) (by decide) (.after (post_frame _ _ _) (by decide) ((setLive_frame .s s false none).mono (by decide)))

theorem portSilent_posted : Posted .sourceSilent (portSource p).code s (portSilent p s) := by
  have hset : NotPosted .sourceSilent s (s.setPort p { s.port p with live := false, timer := none }) :=
    .of_frame (setLive_frame p s false none) (by decide)
  have hpost := hset.trans_posted (posted_post .sourceSilent (portSource p).code _)
  cases p
  · exact hpost
  · exact hpost.trans_notPosted (.of_frame (closeWindow_frame _) (by decide))

theorem portSilent_channel (i : Fin 8) : { (portSilent p s).ge.channels.get i with pendingCurve := none } =
    { s.ge.channels.get i with pendingCurve := none } := by
  have hbase : (post .sourceSilent (portSource p).code (s.setPort p { s.port p with live := false, timer := none })).ge = s.ge := by
    simp
  cases p
  · rw [portSilent, hbase]
  · rcases closeWindow_channel i (post .sourceSilent (portSource .s).code (s.setPort .s { s.port .s with live := false, timer := none }))
      with h | h <;> rw [portSilent, h, hbase]
    rfl

theorem portSilent_port : ((portSilent p s).port p).live = false ∧ ((portSilent p s).port p).timer = none ∧
    ((portSilent p s).port p).period = (s.port p).period ∧ ((portSilent p s).port p).fresh = (s.port p).fresh := by
  have hset : (s.setPort p { s.port p with live := false, timer := none }).port p = { s.port p with live := false, timer := none } := by
    cases p <;> rfl
  have hpost := post_frame (s.setPort p { s.port p with live := false, timer := none }) .sourceSilent (portSource p).code .ports
    (by decide) p
  rw [hset] at hpost
  cases p
  · exact hpost
  · have hclose := closeWindow_frame (post .sourceSilent (portSource .s).code (s.setPort .s { s.port .s with live := false, timer := none }))
      .ports (by decide) .s
    obtain ⟨hlive, htimer, hperiod, hfresh⟩ := hclose
    obtain ⟨hlive', htimer', hperiod', hfresh'⟩ := hpost
    exact ⟨hlive.trans hlive', htimer.trans htimer', hperiod.trans hperiod', hfresh.trans hfresh'⟩

/-- R54, R55: the contributions as a silent port leaves them, but for the gauge contributions. -/
theorem silencePort_stored (n : Fin 48) : { ((silencePort p s).lamps.get n).stored with gauge := none } =
    { ({ (s.lamps.get n).withoutPort p with loss := lossNow (silencePort p s) (s.lamps.get n) } : Lamp).stored with gauge := none } := by
  have hframe := silenceSource_frame (portSilent p s) (a := portSource p) (other := discardWritten p) fun t => lampUpdate_frame t _
  have hsources : sourceLive (silencePort p s) = sourceLive (portSilent p s) := by
    rw [silencePort_eq]
    exact hframe.sources (by decide) (by decide)
  have hstored := silenced_stored (a := portSource p) (u := portSilent p s) (other := discardWritten p)
    (f := fun l => { l.withoutPort p with loss := lossNow (portSilent p s) l })
    (fun l m h => ?_) (fun t ht n => ?_) n
  · rw [silencePort_eq, hstored, (portSilent_frame p s).lamps (by decide), ← silencePort_eq, lossNow_congr hsources]
  · have hloss : lossNow (portSilent p s) l = lossNow (portSilent p s) m := Lamp.eq_but_gauge _ (fun _ => rfl) h
    have hrest := congrArg (fun l : Lamp => { (l.withoutPort p).stored with loss := lossNow (portSilent p s) m }) h
    dsimp only
    rw [hloss]
    cases p <;> exact hrest
  · rw [discardWritten_stored, lossNow_congr ht]

end port

section silenced
variable (p : Port) (s : State)

theorem silencePort_ge : (silencePort p s).ge = (discarded (portSource p) (portSilent p s)).ge := by
  rw [silencePort_eq]
  exact silenced_channels _ _ fun t => lampUpdate_frame t _

theorem silencePort_sources : sourceLive (silencePort p s) = sourceLive (portSilent p s) := by
  rw [silencePort_eq]
  exact (silenceSource_frame _ fun t => lampUpdate_frame t _).sources (by decide) (by decide)

/-- R7: the channels of a silent port. -/
theorem silencePort_channel (i : Fin 8) : ((silencePort p s).ge.channels.get i).value (portSource p) = none ∧
    (∀ a, a ≠ portSource p → ((silencePort p s).ge.channels.get i).value a = (s.ge.channels.get i).value a) ∧
    ((silencePort p s).ge.channels.get i).active = ((silencePort p s).ge.channels.get i).select (sourceLive (silencePort p s)) ∧
    ((silencePort p s).ge.channels.get i).position = (s.ge.channels.get i).position ∧
    ((silencePort p s).ge.channels.get i).state = (s.ge.channels.get i).state := by
  have hsame {α : Type} (f : Channel → α) (hf : ∀ c : Channel, f c = f { c with pendingCurve := none }) :
      f ((portSilent p s).ge.channels.get i) = f (s.ge.channels.get i) := by
    rw [hf, portSilent_channel, ← hf]
  obtain ⟨hposition, hstate⟩ := discarded_pointer (a := portSource p) (s := portSilent p s) i
  rw [silencePort_sources, silencePort_ge]
  refine ⟨by rw [discarded_value, if_pos rfl], fun a ha => ?_, discarded_active i, ?_, ?_⟩
  · rw [discarded_value, if_neg ha, hsame (·.value a) fun c => by cases a <;> rfl]
  · rw [hposition, hsame (·.position) fun _ => rfl]
  · rw [hstate, hsame (·.state) fun _ => rfl]

theorem silencePort_signals : SignalsLost s (silencePort p s) := by
  rw [silencePort_eq]
  refine silenced_signals _ _ (fun t => lampUpdate_frame t _) (fun t => lampUpdate_tells t _) ?_ (portSilent_channel p s)
  have hset : NotPosted .gaugeNoSignal s (s.setPort p { s.port p with live := false, timer := none }) :=
    .of_frame (setLive_frame p s false none) (by decide)
  have hpost := hset.trans (notPosted_post (k := .sourceSilent) (by decide) (portSource p).code _)
  cases p
  · exact hpost
  · exact hpost.trans (.of_frame (closeWindow_frame _) (by decide))

/-- R54, R55: the contributions of a silent port discarded, and every loss contribution formed again. -/
theorem silencePort_lamp (n : Fin 48) :
    (p = .d → ((silencePort p s).lamps.get n).writtenD = none ∧ ((silencePort p s).lamps.get n).writtenS = (s.lamps.get n).writtenS) ∧
    (p = .s → ((silencePort p s).lamps.get n).writtenS = none ∧ ((silencePort p s).lamps.get n).writtenD = (s.lamps.get n).writtenD) ∧
    ((silencePort p s).lamps.get n).loss = lossNow (silencePort p s) ((silencePort p s).lamps.get n) := by
  have hstored := silencePort_stored p s n
  have hd := Lamp.eq_but_gauge (·.writtenD) (fun _ => rfl) hstored
  have hs := Lamp.eq_but_gauge (·.writtenS) (fun _ => rfl) hstored
  have hloss := Lamp.eq_but_gauge (·.loss) (fun _ => rfl) hstored
  have hnow := Lamp.eq_but_gauge (lossNow (silencePort p s)) (fun _ => rfl) hstored
  refine ⟨?_, ?_, hloss.trans (Eq.trans ?_ hnow.symm)⟩
  · rintro rfl
    exact ⟨hd, hs⟩
  · rintro rfl
    exact ⟨hs, hd⟩
  · cases p <;> rfl

theorem silencePort_port : ((silencePort p s).port p).live = false ∧ ((silencePort p s).port p).timer = none ∧
    ((silencePort p s).port p).period = (s.port p).period ∧ ((silencePort p s).port p).fresh = (s.port p).fresh := by
  obtain ⟨hlive, htimer, hperiod, hfresh⟩ := portSilent_port p s
  have hframe : OnlyChanges [.gauges, .window, .lamps, .chimes, .events] (portSilent p s) (silencePort p s) := by
    rw [silencePort_eq]
    exact silenceSource_frame _ fun t => lampUpdate_frame t _
  obtain ⟨hlive', htimer', hperiod', hfresh'⟩ := hframe .ports (by decide) p
  exact ⟨hlive'.trans hlive, htimer'.trans htimer, hperiod'.trans hperiod, hfresh'.trans hfresh⟩

theorem silencePort_posted : Posted .sourceSilent (portSource p).code s (silencePort p s) := by
  rw [silencePort_eq]
  exact (portSilent_posted p s).trans_notPosted ((silenceSource_tells _ fun t => lampUpdate_tells t _).notPosted (by decide))

/-- R171, R176: the window of a silent Port S closes, and that of Port D does not open. -/
theorem silencePort_window : (p = .s → (silencePort p s).window = false) ∧
    (p = .d → (silencePort p s).window = true → s.window = true) := by
  have hwindow (h : (silencePort p s).window = true) : (portSilent p s).window = true := by
    rw [silencePort_eq] at h
    exact silenced_window _ _ (fun t => lampUpdate_frame t _) h
  refine ⟨?_, ?_⟩
  · rintro rfl
    refine Bool.eq_false_iff.2 fun h => ?_
    have hclosed := closeWindow_closed (post .sourceSilent (portSource .s).code (s.setPort .s { s.port .s with live := false, timer := none }))
    exact absurd (hwindow h) (Bool.eq_false_iff.1 hclosed)
  · rintro rfl h
    have hbase : (portSilent .d s).window = s.window :=
      OnlyChanges.window (A := [.events, .ports]) (.after (post_frame _ _ _) (by decide)
        ((setLive_frame .d s false none).mono (by decide))) (by decide)
    exact hbase ▸ hwindow h

end silenced

theorem exec_supervisionTimerExpiry (p : Port) (s : State) : exec (.supervisionTimerExpiry p) s = .next
    (timed (.supervisionTimerExpiry p) (s.port p).timer.isSome (ranOut (s.port p).timer) (whenOut (silencePort p)) s) := rfl

/-- Settles O9: the port by `silencePort_port`, the channels by `silencePort_channel` and `silencePort_signals`, the lamps by
`silencePort_lamp`. -/
theorem supervisionExpirySilencesPort : Obligations.SupervisionExpirySilencesPort := by
  intro p s hout
  refine ⟨lapses_of_timed (exec_supervisionTimerExpiry p s) Option.isSome_iff_ne_none ranOut_iff, fun hcomes => ?_⟩
  have hexec := acts_of_timed (exec_supervisionTimerExpiry p s) Option.isSome_iff_ne_none ranOut_iff hcomes
  rw [whenOut_of_isOut (by simpa using hout)] at hexec
  have hran := ranBy_frame (.supervisionTimerExpiry p) s
  have hport : (ranBy (.supervisionTimerExpiry p) s).port p = s.port p := State.setDue_port ..
  have hdue : (ranBy (.supervisionTimerExpiry p) s).due = s.due.erase (.supervisionTimerExpiry p) := rfl
  generalize ranBy (.supervisionTimerExpiry p) s = r at *
  have hframe := silencePort_frame r p
  have hchannel := silencePort_channel p r
  have hsignals := silencePort_signals p r
  have hlamp := silencePort_lamp p r
  have hposted := silencePort_posted p r
  obtain ⟨hlive, htimer, hperiod, hfresh⟩ := silencePort_port p r
  obtain ⟨hshut, hopen⟩ := silencePort_window p r
  generalize silencePort p r = t at *
  have hresponse := hframe .responses (by decide) p
  rw [hport] at hperiod hfresh hresponse
  rw [hran.ge (by decide)] at hchannel
  rw [hran.lamps (by decide)] at hlamp
  rw [hran.window (by decide)] at hopen
  refine ⟨t, hexec, hlive, htimer, hperiod, hresponse, hfresh, NotPosted.trans_posted (.of_frame hran (by decide)) hposted,
    hchannel, hsignals.of_same (fun i => by rw [hran.ge (by decide)]) rfl (.of_frame hran (by decide)) (.refl _ _), hlamp, hshut, hopen,
    (hframe.due (by decide)).trans hdue, .after hframe (by decide) (hran.mono (by decide))⟩

/-! ### The link that is lost (R118) -/

section link
variable (s : State)

/-- R118: the link LOST, before its readers act. -/
def linkQuiet : State := post .sourceSilent Source.recorder.code
  (s.setRlu { s.rlu with live := false, timer := none, vehicle := s.rlu.vehicle.hold })

theorem linkSilenced_eq : linkSilenced s = silenceSource .recorder discardRecorder (linkQuiet s) := rfl

theorem linkQuiet_frame : OnlyChanges [.recorder, .events] s (linkQuiet s) :=
  .after (post_frame _ _ _) (by decide) ((setRlu_frame s _).mono (by decide))

theorem linkQuiet_rlu : (linkQuiet s).rlu = { s.rlu with live := false, timer := none, vehicle := s.rlu.vehicle.hold } :=
  (post_frame _ _ _).rlu (by decide)

theorem linkQuiet_posted : Posted .sourceSilent 2 s (linkQuiet s) :=
  NotPosted.trans_posted (.of_frame (setRlu_frame s _) (by decide)) (posted_post _ _ _)

theorem loseLink_after : OnlyChanges [.drivers] (linkSilenced s) (loseLink s) := setAau_frame _ _

theorem silenced_frame : OnlyChanges [.gauges, .window, .lamps, .chimes, .events] (linkQuiet s) (linkSilenced s) :=
  silenceSource_frame _ fun t => lampUpdate_frame t _

theorem loseLink_rlu : (loseLink s).rlu = { s.rlu with live := false, timer := none, vehicle := s.rlu.vehicle.hold } := by
  rw [(loseLink_after s).rlu (by decide), (silenced_frame s).rlu (by decide), linkQuiet_rlu]

theorem loseLink_posted : Posted .sourceSilent 2 s (loseLink s) := by
  have hsilenced : NotPosted .sourceSilent (linkQuiet s) (linkSilenced s) :=
    (silenceSource_tells _ fun t => lampUpdate_tells t _).notPosted (by decide)
  exact (linkQuiet_posted s).trans_notPosted (hsilenced.trans (.of_frame (loseLink_after s) (by decide)))

theorem loseLink_sources : sourceLive (loseLink s) = sourceLive (linkQuiet s) :=
  ((loseLink_after s).sources (by decide) (by decide)).trans ((silenced_frame s).sources (by decide) (by decide))

theorem loseLink_ge : (loseLink s).ge = (discarded .recorder (linkQuiet s)).ge :=
  ((loseLink_after s).ge (by decide)).trans (silenced_channels _ _ fun t => lampUpdate_frame t _)

/-- R7: the channels of a lost link. -/
theorem loseLink_channel (i : Fin 8) : ((loseLink s).ge.channels.get i).valueR = none ∧
    ((loseLink s).ge.channels.get i).valueD = (s.ge.channels.get i).valueD ∧
    ((loseLink s).ge.channels.get i).valueS = (s.ge.channels.get i).valueS ∧
    ((loseLink s).ge.channels.get i).active = ((loseLink s).ge.channels.get i).select (sourceLive (loseLink s)) ∧
    ((loseLink s).ge.channels.get i).position = (s.ge.channels.get i).position ∧
    ((loseLink s).ge.channels.get i).state = (s.ge.channels.get i).state := by
  have hvalue (b : Source) := discarded_value (a := .recorder) (s := linkQuiet s) i b
  have hpointer := discarded_pointer (a := .recorder) (s := linkQuiet s) i
  have hactive := discarded_active (a := .recorder) (s := linkQuiet s) i
  rw [(linkQuiet_frame s).ge (by decide)] at hvalue hpointer
  rw [loseLink_sources, loseLink_ge]
  exact ⟨hvalue .recorder, hvalue .portD, hvalue .portS, hactive, hpointer⟩

theorem loseLink_signals : SignalsLost s (loseLink s) := by
  have hsilenced : SignalsLost s (linkSilenced s) := by
    rw [linkSilenced_eq]
    refine silenced_signals _ _ (fun t => lampUpdate_frame t _) (fun t => lampUpdate_tells t _) ?_ fun i => ?_
    · exact NotPosted.trans (.of_frame (setRlu_frame s _) (by decide)) (notPosted_post (by decide) _ _)
    · rw [(linkQuiet_frame s).ge (by decide)]
  exact hsilenced.of_same (fun _ => rfl) (by rw [(loseLink_after s).ge (by decide)]) (.refl _ _)
    (.of_frame (loseLink_after s) (by decide))

theorem loseLink_stored (n : Fin 48) : { ((loseLink s).lamps.get n).stored with gauge := none } =
    { ({ s.lamps.get n with recorder := none, loss := lossNow (loseLink s) (s.lamps.get n) } : Lamp).stored with gauge := none } := by
  have hstored := silenced_stored (a := .recorder) (u := linkQuiet s) (other := discardRecorder)
    (f := fun l => { l with recorder := none, loss := lossNow (linkQuiet s) l })
    (fun l m h => ?_) (fun t ht n => ?_) n
  · rw [(loseLink_after s).lamps (by decide), linkSilenced_eq, hstored, (linkQuiet_frame s).lamps (by decide),
      lossNow_congr (loseLink_sources s)]
  · have hloss : lossNow (linkQuiet s) l = lossNow (linkQuiet s) m := Lamp.eq_but_gauge _ (fun _ => rfl) h
    have hrest := congrArg (fun l : Lamp => { l.stored with recorder := none, loss := lossNow (linkQuiet s) m }) h
    dsimp only
    rw [hloss]
    exact hrest
  · rw [discardRecorder_stored, lossNow_congr ht]

/-- R54, R56: the recorder contributions discarded, and every loss contribution formed again. -/
theorem loseLink_lamp (n : Fin 48) : ((loseLink s).lamps.get n).recorder = none ∧
    ((loseLink s).lamps.get n).loss = lossNow (loseLink s) ((loseLink s).lamps.get n) ∧
    ((loseLink s).lamps.get n).writtenD = (s.lamps.get n).writtenD ∧
    ((loseLink s).lamps.get n).writtenS = (s.lamps.get n).writtenS := by
  have hstored := loseLink_stored s n
  have hrecorder := Lamp.eq_but_gauge (·.recorder) (fun _ => rfl) hstored
  have hloss := Lamp.eq_but_gauge (·.loss) (fun _ => rfl) hstored
  have hnow := Lamp.eq_but_gauge (lossNow (loseLink s)) (fun _ => rfl) hstored
  have hd := Lamp.eq_but_gauge (·.writtenD) (fun _ => rfl) hstored
  have hs := Lamp.eq_but_gauge (·.writtenS) (fun _ => rfl) hstored
  exact ⟨hrecorder, hloss.trans hnow.symm, hd, hs⟩

end link

theorem exec_linkSupervisionExpiry (s : State) : exec .linkSupervisionExpiry s =
    .next (timed .linkSupervisionExpiry s.rlu.timer.isSome (ranOut s.rlu.timer) (whenOut loseLink) s) := rfl

theorem exec_basisTimerExpiry (slot : Slot) (s : State) : exec (.basisTimerExpiry slot) s = .next (timed (.basisTimerExpiry slot)
    (s.aau.record slot).basisTimer.isSome (ranOut (s.aau.record slot).basisTimer)
    (whenOut (modifyRecord slot DriverRecord.basisExpires)) s) := rfl

theorem DriverRecord.loseLink_eq (r : DriverRecord) : r.loseLink = { r with
    confirmed := false, basisTimer := none, generation := if r.confirmed then r.generation + 1 else r.generation } := by
  unfold DriverRecord.loseLink
  split <;> rfl

/-- Settles O43: the link by `loseLink_rlu`, the channels by `loseLink_channel` and `loseLink_signals`, the lamps by
`loseLink_lamp`, and the records one at a time. -/
theorem linkLossAndBasisExpiry : Obligations.LinkLossAndBasisExpiry := by
  refine ⟨fun s hout => ?_, fun slot s hout => ?_⟩
  · refine ⟨lapses_of_timed (exec_linkSupervisionExpiry s) Option.isSome_iff_ne_none ranOut_iff, fun hcomes => ?_⟩
    have hexec := acts_of_timed (exec_linkSupervisionExpiry s) Option.isSome_iff_ne_none ranOut_iff hcomes
    rw [whenOut_of_isOut (by simpa using hout)] at hexec
    have hran := ranBy_frame .linkSupervisionExpiry s
    generalize ranBy .linkSupervisionExpiry s = r at *
    have hrlu := loseLink_rlu r
    have hchannel := loseLink_channel r
    have hlamp := loseLink_lamp r
    have hrecord (slot : Slot) := loseLink_record slot r
    have hsignals := loseLink_signals r
    have hposted := loseLink_posted r
    have hlead := loseLink_lead r
    have hframe := loseLink_frame r
    generalize loseLink r = t at *
    rw [hran.rlu (by decide)] at hrlu
    rw [hran.ge (by decide)] at hchannel
    rw [hran.lamps (by decide)] at hlamp
    rw [hran.aau (by decide)] at hrecord hlead
    exact ⟨t, hexec, hrlu, NotPosted.trans_posted (.of_frame hran (by decide)) hposted, hchannel,
      hsignals.of_same (fun i => by rw [hran.ge (by decide)]) rfl (.of_frame hran (by decide)) (.refl _ _), hlamp,
      fun slot => (hrecord slot).trans (DriverRecord.loseLink_eq _), hlead, .after hframe (by decide) (hran.mono (by decide))⟩
  · refine ⟨lapses_of_timed (exec_basisTimerExpiry slot s) Option.isSome_iff_ne_none ranOut_iff, fun hcomes => ?_⟩
    have hexec := acts_of_timed (exec_basisTimerExpiry slot s) Option.isSome_iff_ne_none ranOut_iff hcomes
    rw [whenOut_of_isOut (by simpa using hout)] at hexec
    have hrecord (q : Slot) := modifyRecord_record slot q DriverRecord.basisExpires (ranBy (.basisTimerExpiry slot) s)
    refine ⟨_, hexec, (hrecord slot).trans (if_pos rfl), fun q hq => (hrecord q).trans (if_neg hq), ?_,
      .after (modifyRecord_frame _ _ _) (by decide) ((ranBy_frame _ s).mono (by decide))⟩
    cases slot <;> rfl

end Sys2Proof.Machine
end

section
/-! SUPPORT. What an accepted SET_CHANNEL does to its channel (R22, R44), and the conditions acted on after it (R40). -/
namespace Sys2Proof.Machine

/-! ### The configured channel -/

section configured
variable {c : Channel} {k : ChannelConfig} {cycle : Bool} {live : Source → Bool}

theorem Channel.select_disabled (he : c.enabled = false) : c.select live = none := if_neg (by simp [he])

theorem Channel.select_empty (h : ∀ a, c.value a = none) : c.select live = none := by
  cases hs : c.select live with
  | none => rfl
  | some a =>
    obtain ⟨-, -, -, hvalue⟩ := Channel.select_some live hs
    simp [h a] at hvalue

/-- R11: a channel without an active source keeps none. -/
theorem Channel.reselect_none (ha : c.active = none) (hs : c.select live = none) : c.reselect live = c := by
  rw [Channel.reselect_eq, if_neg (by simp [ha]), hs, ← ha]

theorem Channel.configure_disabled (hk : k.enabled = false) : c.configure cycle k = (c.withConfig k).disable :=
  if_neg (by simp [hk])

/-- R22: a request that disables a channel clears its running state. -/
theorem Channel.reconfigured_disabled (hk : k.enabled = false) : (c.configure cycle k).reselect live = (c.withConfig k).disable := by
  rw [Channel.configure_disabled hk]
  exact Channel.reselect_none rfl (Channel.select_disabled hk)

theorem Channel.configure_enabled (hk : k.enabled = true) (he : c.enabled = false) :
    c.configure cycle k = if cycle then (c.withConfig k).enterHoming else c.withConfig k := by
  rw [Channel.configure, if_pos hk, if_neg (by simp [he])]

theorem Channel.Sound.unselected (h : c.Sound) (he : c.enabled = false) : c.active = none := by
  cases ha : c.active with
  | none => rfl
  | some a =>
    obtain ⟨henabled, -⟩ := h.listed a ha
    simp [he] at henabled

theorem Channel.Sound.empty (h : c.Sound) (he : c.enabled = false) : c.state = .unhomed ∧ ∀ a, c.value a = none := by
  obtain ⟨hstate, hd, hs, hr⟩ := h.disabled.resolve_left (by simp [he])
  exact ⟨hstate, fun a => by cases a <;> assumption⟩

/-- R22, R44: a request that enables a channel, which homes in the ignition cycle. -/
theorem Channel.reconfigured_enabled (h : c.Sound) (hk : k.enabled = true) (he : c.enabled = false) :
    (c.configure cycle k).reselect live = if cycle then (c.withConfig k).enterHoming else c.withConfig k := by
  have hactive := h.unselected he
  obtain ⟨-, hvalue⟩ := h.empty he
  rw [Channel.configure_enabled hk he]
  cases cycle
  · exact Channel.reselect_none (c := c.withConfig k) hactive (Channel.select_empty fun a =>
      (show (c.withConfig k).value a = c.value a by cases a <;> rfl).trans (hvalue a))
  · exact Channel.reselect_none (c := (c.withConfig k).enterHoming) hactive (Channel.select_empty fun a =>
      (show (c.withConfig k).enterHoming.value a = c.value a by cases a <;> rfl).trans (hvalue a))

theorem Channel.configure_kept (hk : k.enabled = true) (he : c.enabled = true) :
    c.configure cycle k = (c.withConfig k).keepListed := by
  rw [Channel.configure, if_pos hk, if_pos he]

end configured

/-! ### The state after a request -/

/-- Whatever does not read the pending curve of a channel is the same of two channels that differ in it alone. -/
theorem Channel.eq_but_pending {α : Type} (f : Channel → α) (hf : ∀ c : Channel, f c = f { c with pendingCurve := none })
    {c d : Channel} (h : { c with pendingCurve := none } = { d with pendingCurve := none }) : f c = f d := by rw [hf, h, ← hf]

section applied
variable (k : ChannelConfig) (s : State)

/-- R22: the configured channel in its place. -/
def channelPlaced : State := s.setGe { s.ge with channels := s.ge.channels.set k.channel (configured k s) }

/-- R22: the configured channel in its place, its signal change posted. -/
def channelPosted : State := postSignalChange k.channel (s.ge.channels.get k.channel) (configured k s) (channelPlaced k s)

theorem channelTold_eq : channelTold k s = handSpeed (vehicleSpeed s) (channelPosted k s) := rfl

theorem applyChannel_same (i : Fin 8) : { (applyChannel k s).ge.channels.get i with pendingCurve := none } =
    { if i = k.channel then configured k s else s.ge.channels.get i with pendingCurve := none } := by
  have hplaced : (channelPosted k s).ge.channels.get i = if i = k.channel then configured k s else s.ge.channels.get i := by
    rw [channelPosted, postSignalChange_ge]
    exact Tab.get_set ..
  rw [applyChannel_eq, powerConditions_ge, channelShown, formGaugeAny_ge, channelTold_eq, ← hplaced]
  rcases handSpeed_channel i (vehicleSpeed s) (channelPosted k s) with h | h <;> rw [h]
  rfl

/-- R22: the events of a request that the conditions of the Gauge Engine do not make. -/
theorem applyChannel_told {e : EventKind} (hpower : e ≠ .powerState) (hdropped : e ≠ .chimeDropped) :
    NotPosted e (channelPosted k s) (applyChannel k s) :=
  NotPosted.trans (.of_frame (handSpeed_frame _ _) (by decide)) (.trans ((formGaugeAny_tells _ _).notPosted (by simpa using hdropped))
    ((powerConditions_tells _).notPosted (by simp [hpower, hdropped])))

theorem channelPlaced_quiet (e : EventKind) : NotPosted e s (channelPlaced k s) := .of_frame (setGe_frame s _) (by decide)

/-- R22: GAUGE_NO_SIGNAL where an enabled channel loses its signal, GAUGE_SIGNAL_RESTORED where one gains it. -/
theorem channelPosted_noSignal : if (s.ge.channels.get k.channel).signal && !(configured k s).signal && (configured k s).enabled then
      Posted .gaugeNoSignal k.channel.val s (channelPosted k s) else NotPosted .gaugeNoSignal s (channelPosted k s) := by
  have hplaced := channelPlaced_quiet k s
  unfold channelPosted postSignalChange
  split
  · exact (hplaced _).trans_posted (posted_post _ _ _)
  · split
    · exact (hplaced _).trans (notPosted_post (by decide) _ _)
    · exact hplaced _

theorem channelPosted_restored : if !(s.ge.channels.get k.channel).signal && (configured k s).signal then
      Posted .gaugeSignalRestored k.channel.val s (channelPosted k s) else NotPosted .gaugeSignalRestored s (channelPosted k s) := by
  have hplaced := channelPlaced_quiet k s
  unfold channelPosted postSignalChange
  by_cases hgains : (!(s.ge.channels.get k.channel).signal && (configured k s).signal) = true
  · have hkept : ¬((s.ge.channels.get k.channel).signal && !(configured k s).signal && (configured k s).enabled) = true := by
      rw [Bool.and_eq_true, Bool.not_eq_true'] at hgains
      simp [hgains.1]
    rw [if_pos hgains, if_neg hkept, if_pos hgains]
    exact (hplaced _).trans_posted (posted_post _ _ _)
  · rw [if_neg hgains, if_neg hgains]
    split
    · exact (hplaced _).trans (notPosted_post (by decide) _ _)
    · exact hplaced _

theorem channelPosted_quiet {e : EventKind} (hlost : e ≠ .gaugeNoSignal) (hgained : e ≠ .gaugeSignalRestored) :
    NotPosted e s (channelPosted k s) := by
  have hplaced := channelPlaced_quiet k s e
  unfold channelPosted postSignalChange
  split
  · exact hplaced.trans (notPosted_post hlost _ _)
  · split
    · exact hplaced.trans (notPosted_post hgained _ _)
    · exact hplaced

end applied

/-! ### The conditions of the Gauge Engine (R40) -/

section conditions
variable (s : State)

theorem powerConditions_state : (powerConditions s).pwc.state =
    if s.pwc.state = .runCheck ∧ s.pwc.selfCheck = .runOut ∧ checkComplete s.ge = true then .run
    else if s.pwc.state = .parking ∧ parkingComplete s.ge = true then .standby else s.pwc.state := by
  unfold powerConditions
  split
  · next h =>
    rw [h]
    split
    · next hc =>
      rw [if_pos (by simpa using hc)]
      simp
    · next hc =>
      rw [if_neg (by simpa using hc), if_neg (by simp), h]
  · next h =>
    rw [h]
    split
    · next hc =>
      rw [if_neg (by simp), if_pos ⟨rfl, hc⟩]
      simp
    · next hc => rw [if_neg (by simp), if_neg (by simp [hc]), h]
  · next h => rw [if_neg (by simp [h]), if_neg (by simp [h])]
  · next h => rw [if_neg (by simp [h]), if_neg (by simp [h])]

theorem gaugeContribution_power {g : GaugeEngine} {power power' : PowerState} (h : power' = .run ↔ power = .run) (n : Fin 48) :
    gaugeContribution g power' n = gaugeContribution g power n := gaugeContribution_congr h fun _ _ => Iff.rfl

theorem runEntry_gauge {s : State} {n : Fin 48} (h : (s.lamps.get n).gauge = gaugeContribution s.ge s.pwc.state n) :
    ((runEntry s).lamps.get n).gauge = gaugeContribution (runEntry s).ge (runEntry s).pwc.state n := by
  let entered := enterPower .run (s.setPwc { s.pwc with selfCheck := .stopped })
  have hentered : OnlyChanges [.power, .events] s entered :=
    .after (enterPower_frame _ _) (by decide) ((setPwc_frame s _).mono (by decide))
  have hformed : OnlyChanges [.lamps, .chimes, .events] entered (formAllGauge entered) := formGaugeAny_frame _ _
  have hjudged := judgeTone_frame (formAllGauge entered)
  have hge : (runEntry s).ge = s.ge :=
    (hjudged.ge (by decide)).trans ((hformed.ge (by decide)).trans (hentered.ge (by decide)))
  have hstate : entered.pwc.state = .run := by simp [entered, enterPower]
  have hstored := formGaugeAny_stored (namedLamps entered.ge) entered n
  have hlamp : ((runEntry s).lamps.get n).gauge = ((formAllGauge entered).lamps.get n).gauge := by
    rw [show (runEntry s).lamps = (formAllGauge entered).lamps from hjudged.lamps (by decide)]
  rw [hlamp, hge, runEntry_pwc]
  rw [hentered.ge (by decide), hentered.lamps (by decide), hstate] at hstored
  by_cases hn : n ∈ namedLamps s.ge
  · rw [if_pos hn] at hstored
    have hgauge := congrArg Lamp.gauge hstored
    exact hgauge
  · rw [if_neg hn] at hstored
    have hgauge : ((formAllGauge entered).lamps.get n).gauge = (s.lamps.get n).gauge :=
      Lamp.eq_of_stored (·.gauge) (fun _ => rfl) hstored
    rw [hgauge, h]
    exact gaugeContribution_named hn

/-- R14: a gauge contribution that stands as it would be formed still does once the conditions are acted on. -/
theorem powerConditions_gauge {n : Fin 48} (h : (s.lamps.get n).gauge = gaugeContribution s.ge s.pwc.state n) :
    ((powerConditions s).lamps.get n).gauge = gaugeContribution (powerConditions s).ge (powerConditions s).pwc.state n := by
  unfold powerConditions
  split
  · split
    · exact runEntry_gauge h
    · exact h
  · next hparking =>
    split
    · have hframe := parkingDone_frame s
      rw [hframe.lamps (by decide), hframe.ge (by decide), h]
      exact (gaugeContribution_power (by simp [hparking]) n).symm
    · exact h
  · exact h
  · exact h

end conditions

end Sys2Proof.Machine
end

section
/-! CERTIFICATE. SET_CHANNEL, what it does to the running state (R22, R34, R40, R44). -/
namespace Sys2Proof.Machine

section effect
variable {k : ChannelConfig} {b : State}

/-- R22: a request that disables its channel. -/
theorem applied_disabled (hk : k.enabled = false) : configured k b = ((b.ge.channels.get k.channel).withConfig k).disable :=
  Channel.reconfigured_disabled hk

theorem applied_enabled (hsound : (b.ge.channels.get k.channel).Sound) (hk : k.enabled = true)
    (he : (b.ge.channels.get k.channel).enabled = false) :
    configured k b = if inCycle b then ((b.ge.channels.get k.channel).withConfig k).enterHoming
      else (b.ge.channels.get k.channel).withConfig k := Channel.reconfigured_enabled hsound hk he

theorem applied_kept (hk : k.enabled = true) (he : (b.ge.channels.get k.channel).enabled = true) :
    configured k b = (((b.ge.channels.get k.channel).withConfig k).keepListed).reselect (sourceLive b) := by
  rw [configured, Channel.configure_kept hk he]

/-- R14, R22: the gauge contributions formed again as a request changes whether its channel is enabled, or its fault lamp. -/
theorem applyChannel_gauge {n : Fin 48} (h : (b.ge.channels.get k.channel).enabled ≠ (configured k b).enabled ∨
      (b.ge.channels.get k.channel).faultLamp ≠ (configured k b).faultLamp)
    (hn : n = (b.ge.channels.get k.channel).faultLamp ∨ n = (configured k b).faultLamp) :
    ((applyChannel k b).lamps.get n).gauge = gaugeContribution (applyChannel k b).ge (applyChannel k b).pwc.state n := by
  have hmem : n ∈ configLamps (b.ge.channels.get k.channel) (configured k b) := by
    rw [configLamps, if_pos (by simpa using h)]
    simpa using hn
  have hshown : ((channelShown k b).lamps.get n).gauge = gaugeContribution (channelShown k b).ge (channelShown k b).pwc.state n := by
    have hstored := formGaugeAny_stored (configLamps (b.ge.channels.get k.channel) (configured k b)) (channelTold k b) n
    rw [if_pos hmem] at hstored
    have hgauge := congrArg Lamp.gauge hstored
    have hframe := formGaugeAny_frame (channelTold k b) (configLamps (b.ge.channels.get k.channel) (configured k b))
    rw [channelShown, hframe.ge (by decide), hframe.pwc (by decide)]
    exact hgauge
  rw [applyChannel_eq]
  exact powerConditions_gauge _ hshown

end effect

/-- R32: coils that do not walk hold their index. -/
theorem Channel.coilsDuring_still {c : Channel} (h : c.walk = []) (low : Bool) (micros : Nat) : c.coilsDuring low micros = c.coils := by
  rw [Channel.coilsDuring, h]
  cases hc : c.coils with
  | released => rfl
  | energized n => exact ite_self _

theorem coilDuring_still {t : State} {i : Fin 8} (h : (t.ge.channels.get i).walk = []) (micros : Nat) :
    coilDuring t i micros = coilLead t i := by
  rw [coilDuring, coilLead, Channel.coilsDuring_still h]

/-- R22: a kept channel, its selection made again, is the old one but for the configuration and the values dropped. -/
theorem Channel.kept_reselect {c : Channel} {k : ChannelConfig} (live : Source → Bool)
    (hrests : c.state = .unhomed ∨ c.state = .parked) : ((c.withConfig k).keepListed).reselect live =
      { (c.withConfig k).keepListed with
        active := ((c.withConfig k).keepListed).select live
        filter := if c.active ≠ none ∧ ((c.withConfig k).keepListed).select live = none then 0 else c.filter } := by
  have hstate : (c.withConfig k).keepListed.state ≠ .tracking := by
    show c.state ≠ .tracking
    rcases hrests with h | h <;> simp [h]
  have hloses : ((c.withConfig k).keepListed.active.isSome = true ∧ (c.withConfig k).keepListed.select live = none) ↔
      (c.active ≠ none ∧ (c.withConfig k).keepListed.select live = none) := and_congr_left' Option.isSome_iff_ne_none
  rw [Channel.reselect_eq]
  by_cases h : c.active ≠ none ∧ (c.withConfig k).keepListed.select live = none
  · rw [if_pos (hloses.2 h), if_neg hstate, if_pos h, h.2]
  · rw [if_neg (mt hloses.1 h), if_neg h]
    rfl

/-- Settles O16: the channel by how the request changes whether it is enabled, the events by its change of signal, and the
conditions of the Gauge Engine by `powerConditions_state`. -/
theorem channelRequestActs : Obligations.ChannelRequestActs := by
  intro args i s hout hw hsound hi hlamp hlisted c hearly hcurve
  obtain ⟨k, hk, hki, hreads⟩ := channelConfigOf_eq_some hi hlamp hlisted
  subst hki
  have hge : (beginFrame .s s).ge = s.ge := beginFrame_ge ..
  have hcycle : inCycle (beginFrame .s s) = inCycle s := by
    rw [inCycle, beginFrame_pwc]
    rfl
  have hc : c.Sound := ((gaugesSound_iff s).1 hsound).sound k.channel
  have henabled := hreads.enabled
  have hreply : setChannelReply .s args (beginFrame .s s) = accept [] (applyChannel k (beginFrame .s s)) := by
    rw [setChannelReply_config (by simpa using hw) hk]
    refine changeChannel_accepted ?_ ?_
    · rw [hge, henabled]
      rintro ⟨he, hu, hp⟩
      exact (hearly he).elim hu hp
    · rw [hge, hreads.sweepLimit]
      rintro ⟨q, hq, hlow⟩
      exact absurd (hcurve q hq) (by omega)
  have hanswers := answers_of_takenFrame (exec_setChannel .s args s) hout hreply
  have hsame (j : Fin 8) := applyChannel_same k (beginFrame .s s) j
  have htold {e : EventKind} (hpower : e ≠ .powerState) (hdropped : e ≠ .chimeDropped) :=
    applyChannel_told k (beginFrame .s s) hpower hdropped
  have hlost := channelPosted_noSignal k (beginFrame .s s)
  have hgained := channelPosted_restored k (beginFrame .s s)
  have hgauge (n : Fin 48) := applyChannel_gauge (k := k) (b := beginFrame .s s) (n := n)
  have hstate := powerConditions_state (channelShown k (beginFrame .s s))
  have hshown := channelShown_frame k (beginFrame .s s)
  rw [hge] at hgauge hlost hgained hsame
  refine ⟨applyChannel k (beginFrame .s s), ?_⟩
  intro b a
  obtain ⟨curve, ha⟩ : ∃ curve, a = { configured k b with pendingCurve := curve } := by
    have h := hsame k.channel
    rw [if_pos rfl] at h
    exact ⟨a.pendingCurve, congrArg (fun c : Channel => { c with pendingCurve := a.pendingCurve }) h⟩
  have hquiet {e : EventKind} (hpower : e ≠ .powerState) (hdropped : e ≠ .chimeDropped) (hlost : e ≠ .gaugeNoSignal)
      (hgained : e ≠ .gaugeSignalRestored) : NotPosted e b (applyChannel k b) :=
    (channelPosted_quiet k b hlost hgained).trans (htold hpower hdropped)
  have hnotLost (h : ¬(c.signal && !(configured k b).signal && (configured k b).enabled) = true) :
      NotPosted .gaugeNoSignal b (applyChannel k b) := by
    rw [if_neg h] at hlost
    exact hlost.trans (htold (by decide) (by decide))
  have hnotGained (h : ¬(!c.signal && (configured k b).signal) = true) : NotPosted .gaugeSignalRestored b (applyChannel k b) := by
    rw [if_neg h] at hgained
    exact hgained.trans (htold (by decide) (by decide))
  have hfresh (he : args.enabled = true) (hoff : c.enabled = false) : configured k b =
      if inCycle s then (c.withConfig k).enterHoming else c.withConfig k := by
    have hc' : (b.ge.channels.get k.channel).Sound := by rw [hge]; exact hc
    rw [applied_enabled hc' (henabled.trans he) (by rw [hge]; exact hoff), hcycle, hge]
  have hset : (configured k b).enabled = args.enabled := by
    have hconfig : (configured k b).config k.channel = k :=
      (Channel.reselect_config ..).trans (Channel.configure_config ..)
    exact (congrArg ChannelConfig.enabled hconfig).trans henabled
  have hgone (he : args.enabled = false) : configured k b = (c.withConfig k).disable := by
    rw [applied_disabled (henabled.trans he), hge]
  refine ⟨hanswers, fun he => ?_, fun he hoff => ?_, fun hstill micros => ?_, fun he hon => ?_, fun hchange n hn => ?_, fun j hj => ?_, ?_, ?_⟩
  · have hd := hgone he
    rw [ha, hd]
    refine ⟨rfl, rfl, rfl, rfl, rfl, rfl, rfl, rfl, rfl, rfl, rfl, hnotLost ?_, hnotGained ?_,
      hquiet (by decide) (by decide) (by decide) (by decide)⟩
    · rw [hd]
      simp [Channel.disable, Channel.withConfig, henabled.trans he]
    · rw [hd]
      simp [Channel.disable, Channel.signal]
  · have hnone := hc.unselected hoff
    obtain ⟨hunhomed, hvalue⟩ := hc.empty hoff
    have hsignal : (configured k b).signal = false := by
      rw [hfresh he hoff]
      split <;> simp [Channel.signal, Channel.enterHoming, Channel.withConfig, hnone]
    have hbefore : c.signal = false := by simp [Channel.signal, hnone]
    have hlostNot := hnotLost (by simp [hbefore])
    have hgainedNot := hnotGained (by simp [hsignal])
    rw [ha, hfresh he hoff]
    cases hin : inCycle s
    · exact ⟨hvalue .portD, hvalue .portS, hvalue .recorder, hnone, hlostNot, hgainedNot, hunhomed⟩
    · exact ⟨hvalue .portD, hvalue .portS, hvalue .recorder, hnone, hlostNot, hgainedNot, rfl, rfl, rfl, rfl, rfl, rfl⟩
  · refine coilDuring_still ?_ micros
    show a.walk = []
    rw [ha]
    rcases hstill with he | ⟨hoff, hin⟩
    · rw [hgone he]
      rfl
    · cases he : args.enabled
      · rw [hgone he]
        rfl
      · rw [hfresh he hoff, hin]
        rfl
  · have hkept : configured k b = { (c.withConfig k).keepListed with
        active := ((c.withConfig k).keepListed).select (sourceLive b)
        filter := if c.active ≠ none ∧ ((c.withConfig k).keepListed).select (sourceLive b) = none then 0 else c.filter } := by
      rw [applied_kept (henabled.trans he) (by rw [hge]; exact hon), hge]
      exact Channel.kept_reselect _ (hearly he)
    have hactive : a.active = (configured k b).active := by rw [ha]
    have hloses : (c.signal && !(configured k b).signal && (configured k b).enabled) = true ↔ c.active ≠ none ∧ a.active = none := by
      rw [hactive, hset, he, Channel.signal, Channel.signal, Bool.and_true, Bool.and_eq_true, Bool.not_eq_true',
        Option.isSome_iff_ne_none, Option.isSome_eq_false_iff, Option.isNone_iff_eq_none]
    have hgains : (!c.signal && (configured k b).signal) = true ↔ c.active = none ∧ a.active ≠ none := by
      rw [hactive, Channel.signal, Channel.signal, Bool.and_eq_true, Bool.not_eq_true', Option.isSome_iff_ne_none,
        Option.isSome_eq_false_iff, Option.isNone_iff_eq_none]
    refine ⟨?_, fun q => ?_, ?_, ?_, ?_, ?_, ?_, ?_, ?_, ?_, ?_⟩
    · rw [ha, hkept]
      rfl
    · have hvalue : a.value q = (c.withConfig k).keepListed.value q := by
        rw [ha, hkept]
        cases q <;> rfl
      have hlists : (c.withConfig k).lists q = true ↔ a.primary = q ∨ a.fallback = some q := by
        rw [Channel.lists_iff, ha, hkept]
        rfl
      rw [hvalue, Channel.keepListed_value]
      exact if_congr hlists (by cases q <;> rfl) rfl
    iterate 6
      · rw [ha, hkept]
        rfl
    · rw [hactive, ha, hkept]
    · by_cases h : c.active ≠ none ∧ a.active = none
      · rw [if_pos (hloses.2 h)] at hlost
        rw [if_pos h]
        exact hlost.trans_notPosted (htold (by decide) (by decide))
      · rw [if_neg h]
        exact hnotLost (mt hloses.1 h)
    · by_cases h : c.active = none ∧ a.active ≠ none
      · rw [if_pos (hgains.2 h)] at hgained
        rw [if_pos h]
        exact hgained.trans_notPosted (htold (by decide) (by decide))
      · rw [if_neg h]
        exact hnotGained (mt hgains.1 h)
  · have halamp : a.faultLamp = (configured k b).faultLamp := by rw [ha]
    exact hgauge n (hchange.imp (hset ▸ ·) (halamp ▸ ·)) (hn.imp_right (halamp ▸ ·))
  · have h := hsame j
    rw [if_neg hj] at h
    exact congrArg (fun c : Channel => { c with pendingCurve := (s.ge.channels.get j).pendingCurve }) h
  · rw [applyChannel_eq, hstate, hshown.pwc (by decide), beginFrame_pwc, powerConditions_ge]
  · have hframe : OnlyChanges [.gauges, .window, .lamps, .chimes, .events, .power, .ports, .recorder] b (applyChannel k b) :=
      .after (powerConditions_frame _) (by decide) (hshown.mono (by decide))
    exact ⟨(hframe.lmd (by decide)).trans (beginFrame_lmd ..), (hframe.cc (by decide)).trans (beginFrame_cc ..),
      (hframe.aau (by decide)).trans (beginFrame_aau ..), (hframe.inputs (by decide)).trans (beginFrame_inputs ..),
      (hframe.rst (by decide)).trans (beginFrame_rst ..)⟩

end Sys2Proof.Machine
end

section
/-! SUPPORT. What a rule that runs once for each of several slots leaves in the two records (R134, R138): each record by its own
entry, whatever the order. -/
namespace Sys2Proof.Machine

section slots
variable {α : Type} {act : Slot × α → State → State} {f : Slot × α → DriverRecord → DriverRecord} {Q : State → Prop}

/-- An action for one slot: it keeps `Q`, and changes the record of that slot alone. -/
def OnOneSlot (Q : State → Prop) (act : Slot × α → State → State) (f : Slot × α → DriverRecord → DriverRecord) : Prop :=
  ∀ c s, Q s → Q (act c s) ∧ ∀ q, (act c s).aau.record q = if q = c.1 then f c (s.aau.record q) else s.aau.record q

/-- At most one entry for a slot. -/
def OncePerSlot (l : List (Slot × α)) : Prop := l.Pairwise fun c d => c.1 ≠ d.1

theorem OncePerSlot.arrange {l : List (Slot × α)} (h : OncePerSlot l) (k : Nat) : OncePerSlot (arrange k l) :=
  (arrange_perm k l).symm.pairwise h Ne.symm

theorem forEach_record (hact : OnOneSlot Q act f) (l : List (Slot × α)) (s : State) (hQ : Q s) :
    (∀ q, (∀ c ∈ l, c.1 ≠ q) → (forEach act l s).aau.record q = s.aau.record q) ∧
    (OncePerSlot l → ∀ c ∈ l, (forEach act l s).aau.record c.1 = f c (s.aau.record c.1)) := by
  induction l generalizing s with
  | nil => exact ⟨fun _ _ => rfl, fun _ c hc => absurd hc List.not_mem_nil⟩
  | cons d l ih =>
    obtain ⟨hkept, hrecord⟩ := hact d s hQ
    obtain ⟨hother, hown⟩ := ih (act d s) hkept
    refine ⟨fun q hq => ?_, fun honce c hc => ?_⟩
    · rw [forEach_cons, hother q fun c hc => hq c (List.mem_cons_of_mem _ hc), hrecord,
        if_neg fun h => hq d List.mem_cons_self h.symm]
    · obtain ⟨hfirst, hrest⟩ := List.pairwise_cons.1 honce
      rw [forEach_cons]
      rcases List.mem_cons.1 hc with rfl | hc
      · rw [hother c.1 fun e he => (hfirst e he).symm, hrecord, if_pos rfl]
      · rw [hown hrest c hc, hrecord, if_neg (hfirst c hc).symm]

theorem inSomeOrder_record (hact : OnOneSlot Q act f) (hQ : ∀ n s, Q s → Q (s.setChoices n)) (l : List (Slot × α)) (s : State)
    (hs : Q s) :
    (∀ q, (∀ c ∈ l, c.1 ≠ q) → (inSomeOrder l (forEach act) s).aau.record q = s.aau.record q) ∧
    (OncePerSlot l → ∀ c ∈ l, (inSomeOrder l (forEach act) s).aau.record c.1 = f c (s.aau.record c.1)) := by
  have hperm := arrange_perm s.choices l
  obtain ⟨hother, hown⟩ := forEach_record hact (arrange s.choices l) _ (hQ (s.choices + (l.length - 1)) s hs)
  exact ⟨fun q hq => hother q fun c hc => hq c (hperm.mem_iff.1 hc),
    fun honce c hc => hown (honce.arrange _) c (hperm.mem_iff.2 hc)⟩

end slots

/-! ### The credits of a minute (R138, R139) -/

theorem Tallies.of_le_largest (t : Tallies) (a : Activity) : t.of a ≤ t.largest := by
  simp only [Tallies.largest, creditOrder, List.map, List.foldl]
  cases a <;> simp only [Tallies.of] <;> omega

theorem Tallies.favours_of_pick {t : Tallies} {a : Activity} (h : t.pick = some a) : t.Favours a := by
  unfold Tallies.pick at h
  split at h
  · exact absurd h (by simp)
  · next hsome =>
    obtain ⟨hlargest, before, after, horder, hbefore⟩ := List.find?_eq_some_iff_append.1 h
    have hlargest : t.of a = t.largest := by simpa using hlargest
    have hnot {b : Activity} (hb : t.of b = t.largest) : b ∉ before := fun hmem => by simpa [hb] using hbefore b hmem
    refine ⟨by omega, fun b => ?_⟩
    rcases Nat.lt_or_eq_of_le (t.of_le_largest b) with hlt | heq
    · exact .inl (hlargest ▸ hlt)
    · refine .inr ⟨heq.trans hlargest.symm, ?_⟩
      show List.idxOf a creditOrder ≤ List.idxOf b creditOrder
      rw [horder, List.idxOf_append_of_notMem (hnot hlargest), List.idxOf_append_of_notMem (hnot heq), List.idxOf_cons_self]
      omega

theorem Tallies.Favours.unique {t : Tallies} {a b : Activity} (ha : t.Favours a) (hb : t.Favours b) : a = b := by
  obtain ⟨-, ha⟩ := ha
  obtain ⟨-, hb⟩ := hb
  have hmem : a ∈ ([.drive, .work, .available, .rest, .unknown] : List Activity) := by cases a <;> decide
  refine (List.idxOf_inj hmem).1 (Nat.le_antisymm ?_ ?_)
  · rcases ha b with h | h
    · rcases hb a with h' | h' <;> omega
    · exact h.2
  · rcases hb a with h | h
    · rcases ha b with h' | h' <;> omega
    · exact h.2

theorem Tallies.pick_eq_some_iff (t : Tallies) (a : Activity) : t.pick = some a ↔ t.Favours a := by
  refine ⟨favours_of_pick, fun h => ?_⟩
  cases hpick : t.pick with
  | some b => rw [(favours_of_pick hpick).unique h]
  | none =>
    have hle : t.largest ≤ t.of a := by
      have hall (b : Activity) : t.of b ≤ t.of a := by rcases h.2 b with h' | h' <;> omega
      simp only [largest, creditOrder, List.map, List.foldl]
      have := hall .drive; have := hall .work; have := hall .available; have := hall .rest; have := hall .unknown
      omega
    have hpos := h.1
    have hmem : a ∈ creditOrder := by cases a <;> decide
    have hmost := t.of_le_largest a
    have hsome : ¬t.largest = 0 := by omega
    unfold pick at hpick
    rw [if_neg hsome, List.find?_eq_none] at hpick
    exact absurd (Nat.le_antisymm hmost hle) (by simpa using hpick a hmem)

/-- R136, R138: the activity that a record picks with the second that completes the minute. -/
theorem DriverRecord.picked_tally (r : DriverRecord) (a : Activity) : r.tally.picked = some a ↔ r.Picks a := by
  unfold picked tally Picks
  by_cases hcard : r.card = true
  · simp only [hcard, if_true, true_and]
    exact Tallies.pick_eq_some_iff _ a
  · simp [hcard]

theorem crewConflict_tallySecond (s : State) : crewConflict (tallySecond s).aau = true ↔ CrewConflict s := by
  simp only [crewConflict, Bool.and_eq_true, decide_eq_true_iff, CrewConflict]
  exact and_congr (DriverRecord.picked_tally _ _) (DriverRecord.picked_tally _ _)

theorem mem_credits (a : Accounting) (c : Slot × Activity) : c ∈ credits a ↔
    (c.1 = .one ∧ a.one.picked = some c.2) ∨ (c.1 = .two ∧ (if crewConflict a then some .available else a.two.picked) = some c.2) := by
  obtain ⟨q, x⟩ := c
  simp only [credits, List.mem_append, Option.mem_toList, Option.map_eq_some_iff, Prod.mk.injEq]
  constructor
  · rintro (⟨y, hy, rfl, rfl⟩ | ⟨y, hy, rfl, rfl⟩)
    exacts [.inl ⟨rfl, hy⟩, .inr ⟨rfl, hy⟩]
  · rintro (⟨rfl, hy⟩ | ⟨rfl, hy⟩)
    exacts [.inl ⟨x, hy, rfl, rfl⟩, .inr ⟨x, hy, rfl, rfl⟩]

theorem oncePerSlot_credits (a : Accounting) : OncePerSlot (credits a) := by
  unfold OncePerSlot credits
  cases a.one.picked <;> cases (if crewConflict a then some Activity.available else a.two.picked) <;> simp

/-- R138, R139: the slots credited, with their activities. -/
theorem mem_credits_tallySecond (s : State) (c : Slot × Activity) : c ∈ credits (tallySecond s).aau ↔ Credited s c.1 c.2 := by
  rw [mem_credits, Credited]
  have hone : (tallySecond s).aau.one.picked = some c.2 ↔ s.aau.one.Picks c.2 := DriverRecord.picked_tally _ _
  have htwo : (tallySecond s).aau.two.picked = some c.2 ↔ s.aau.two.Picks c.2 := DriverRecord.picked_tally _ _
  obtain ⟨q, x⟩ := c
  have hcrew := crewConflict_tallySecond s
  rw [hone]
  cases q
  · simp [Accounting.record]
  · by_cases h : CrewConflict s
    · simp [h, hcrew.2 h, eq_comm]
    · simp [h, mt hcrew.1 h, htwo, Accounting.record]

end Sys2Proof.Machine
end
section
/-! CERTIFICATE. The minute credited (R136 to R139, R142, R146). -/
namespace Sys2Proof.Machine

/-! ### One record -/

/-- R146: the history after a minute, by its last entry. -/
theorem extendHistory_last {h : List HistoryEntry} {e : HistoryEntry} (he : h.getLast? = some e) (a : Activity) (stamp : Nat)
    (unset : Bool) : extendHistory a stamp unset h =
      if e.activity = a then h.dropLast ++ [{ e with duration := min 1440 (e.duration + 1) }]
      else if 24 < h.length + 1 then h.tail ++ [⟨a, stamp, unset, 1⟩] else h ++ [⟨a, stamp, unset, 1⟩] := by
  have hne : h ≠ [] := by rintro rfl; simp at he
  rw [extendHistory, he]
  dsimp only
  rw [List.length_append, List.length_singleton, List.drop_one, List.tail_append_of_ne_nil hne]

/-- R140, R141: step 3 of a credit changes the counters alone. -/
theorem DriverRecord.creditCounters_eq (a : Activity) (r : DriverRecord) :
    ∃ continuous daily restRun firstPart runQualified, r.creditCounters a =
      { r with continuous, daily, restRun, firstPart, runQualified } := by
  cases a <;> simp only [creditCounters, creditDrive, creditRest, qualify, endRestRun] <;> split_ifs <;>
    exact ⟨_, _, _, _, _, rfl⟩

/-- R142, R146: a record after a credit, but for its counters and its warning. -/
theorem DriverRecord.credited_eq (lead : Nat) (a : Activity) (stamp : Nat) (unset : Bool) (r : DriverRecord) :
    ∃ continuous daily restRun firstPart runQualified warn, r.credited lead a stamp unset =
      { r with continuous, daily, restRun, firstPart, runQualified, warn, history := extendHistory a stamp unset r.history,
               tallies := .zero, creditSkip := false, lastCredited := some a, lastMinute := stamp,
               generation := r.generation + 1 } := by
  obtain ⟨continuous, daily, restRun, firstPart, runQualified, hcount⟩ := creditCounters_eq a r
  unfold credited counted warned
  split
  · exact ⟨_, _, _, _, _, _, rfl⟩
  · rw [hcount]
    split <;> exact ⟨_, _, _, _, _, _, rfl⟩

theorem DriverRecord.tally_eq (r : DriverRecord) : ∃ tallies, r.tally = { r with tallies } := by
  unfold tally
  split <;> exact ⟨_, rfl⟩

/-! ### Both records -/

section credits
variable (stamp : Nat) (s : State)

/-- R138 to R142: each credited slot by its activity, and the other slots as they were. -/
theorem creditMinute_record :
    (∀ q, (∀ c ∈ credits s.aau, c.1 ≠ q) → (creditMinute stamp s).aau.record q = s.aau.record q) ∧
    ∀ c ∈ credits s.aau, (creditMinute stamp s).aau.record c.1 =
      (s.aau.record c.1).credited s.aau.lead c.2 stamp (!s.cc.isSet) := by
  have hact : OnOneSlot (fun u => u.aau.lead = s.aau.lead ∧ u.cc.isSet = s.cc.isSet) (creditSlot stamp)
      (fun c r => r.credited s.aau.lead c.2 stamp (!s.cc.isSet)) := by
    intro c u ⟨hlead, hset⟩
    refine ⟨⟨by rw [creditSlot_lead, hlead], by rw [(creditSlot_frame u stamp c).cc (by decide), hset]⟩, fun q => ?_⟩
    rw [creditSlot_record, hlead, hset]
  have htold : OnlyChanges [.events] s (if crewConflict s.aau then post .recorderInconsistent 2 s else s) := by
    split
    · exact post_frame _ _ _
    · exact .refl _ _
  have haau := htold.aau (by decide)
  obtain ⟨hother, hown⟩ := inSomeOrder_record hact (fun n u hu => hu) (credits s.aau)
    (if crewConflict s.aau then post .recorderInconsistent 2 s else s) ⟨by rw [haau], by rw [htold.cc (by decide)]⟩
  rw [haau] at hother hown
  exact ⟨hother, hown (oncePerSlot_credits _)⟩

theorem creditMinute_lead : (creditMinute stamp s).aau.lead = s.aau.lead := by
  have hcredits (l : List (Slot × Activity)) (u : State) : (inSomeOrder l (forEach (creditSlot stamp)) u).aau.lead = u.aau.lead :=
    inSomeOrder_keeps (fun u => u.aau.lead) _ (fun _ _ => rfl)
      (forEach_keeps (fun u => u.aau.lead) _ fun c u => creditSlot_lead stamp c u) l u
  unfold creditMinute
  dsimp only
  rw [hcredits]
  split
  · rw [post_aau]
  · rfl

/-- R139: RECORDER_INCONSISTENT with argument 2 exactly in a crew conflict. -/
theorem creditMinute_conflict : (crewConflict s.aau = true → Posted .recorderInconsistent 2 s (creditMinute stamp s)) ∧
    (¬crewConflict s.aau = true → NotPosted .recorderInconsistent s (creditMinute stamp s)) := by
  have hcredits (u : State) : NotPosted .recorderInconsistent u (inSomeOrder (credits s.aau) (forEach (creditSlot stamp)) u) :=
    (inSomeOrder_tells _ (fun c _ t => creditSlot_tells t stamp c) u).notPosted (by decide)
  unfold creditMinute
  dsimp only
  refine ⟨fun h => ?_, fun h => ?_⟩
  · rw [if_pos h]
    exact (posted_post _ _ s).trans_notPosted (hcredits _)
  · rw [if_neg h]
    exact hcredits s

end credits

/-- R138: a slot that is credited holds a card. -/
theorem Credited.card {s : State} {slot : Slot} {a : Activity} (h : Credited s slot a) : (s.aau.record slot).card = true := by
  rcases h with ⟨rfl, ⟨-, hpicks⟩, -⟩ | ⟨-, hpicks⟩
  exacts [hpicks.1, hpicks.1]

/-! ### The obligation -/

theorem notPosted_tickAt {k : EventKind} (hk : k ≠ .clockTick) (p : Port) (ticks : Ticks) (s : State) :
    NotPosted k s (tickAt p ticks s) := by
  intro q
  unfold tickAt
  split
  · rw [postAt_port]
    split
    · next h =>
      rw [h]
      exact Tab.get_modify_other _ _ fun e => hk (EventKind.number_inj e)
    · rfl
  · rfl

theorem notPosted_ticked {k : EventKind} (hk : k ≠ .clockTick) (s : State) : NotPosted k s (ticked s) :=
  .trans (.of_frame (setCc_frame s _) (by decide)) ((notPosted_tickAt hk _ _ _).trans (notPosted_tickAt hk _ _ _))

/-- R102: the ticks of the advance at second 59: the second tallied, then the minute that has ended credited. -/
theorem advanceOut_minute {s : State} (hlegal : s.cc.now.legal = true) (hsecond : s.cc.now.second = 59) (hlast : s.cc.now ≠ .last) :
    advanceOut s = creditMinute (minuteStamp s.cc.now) (tallySecond (ticked s)) := by
  have hend : s.cc.atEnd = false := Bool.eq_false_iff.2 (mt (Clock.atEnd_iff _).1 hlast)
  have hstamp := advance_secondStamp hlegal
  have hlegal' : (advance s.cc.now).1.legal = true := (advance_ledTo hlegal hlast).legal
  obtain ⟨-, -, -, hnext⟩ := (DateTime.legal_iff _).1 hlegal'
  simp only [secondStamp] at hstamp
  have hminute : (advance s.cc.now).2.minute = true := (advance_ticks _).minute.2 (by omega)
  have hnow : (ticked s).cc.now = (advance s.cc.now).1 := by rw [ticked_cc]; rfl
  have hended : minuteStamp (advance s.cc.now).1 - 1 = minuteStamp s.cc.now := by omega
  rw [advanceOut_before hend, handTicks, if_pos hminute, hnow, hended]

/-- Settles O33: the records by `creditMinute_record`, the history by its last entry. -/
theorem minuteCreditedToLargestTally : Obligations.MinuteCreditedToLargestTally := by
  intro s hout hcomes hlegal hsecond hlast
  have hdone := secondDone_frame s
  have hticked : OnlyChanges [.clock, .events, .due] s (ticked (secondDone s)) :=
    .after (ticked_frame _) (by decide) (hdone.mono (by decide))
  have haau : (ticked (secondDone s)).aau = s.aau := hticked.aau (by decide)
  have hset : (tallySecond (ticked (secondDone s))).cc.isSet = s.cc.isSet := by
    show (ticked (secondDone s)).cc.isSet = s.cc.isSet
    rw [ticked_cc]
    rfl
  have htallied : (tallySecond (ticked (secondDone s))).aau = (tallySecond s).aau := by rw [tallySecond, State.setAau_aau, haau]; rfl
  have hexec := secondAdvance_out hcomes hout
  rw [advanceOut_minute (s := secondDone s) hlegal hsecond hlast] at hexec
  obtain ⟨hother, hown⟩ := creditMinute_record (minuteStamp (secondDone s).cc.now) (tallySecond (ticked (secondDone s)))
  obtain ⟨hconflict, hagreed⟩ := creditMinute_conflict (minuteStamp (secondDone s).cc.now) (tallySecond (ticked (secondDone s)))
  have hquiet : NotPosted .recorderInconsistent s (tallySecond (ticked (secondDone s))) :=
    .trans (.of_frame hdone (by decide)) ((notPosted_ticked (by decide) _).trans (.of_frame (setAau_frame _ _) (by decide)))
  rw [htallied, hset] at hown
  rw [htallied] at hother hconflict hagreed
  refine ⟨_, hexec, ?_, fun h => hquiet.trans_posted (hconflict ((crewConflict_tallySecond s).2 h)),
    fun h => hquiet.trans (hagreed (mt (crewConflict_tallySecond s).1 h)), fun slot => ?_⟩
  · rw [creditMinute_lead, htallied]
    rfl
  intro r n
  obtain ⟨tallies, htally⟩ := DriverRecord.tally_eq r
  refine ⟨fun habsent => ?_, fun a hcredited => ?_⟩
  · have hnone : ∀ c ∈ credits (tallySecond s).aau, c.1 ≠ slot := by
      rintro c hc rfl
      rw [((mem_credits_tallySecond s c).1 hc).card] at habsent
      exact absurd habsent (by decide)
    have hkept : r.tally = r := if_neg (by rw [habsent]; decide)
    exact (hother slot hnone).trans ((tallySecond_record slot s).trans hkept)
  · have hown := hown (slot, a) ((mem_credits_tallySecond s (slot, a)).2 hcredited)
    rw [tallySecond_record] at hown
    obtain ⟨continuous, daily, restRun, firstPart, runQualified, warn, hcredit⟩ :=
      DriverRecord.credited_eq (tallySecond s).aau.lead a (minuteStamp s.cc.now) (!s.cc.isSet) r.tally
    have hn : n = _ := hown.trans hcredit
    rw [htally] at hn
    intro stamp fresh
    rw [hn]
    refine ⟨rfl, rfl, rfl, rfl, rfl, rfl, rfl, rfl, rfl, rfl, rfl, rfl, rfl, fun hempty => ?_, fun e he => ?_⟩
    · show extendHistory a stamp (!s.cc.isSet) r.history = _
      rw [hempty]
      rfl
    · have hlast : extendHistory a stamp (!s.cc.isSet) r.history = _ := extendHistory_last he a stamp (!s.cc.isSet)
      refine ⟨fun hsame => hlast.trans (if_pos hsame), fun hother hshort => ?_, fun hother hfull => ?_⟩
      · exact hlast.trans ((if_neg hother).trans (if_neg (by omega)))
      · exact hlast.trans ((if_neg hother).trans (if_pos (by omega)))

end Sys2Proof.Machine
end
section
/-! CERTIFICATE. The ACTIVITY frame (R131 to R134). -/
namespace Sys2Proof.Machine

/-! ### One slot's byte -/

theorem activityActs_of_card {r : DriverRecord} {arg : ActivityArg} (h : arg.card ≠ r.card) : activityActs r arg = true := by
  unfold activityActs
  cases harg : arg.card <;> cases hr : r.card <;> simp_all

section slot
variable {c : Slot × ActivityArg} {s : State}

/-- R132, R133: a byte that inserts or removes a card. -/
theorem slotActivity_card (h : c.2.card ≠ (s.aau.record c.1).card) : slotActivity c s =
    handAccount (post .cardChange (slotNumber c.1)
      (modifyRecord c.1 (DriverRecord.takeActivity c.2 (minuteStamp s.cc.now)) s)) := by
  have hacts := activityActs_of_card h
  unfold slotActivity modifyRecord DriverRecord.takeActivity
  dsimp only
  rw [if_pos hacts, if_pos hacts]
  split
  · next hcard =>
    have habsent : ¬(s.aau.record c.1).card = true := fun hr => h (hcard.trans hr.symm)
    rw [if_neg habsent, if_neg habsent]
  · rfl

/-- R134: a byte that leaves the card where it is. -/
theorem slotActivity_kept (h : c.2.card = (s.aau.record c.1).card) : slotActivity c s =
    if c.2.card = true ∧ activityOfCode c.2.activity ≠ (s.aau.record c.1).activity then
      post .activityChange (slotNumber c.1) (modifyRecord c.1 (DriverRecord.takeActivity c.2 (minuteStamp s.cc.now)) s)
    else if activityActs (s.aau.record c.1) c.2 = true then
      modifyRecord c.1 (DriverRecord.takeActivity c.2 (minuteStamp s.cc.now)) s
    else s := by
  unfold slotActivity modifyRecord DriverRecord.takeActivity
  cases hcard : (s.aau.record c.1).card
  · rw [hcard] at h
    simp [activityActs, h, hcard]
  · rw [hcard] at h
    by_cases hact : activityOfCode c.2.activity = (s.aau.record c.1).activity
    · simp only [h, hact, hcard, ne_eq, not_true_eq_false, and_false, if_true, if_false]
      split_ifs <;> rfl
    · simp [activityActs, h, hact, hcard]

theorem takeActivity_warn {r : DriverRecord} {arg : ActivityArg} (h : arg.card = r.card) (stamp : Nat) :
    (r.takeActivity arg stamp).warn = r.warn := by
  unfold DriverRecord.takeActivity activityActs
  cases hcard : r.card
  · simp [h, hcard]
  · simp only [h, hcard, if_true]
    split <;> rfl

/-- R144: L2 holds the contribution that the two warnings give it. -/
def AccountFormed (s : State) : Prop := (s.lamps.get 2).account = some (accountContribution s.aau)

theorem accountFormed_handAccount (s : State) : AccountFormed (handAccount s) := by
  have hstored := lampUpdate_stored (fun i l => if i = 2 then { l with account := some (accountContribution s.aau) } else l) s 2
  have haccount := congrArg Lamp.account hstored
  rw [AccountFormed, handAccount_aau]
  exact haccount

theorem accountFormed_cardChange (h : c.2.card ≠ (s.aau.record c.1).card) : AccountFormed (slotActivity c s) := by
  rw [slotActivity_card h]
  exact accountFormed_handAccount _

/-- R144: L2's contribution stays formed, as only a card's change can change a warning. -/
theorem accountFormed_slotActivity (hs : AccountFormed s) : AccountFormed (slotActivity c s) := by
  by_cases h : c.2.card = (s.aau.record c.1).card
  · have hwarn (q : Slot) : ((slotActivity c s).aau.record q).warn = (s.aau.record q).warn := by
      rw [slotActivity_record]
      split
      · next hq => subst hq; exact takeActivity_warn h _
      · rfl
    have hmodify (f : DriverRecord → DriverRecord) : (modifyRecord c.1 f s).lamps = s.lamps :=
      (modifyRecord_frame s c.1 f).lamps (by decide)
    have hlamps : (slotActivity c s).lamps = s.lamps := by
      rw [slotActivity_kept h]
      split
      · rw [post_lamps, hmodify]
      · split
        · exact hmodify _
        · rfl
    rw [AccountFormed, hlamps, accountContribution_congr hwarn]
    exact hs
  · exact accountFormed_cardChange h

end slot

theorem accountFormed_forEach (l : List (Slot × ActivityArg)) (s : State)
    (h : AccountFormed s ∨ OncePerSlot l ∧ ∃ c ∈ l, c.2.card ≠ (s.aau.record c.1).card) :
    AccountFormed (forEach slotActivity l s) := by
  induction l generalizing s with
  | nil => exact h.elim id fun ⟨_, _, hc, _⟩ => absurd hc List.not_mem_nil
  | cons d l ih =>
    refine ih _ ?_
    rcases h with h | ⟨honce, c, hc, hcard⟩
    · exact .inl (accountFormed_slotActivity h)
    · obtain ⟨hfirst, hrest⟩ := List.pairwise_cons.1 honce
      rcases List.mem_cons.1 hc with rfl | hc
      · exact .inl (accountFormed_cardChange hcard)
      · refine .inr ⟨hrest, c, hc, ?_⟩
        rw [slotActivity_record, if_neg (hfirst c hc).symm]
        exact hcard

/-! ### Both bytes -/

theorem Slot.eq_of_ne {a b q : Slot} (ha : a ≠ q) (hb : b ≠ q) : a = b := by
  cases a <;> cases b <;> cases q <;> simp at ha hb ⊢

/-- The byte of a slot in an ACTIVITY frame. -/
def slotByte (one two : ActivityArg) : Slot → ActivityArg
  | .one => one
  | .two => two

section contents
variable (one two : ActivityArg) (s : State)

/-- R134: the bytes of an ACTIVITY frame that change their records. -/
def actingBytes : List (Slot × ActivityArg) :=
  [(Slot.one, one), (Slot.two, two)].filter fun c => activityActs (s.aau.record c.1) c.2

theorem mem_actingBytes (c : Slot × ActivityArg) :
    c ∈ actingBytes one two s ↔ c.2 = slotByte one two c.1 ∧ activityActs (s.aau.record c.1) c.2 = true := by
  obtain ⟨q, x⟩ := c
  rw [actingBytes, List.mem_filter]
  cases q <;> simp [slotByte]

theorem oncePerSlot_actingBytes : OncePerSlot (actingBytes one two s) :=
  List.Pairwise.filter _ (List.pairwise_pair.2 Slot.noConfusion)

theorem activityContents_record (q : Slot) : (activityContents one two s).aau.record q =
    (s.aau.record q).takeActivity (slotByte one two q) (minuteStamp s.cc.now) := by
  have hact : OnOneSlot (fun u => u.cc = s.cc) slotActivity (fun c r => r.takeActivity c.2 (minuteStamp s.cc.now)) := by
    intro c u hcc
    refine ⟨((slotActivity_frame u c).cc (by decide)).trans hcc, fun q => ?_⟩
    rw [slotActivity_record, hcc]
  obtain ⟨hother, hown⟩ := inSomeOrder_record hact (fun n u hu => hu) (actingBytes one two s) s rfl
  by_cases hacts : activityActs (s.aau.record q) (slotByte one two q) = true
  · exact hown (oncePerSlot_actingBytes one two s) (q, slotByte one two q) ((mem_actingBytes one two s _).2 ⟨rfl, hacts⟩)
  · rw [DriverRecord.takeActivity, if_neg hacts]
    refine hother q fun c hc => ?_
    rintro rfl
    obtain ⟨hbyte, hc⟩ := (mem_actingBytes one two s c).1 hc
    exact hacts (hbyte ▸ hc)

theorem activityContents_account {q : Slot} (h : (slotByte one two q).card ≠ (s.aau.record q).card) :
    AccountFormed (activityContents one two s) := by
  have hacts := activityActs_of_card h
  refine accountFormed_forEach _ _ (.inr ⟨(oncePerSlot_actingBytes one two s).arrange _, (q, slotByte one two q), ?_, h⟩)
  exact (arrange_perm _ _).mem_iff.2 ((mem_actingBytes one two s _).2 ⟨rfl, hacts⟩)

/-- R134: a frame whose other byte finds and leaves its slot ABSENT. -/
theorem activityContents_alone {q : Slot}
    (h : ∀ other, other ≠ q → (s.aau.record other).card = false ∧ (slotByte one two other).card = false)
    (hacts : activityActs (s.aau.record q) (slotByte one two q) = true) :
    activityContents one two s = slotActivity (q, slotByte one two q) s := by
  have hidle (other : Slot) (hother : other ≠ q) : activityActs (s.aau.record other) (slotByte one two other) = false := by
    obtain ⟨hr, hb⟩ := h other hother
    simp [activityActs, hr, hb]
  have halone : actingBytes one two s = [(q, slotByte one two q)] := by
    cases q
    · have htwo := hidle .two (by decide)
      simp only [slotByte] at hacts htwo ⊢
      simp [actingBytes, hacts, htwo]
    · have hone := hidle .one (by decide)
      simp only [slotByte] at hacts hone ⊢
      simp [actingBytes, hacts, hone]
  have hcontents : activityContents one two s = inSomeOrder (actingBytes one two s) (forEach slotActivity) s := rfl
  rw [hcontents, halone, inSomeOrder_singleton, forEach_cons, forEach_nil]

section alone
variable {q : Slot} (h : ∀ other, other ≠ q → (s.aau.record other).card = false ∧ (slotByte one two other).card = false)
include h

theorem activityContents_cardAlone (hcard : (slotByte one two q).card ≠ (s.aau.record q).card) :
    Posted .cardChange (slotNumber q) s (activityContents one two s) ∧ NotPosted .activityChange s (activityContents one two s) := by
  have hset := modifyRecord_frame s q (DriverRecord.takeActivity (slotByte one two q) (minuteStamp s.cc.now))
  have hpost := posted_post .cardChange (slotNumber q)
    (modifyRecord q (DriverRecord.takeActivity (slotByte one two q) (minuteStamp s.cc.now)) s)
  rw [activityContents_alone one two s h (activityActs_of_card hcard), slotActivity_card hcard]
  refine ⟨?_, ?_⟩
  · exact ((NotPosted.of_frame hset (by decide)).trans_posted hpost).trans_notPosted ((lampUpdate_tells _ _).notPosted (by decide))
  · exact (NotPosted.of_frame hset (by decide)).trans ((notPosted_post (by decide) _ _).trans
      ((lampUpdate_tells _ _).notPosted (by decide)))

theorem activityContents_activityAlone (hbyte : (slotByte one two q).card = true) (hcard : (s.aau.record q).card = true)
    (hact : activityOfCode (slotByte one two q).activity ≠ (s.aau.record q).activity) :
    Posted .activityChange (slotNumber q) s (activityContents one two s) ∧ NotPosted .cardChange s (activityContents one two s) := by
  have hset := modifyRecord_frame s q (DriverRecord.takeActivity (slotByte one two q) (minuteStamp s.cc.now))
  have hacts : activityActs (s.aau.record q) (slotByte one two q) = true := by simp [activityActs, hbyte, hact]
  rw [activityContents_alone one two s h hacts, slotActivity_kept (hbyte.trans hcard.symm), if_pos ⟨hbyte, hact⟩]
  exact ⟨(NotPosted.of_frame hset (by decide)).trans_posted (posted_post _ _ _),
    (NotPosted.of_frame hset (by decide)).trans (notPosted_post (by decide) _ _)⟩

end alone

end contents

theorem exec_activityFrame {s : State} (hout : isOut s = true) (one two : ActivityArg) :
    exec (.activityFrame one two) s = .next (activityContents one two (linkTaken s)) := exec_recorder hout rfl

theorem activityOfCode_eq (c : BitVec 3) :
    activityOfCode c = ([.unknown, .rest, .available, .work, .drive] : List Activity).getD c.toNat .unknown := by
  revert c
  decide

/-- Settles O35: the records by `activityContents_record`, L2 by `activityContents_account`. -/
theorem activityFrameActs : Obligations.ActivityFrameActs := by
  intro one two s hout
  have htaken := linkTaken_frame s
  have haau : (linkTaken s).aau = s.aau := htaken.aau (by decide)
  have hcc : (linkTaken s).cc = s.cc := htaken.cc (by decide)
  have hleave := contentsLeave_activity one two (linkTaken s)
  have hframe : OnlyChanges [.drivers, .lamps, .chimes, .events] (linkTaken s) (activityContents one two (linkTaken s)) :=
    inSomeOrder_frame (forEach_frame fun c u => slotActivity_frame u c) _ _
  have hlead : (activityContents one two (linkTaken s)).aau.lead = (linkTaken s).aau.lead :=
    inSomeOrder_keeps (fun u => u.aau.lead) _ (fun _ _ => rfl)
      (forEach_keeps (fun u => u.aau.lead) _ fun c u => slotActivity_lead u c) _ _
  refine ⟨_, exec_activityFrame hout one two, by rw [hlead, haau], by rw [hframe.cc (by decide), hcc],
    by rw [hleave.rlu, linkTaken_rlu], by rw [hleave.rlu, linkTaken_rlu], fun slot => ?_⟩
  have hslot : (match slot with | .one => one | .two => two) = slotByte one two slot := by cases slot <;> rfl
  have hrecord := activityContents_record one two (linkTaken s) slot
  have hcardAlone := activityContents_cardAlone one two (linkTaken s) (q := slot)
  have hactivityAlone := activityContents_activityAlone one two (linkTaken s) (q := slot)
  have haccount := activityContents_account one two (linkTaken s) (q := slot)
  intro byte r n activity alone
  have hbyte : byte = slotByte one two slot := hslot
  have hactivity : activity = activityOfCode byte.activity := (activityOfCode_eq _).symm
  rw [← hbyte, haau, hcc] at hrecord
  rw [← hbyte, haau] at hcardAlone hactivityAlone haccount
  have hn : n = r.takeActivity byte (minuteStamp s.cc.now) := hrecord
  have hothers {o : Slot} (ho : o ≠ slot)
      (hidle : (s.aau.record o).card = false ∧ (match o with | .one => one | .two => two).card = false) (other : Slot)
      (hother : other ≠ slot) : (s.aau.record other).card = false ∧ (slotByte one two other).card = false := by
    obtain rfl : other = o := Slot.eq_of_ne hother ho
    cases other <;> exact hidle
  have hquiet {k : EventKind} (hk : k ∉ [EventKind.sourceRestored, .chimeDropped]) : NotPosted k s (linkTaken s) :=
    (linkTaken_tells s).notPosted hk
  have halone (hcard : byte.card ≠ r.card) : alone .cardChange := fun o ho hidle => by
    obtain ⟨hposted, hnot⟩ := hcardAlone (hothers ho hidle) hcard
    exact ⟨fun _ => ⟨(hquiet (by decide)).trans_posted hposted, (hquiet (by decide)).trans hnot⟩, fun hk => absurd hk (by decide)⟩
  refine ⟨fun hb hr => ?_, fun hb hr => ⟨?_, halone (by simp [hb, hr])⟩, fun hb hr => ⟨?_, ?_, halone (by simp [hb, hr])⟩,
    fun hb hr => ⟨fun hact hcrew => ?_, fun hchange => ?_, fun hact o ho hidle => ?_⟩⟩
  · rw [hn]
    simp [DriverRecord.takeActivity, activityActs, hb, hr]
  · rw [hn]
    simp [DriverRecord.takeActivity, activityActs, hb, hr, hactivity, DriverRecord.insertCard]
  · rw [hn]
    simp [DriverRecord.takeActivity, activityActs, hb, hr, DriverRecord.removeCard, DriverRecord.nextGeneration, Tallies.zero]
  · have hformed := haccount (by rw [hb]; exact fun h => absurd (h.trans hr) (by decide))
    refine hformed.trans (congrArg some ?_)
    simp [accountContribution]
  · rw [hn]
    simp [DriverRecord.takeActivity, activityActs, hb, hr, ← hactivity, hact, hcrew]
  · rw [hn]
    have hacts : activityActs r byte = true := by
      rw [hactivity] at hchange
      rcases hchange with h | h <;> simp [activityActs, hb, h]
    simp [DriverRecord.takeActivity, hacts, hb, hr, hactivity, DriverRecord.changeActivity, DriverRecord.nextGeneration]
  · rw [hactivity] at hact
    obtain ⟨hposted, hnot⟩ := hactivityAlone (hothers ho hidle) hb hr hact
    exact ⟨fun hk => absurd hk (by decide), fun _ => ⟨(hquiet (by decide)).trans_posted hposted, (hquiet (by decide)).trans hnot⟩⟩

end Sys2Proof.Machine
end

section
/-! SUPPORT. What the passages of the ignition cycle leave in the lamps, the chimes, the timers and the tables (R185 to R188). -/
namespace Sys2Proof.Machine

/-! ### Gauge contributions formed afresh (R14) -/

section formed
variable {s t : State}

/-- R14: the gauge contribution of a lamp that an enabled channel names. -/
theorem gaugeContribution_enabled {g : GaugeEngine} {i : Fin 8} (h : (g.channels.get i).enabled = true) (power : PowerState) :
    gaugeContribution g power (g.channels.get i).faultLamp =
      if power = .run && g.channels.any fun c => c.enabled && c.faultLamp = (g.channels.get i).faultLamp && !c.signal
      then some .on else some .off := by
  refine if_pos ((Tab.any_iff _ _).2 ⟨i, ?_⟩)
  simp [h]

/-- R14: a state whose named lamps hold what would be formed. -/
theorem gaugeFormed_of (h : ∀ n ∈ namedLamps t.ge, (t.lamps.get n).gauge = gaugeContribution t.ge t.pwc.state n) : GaugeFormed t := by
  intro i hi n lost
  have hmem : n ∈ namedLamps t.ge := by
    simp only [namedLamps, List.mem_dedup, List.mem_map, List.mem_filter]
    exact ⟨_, ⟨(Tab.mem_val_iff _ _).2 ⟨i, rfl⟩, hi⟩, rfl⟩
  have hlost : (t.ge.channels.any fun c => c.enabled && c.faultLamp = n && !c.signal) = true ↔ lost := by
    rw [Tab.any_iff]
    refine exists_congr fun j => ?_
    simp [Channel.signal, and_assoc]
  have hgauge := (h n hmem).trans (gaugeContribution_enabled hi t.pwc.state)
  refine ⟨fun ⟨hrun, h⟩ => hgauge.trans (if_pos ?_), fun hnot => hgauge.trans (if_neg ?_)⟩
  · simpa [hrun] using hlost.2 h
  · intro hboth
    rw [Bool.and_eq_true, decide_eq_true_iff] at hboth
    exact hnot ⟨hboth.1, hlost.1 hboth.2⟩

/-- R14: all gauge contributions formed, where the blocks that they are formed from stay as they are. -/
theorem gaugeFormed_formAllGauge {W : List Block} (h : OnlyChanges W (formAllGauge s) t)
    (hW : ∀ b ∈ [Block.lamps, .gauges, .power], b ∉ W) : GaugeFormed t := by
  have hformed : OnlyChanges [.lamps, .chimes, .events] s (formAllGauge s) := formGaugeAny_frame _ _
  have hge : t.ge = s.ge := (h.ge (hW _ (by decide))).trans (hformed.ge (by decide))
  have hpwc : t.pwc = s.pwc := (h.pwc (hW _ (by decide))).trans (hformed.pwc (by decide))
  refine gaugeFormed_of fun n hn => ?_
  rw [hge] at hn
  have hstored := formGaugeAny_stored (namedLamps s.ge) s n
  rw [if_pos hn] at hstored
  have hgauge := congrArg Lamp.gauge hstored
  rw [h.lamps (hW _ (by decide)), hge, hpwc]
  exact hgauge

/-- R14: forming the gauge contributions changes no other contribution. -/
theorem formAllGauge_stored (s : State) (n : Fin 48) :
    { ((formAllGauge s).lamps.get n).stored with gauge := (s.lamps.get n).gauge } = (s.lamps.get n).stored := by
  rw [formAllGauge, formGaugeAny_stored]
  split <;> rfl

theorem setLamps_frame (s : State) (v : Tab Lamp 48) : OnlyChanges [.lamps] s (s.setLamps v) := by
  intro b hb; cases b <;> simp_all [Block.same]

/-- R63: outside RUN an update of the lamp table requests no chime. -/
theorem lampUpdate_idle (h : s.pwc.state ≠ .run) (change : Fin 48 → Lamp → Lamp) :
    lampUpdate change s = judgeTone (s.setLamps (updatedLamps s.lmd.readings s.lamps change)) := by
  have hchimed : lampChimed change s = s.setLamps (updatedLamps s.lmd.readings s.lamps change) := by
    rw [lampChimed, if_neg h]
    rfl
  rw [lampUpdate_eq, hchimed]

/-- R63: outside RUN, forming the gauge contributions changes the lamps and the standing tone alone. -/
theorem formAllGauge_idle (h : s.pwc.state ≠ .run) : OnlyChanges [.lamps, .chimes] s (formAllGauge s) ∧
    { (formAllGauge s).cu with tone := s.cu.tone } = s.cu := by
  unfold formAllGauge formGaugeAny
  split
  · exact ⟨.refl _ _, rfl⟩
  · rw [formGauge, lampUpdate_idle h]
    generalize updatedLamps s.lmd.readings s.lamps _ = lamps
    exact ⟨.after (judgeTone_frame _) (by decide) ((setLamps_frame s lamps).mono (by decide)), rfl⟩

theorem toneDue_judgeTone (s : State) : toneDue (judgeTone s) = toneDue s := toneDue_congr rfl rfl rfl

/-- R90: the standing tone after the contributions have been formed and the tone judged. -/
theorem judgeTone_formAllGauge (s : State) : (judgeTone (formAllGauge s)).cu.tone =
    if toneDue (judgeTone (formAllGauge s)) then some (s.cu.tone.getD 0) else none := by
  have htone (t : State) : (judgeTone t).cu.tone = if toneDue t then some (t.cu.tone.getD 0) else none := rfl
  rw [toneDue_judgeTone, htone]
  unfold formAllGauge formGaugeAny
  split
  · rfl
  · rw [formGauge, lampUpdate_tone]
    split_ifs <;> rfl

end formed

/-! ### The postings of a passage -/

theorem enterPower_posted (power : PowerState) (s : State) : Posted .powerState power.code s (enterPower power s) :=
  (NotPosted.of_frame (setPwc_frame s _) (by decide)).trans_posted (posted_post _ _ _)

end Sys2Proof.Machine
end
section
/-! CERTIFICATE. The supply monitor (R32, R42, R43, R91, R189). -/
namespace Sys2Proof.Machine

theorem counts_iff (low : Bool) (mv : Nat) :
    counts low mv = true ↔ (low = false ∧ mv < 16000) ∨ (low = true ∧ 17000 < mv) := by
  cases low <;> simp [counts, Config.supplyNormalAbove, Config.supplyLowBelow] <;> exact decide_eq_true_iff

section supply
variable {s : State} (hout : isOut s = true)
include hout

theorem exec_vbsMeasurement (mv : Nat) : exec (.vbsMeasurement mv) s = .next (measure mv s) :=
  congrArg Host.Outcome.next (whenOut_of_isOut hout)

theorem exec_supplyLowEntered (h : s.pwc.supplyLow = false) : exec .supplyLowEntered s =
    .next (post .supplyLow 1 ((mapChannels Channel.onSupplyLow
      (s.setPwc { s.pwc with supplyLow := true, supplyWait := 0 })).setCu { s.cu with muted := true })) := by
  have hfalls : exec .supplyLowEntered s = .next (supplyFalls s) := congrArg Host.Outcome.next (whenOut_of_isOut hout)
  rw [hfalls, supplyFalls, if_neg (by simp [h])]
  rfl

theorem exec_supplyLowLeft (h : s.pwc.supplyLow = true) : exec .supplyLowLeft s =
    .next (post .supplyLow 0 ((s.setPwc { s.pwc with supplyLow := false, supplyWait := 0 }).setCu { s.cu with muted := false })) := by
  have hreturns : exec .supplyLowLeft s = .next (supplyReturns s) := congrArg Host.Outcome.next (whenOut_of_isOut hout)
  rw [hreturns, supplyReturns, if_pos h]
  rfl

end supply

theorem Channel.coils_onSupplyLow (c : Channel) : c.onSupplyLow.coils = c.coils := by
  unfold onSupplyLow coils
  cases c.state <;> rfl

theorem Channel.coilsDuring_suspended (c : Channel) (micros : Nat) : c.coilsDuring true micros = c.coils := by
  rw [coilsDuring]
  cases c.coils <;> rfl

/-- R32, R42: the coils of a suspended motion hold their index. -/
theorem coilDuring_suspended {t : State} (h : t.pwc.supplyLow = true) (i : Fin 8) (micros : Nat) :
    coilDuring t i micros = coilLead t i := by
  rw [coilDuring, coilLead, h, Channel.coilsDuring_suspended]

theorem coilLead_congr {s t : State} {i : Fin 8} (hrst : t.rst = s.rst)
    (h : (t.ge.channels.get i).coils = (s.ge.channels.get i).coils) : coilLead t i = coilLead s i := by
  rw [coilLead, coilLead, isOut, isOut, hrst, h]

/-- R42: an interval as it comes, with the supply LOW. -/
theorem motionInterval_suspended {s : State} (hout : isOut s = true) (hlow : s.pwc.supplyLow = true)
    (hcomes : Comes .motionInterval True (2 ≤ s.ge.motionTime) s) :
    exec .motionInterval s = .next ((ranBy .motionInterval s).setGe { s.ge with motionTime := 0 }) := by
  rw [acts_of_timed (exec_motionInterval s) (iff_of_true rfl trivial) decide_eq_true_iff hcomes,
    whenOut_of_isOut (by simpa using hout), motionInterval_eq, if_pos (by rw [(ranBy_frame _ s).pwc (by decide)]; exact hlow)]
  rfl

/-- Settles O50: a measurement by what it counts, the two changes of the supply state, and an interval while it is LOW. -/
theorem supplyStateFollowsBattery : Obligations.SupplyStateFollowsBattery := by
  intro mv s hout low beyond wait measured
  have hwait : waitAfter mv s = wait := by
    rw [waitAfter]
    by_cases h : beyond
    · exact (if_pos ((counts_iff _ _).2 h)).trans (if_pos h).symm
    · exact (if_neg (mt (counts_iff _ _).1 h)).trans (if_neg h).symm
  have hmeasured : isOut measured = true := hout
  have hmeasure := exec_vbsMeasurement hout mv
  rw [measure_eq, hwait] at hmeasure
  refine ⟨fun hfew => ?_, fun hmany hnormal => ?_, fun hmany hlow => ?_, fun hnormal => ?_, fun hlow => ?_, fun hlow hcomes => ?_⟩
  · rw [hmeasure, if_neg (show ¬Config.supplyWaitPeriod ≤ wait from Nat.not_le.2 hfew)]
    rfl
  · have hnormal : s.pwc.supplyLow = false := hnormal
    rw [hmeasure, if_pos (show Config.supplyWaitPeriod ≤ wait from hmany), if_neg (by simp [hnormal]), exec_supplyLowEntered hmeasured hnormal, supplyFalls,
      if_neg (by simpa [storeBattery] using hnormal)]
    rfl
  · have hlow : s.pwc.supplyLow = true := hlow
    rw [hmeasure, if_pos (show Config.supplyWaitPeriod ≤ wait from hmany), if_pos hlow, exec_supplyLowLeft hmeasured hlow, supplyReturns,
      if_pos (by simpa [storeBattery] using hlow)]
    rfl
  · have hframe : OnlyChanges [.gauges, .chimes, .power] s ((mapChannels Channel.onSupplyLow
        (s.setPwc { s.pwc with supplyLow := true, supplyWait := 0 })).setCu { s.cu with muted := true }) :=
      .after (setCu_frame _ _) (by decide) (.after (mapChannels_frame _ _) (by decide) ((setPwc_frame s _).mono (by decide)))
    have hquiet {k : EventKind} := NotPosted.of_frame (k := k) hframe (by decide)
    have hchannel (i : Fin 8) : (s.ge.channels.map Channel.onSupplyLow).get i = (s.ge.channels.get i).onSupplyLow := Tab.get_map _ _ _
    refine ⟨_, exec_supplyLowEntered hout hnormal, post_pwc .., post_cu .., hquiet.trans_posted (posted_post _ _ _), fun i => ?_,
      fun i micros => ?_, ?_, ?_, fun k hk => hquiet.trans (notPosted_post hk _ _),
      .after (post_frame _ _ _) (by decide) (hframe.mono (by decide))⟩
    · rw [post_ge]
      refine (hchannel i).trans ?_
      unfold Channel.onSupplyLow
      cases hc : (s.ge.channels.get i).state <;> simp
    · rw [coilDuring_suspended (by rw [post_pwc]; rfl)]
      refine coilLead_congr (by rw [post_rst]; rfl) ?_
      rw [post_ge]
      exact (congrArg Channel.coils (hchannel i)).trans (Channel.coils_onSupplyLow _)
    · rw [post_ge]; rfl
    · rw [post_ge]; rfl
  · have hframe : OnlyChanges [.chimes, .power] s
        ((s.setPwc { s.pwc with supplyLow := false, supplyWait := 0 }).setCu { s.cu with muted := false }) :=
      .after (setCu_frame _ _) (by decide) ((setPwc_frame s _).mono (by decide))
    have hquiet {k : EventKind} := NotPosted.of_frame (k := k) hframe (by decide)
    exact ⟨_, exec_supplyLowLeft hout hlow, post_pwc .., post_cu .., hquiet.trans_posted (posted_post _ _ _),
      fun k hk => hquiet.trans (notPosted_post hk _ _), .after (post_frame _ _ _) (by decide) (hframe.mono (by decide))⟩
  · have hran := ranBy_frame .motionInterval s
    refine ⟨_, motionInterval_suspended hout hlow hcomes, rfl, rfl, rfl, fun i micros => ?_,
      .after (setGe_frame _ _) (by decide) (hran.mono (by decide))⟩
    rw [coilDuring_suspended (by rw [State.setGe_pwc, hran.pwc (by decide)]; exact hlow)]
    exact coilLead_congr (hran.rst (by decide)) rfl

end Sys2Proof.Machine
end
section
/-! CERTIFICATE. RUN entered and STANDBY entered from PARKING (R186, R188). -/
namespace Sys2Proof.Machine

section passages
variable (s : State)

/-- R14, R90, R186: what the entry to RUN leaves. -/
theorem runEntry_posted : Posted .powerState 2 s (runEntry s) := by
  have hstopped : NotPosted .powerState s (s.setPwc { s.pwc with selfCheck := .stopped }) := .of_frame (setPwc_frame s _) (by decide)
  have hformed (t : State) : NotPosted .powerState t (judgeTone (formAllGauge t)) :=
    NotPosted.trans ((formGaugeAny_tells _ _).notPosted (by decide)) (.of_frame (judgeTone_frame _) (by decide))
  exact (hstopped.trans_posted (enterPower_posted .run _)).trans_notPosted (hformed _)

theorem runEntry_gaugeFormed : GaugeFormed (runEntry s) := gaugeFormed_formAllGauge (judgeTone_frame _) (by decide)

theorem runEntry_tone : (runEntry s).cu.tone = if toneDue (runEntry s) then some (s.cu.tone.getD 0) else none := by
  have hentered : (enterPower .run (s.setPwc { s.pwc with selfCheck := .stopped })).cu = s.cu := by simp [enterPower]
  rw [runEntry, judgeTone_formAllGauge, hentered]

theorem parkingDone_posted : Posted .powerState 0 s (parkingDone s) :=
  (enterPower_posted .standby s).trans_notPosted (.of_frame (quiesce_frame _) (by decide))

theorem quiesced_quiesce : Quiesced s (quiesce s) :=
  ⟨(quiesce_port .d s).1, (quiesce_port .s s).1, by rw [quiesce, (txDue_keeps _ _).2.2]; rfl, (frameDue_txDue _ _).of_rlu
    (by simp) (by simp)⟩

end passages

theorem Quiesced.of_rlu {s s' t : State} (h : Quiesced s' t) (hrlu : s'.rlu = s.rlu) : Quiesced s t := by
  obtain ⟨hd, hs, hcadence, hdue⟩ := h
  exact ⟨hd, hs, hcadence, hdue.of_rlu (by rw [hrlu]) (by rw [hrlu])⟩

theorem parkingDone_quiesced (s : State) : Quiesced s (parkingDone s) :=
  (quiesced_quiesce _).of_rlu ((enterPower_frame s _).rlu (by decide))

theorem exec_selfCheckTimerExpiry (s : State) : exec .selfCheckTimerExpiry s =
    .next (timed .selfCheckTimerExpiry s.pwc.selfCheck.isRunning (s.pwc.selfCheck = .running 0) (whenOut selfCheckExpires) s) := rfl

theorem isRunning_iff (k : SelfCheck) : k.isRunning = true ↔ ∃ n, k = .running n := by
  cases k <;> simp [SelfCheck.isRunning]

/-- Settles O49: each of the two rows by the conditions it finds. -/
theorem checkAndParkingComplete : Obligations.CheckAndParkingComplete := by
  refine ⟨fun s hout => ⟨lapses_of_timed (exec_selfCheckTimerExpiry s) (isRunning_iff _) decide_eq_true_iff, fun hstate hcomes => ?_⟩,
    fun s hout hlow hcomes => ?_⟩
  · have hexec := acts_of_timed (exec_selfCheckTimerExpiry s) (isRunning_iff _) decide_eq_true_iff hcomes
    rw [whenOut_of_isOut (by simpa using hout)] at hexec
    have hran := ranBy_frame .selfCheckTimerExpiry s
    have hpwc : (ranBy .selfCheckTimerExpiry s).pwc = s.pwc := hran.pwc (by decide)
    have hge : (ranBy .selfCheckTimerExpiry s).ge = s.ge := hran.ge (by decide)
    refine ⟨_, hexec, fun hnot => ?_, fun hcomplete => ?_⟩
    · rw [selfCheckExpires, hpwc]
      refine powerConditions_otherwise (fun ⟨_, _, hcheck⟩ => hnot ?_) fun ⟨hpark, _⟩ => ?_
      · rw [State.setPwc_ge, hge] at hcheck
        exact (checkComplete_iff _).1 hcheck
      · rw [State.setPwc_pwc] at hpark
        exact absurd (hstate.symm.trans hpark) (by decide)
    · have hruns : selfCheckExpires (ranBy .selfCheckTimerExpiry s) =
          runEntry ((ranBy .selfCheckTimerExpiry s).setPwc { s.pwc with selfCheck := .runOut }) := by
        rw [selfCheckExpires, hpwc]
        refine powerConditions_runCheck hstate rfl ?_
        rw [State.setPwc_ge, hge]
        exact (checkComplete_iff _).2 hcomplete
      have hbefore : OnlyChanges [.power, .due] s
          ((ranBy .selfCheckTimerExpiry s).setPwc { s.pwc with selfCheck := .runOut }) :=
        .after (setPwc_frame _ _) (by decide) (hran.mono (by decide))
      rw [hruns]
      refine ⟨by rw [runEntry_pwc]; rfl, ?_, runEntry_gaugeFormed _, fun k hpower hdropped => ?_, ?_,
        .after (runEntry_frame _) (by decide) (hbefore.mono (by decide))⟩
      · exact (NotPosted.of_frame hbefore (by decide)).trans_posted (runEntry_posted _)
      · exact (NotPosted.of_frame hbefore (by decide)).trans ((runEntry_tells _).notPosted (by simp [hpower, hdropped]))
      · rw [runEntry_tone, hbefore.cu (by decide)]
  · have hran := ranBy_frame .motionInterval s
    have hmoved : OnlyChanges [.gauges, .events, .due] s (movedOn (ranBy .motionInterval s)) :=
      .after (movedOn_frame _) (by decide) (hran.mono (by decide))
    have hquiet : NotPosted .powerState s (movedOn (ranBy .motionInterval s)) :=
      (NotPosted.of_frame hran (by decide)).trans (.trans (.of_frame (setGe_frame _ _) (by decide))
        ((moveAll_tells _).notPosted (by decide)))
    refine ⟨_, motionInterval_out hout hlow hcomes, ?_⟩
    generalize movedOn (ranBy .motionInterval s) = m at hmoved hquiet
    have hpwc : m.pwc = s.pwc := hmoved.pwc (by decide)
    have hcheck : CheckComplete (powerConditions m) ↔ checkComplete m.ge = true := by
      rw [checkComplete_iff, CheckComplete, (powerConditions_frame m).ge (by decide)]
    have hparked : ParkingComplete (powerConditions m) ↔ parkingComplete m.ge = true := by
      rw [parkingComplete_iff, ParkingComplete, (powerConditions_frame m).ge (by decide)]
    rw [hcheck, hparked]
    intro runs rests
    refine ⟨fun ⟨hstate, htimer, hcomplete⟩ => ?_, fun ⟨hstate, hcomplete⟩ => ?_, fun hnotRuns hnotRests => ?_⟩
    · rw [powerConditions_runCheck (by rw [hpwc]; exact hstate) (by rw [hpwc]; exact htimer) hcomplete]
      exact ⟨by rw [runEntry_pwc, hpwc], hquiet.trans_posted (runEntry_posted m), runEntry_gaugeFormed m⟩
    · rw [powerConditions_parking (by rw [hpwc]; exact hstate) hcomplete]
      exact ⟨by rw [parkingDone_pwc, hpwc], hquiet.trans_posted (parkingDone_posted m),
        (parkingDone_quiesced m).of_rlu (hmoved.rlu (by decide))⟩
    · rw [powerConditions_otherwise (by rw [hpwc]; exact hnotRuns) (by rw [hpwc]; exact hnotRests)]
      exact ⟨hpwc, hquiet, hmoved⟩

end Sys2Proof.Machine
end
section
/-! CERTIFICATE. The ignition going on and off (R33, R38, R185, R187). -/
namespace Sys2Proof.Machine

/-! ### The edge of the ignition's input -/

/-- R158, R160: the inputs with the edge of one stored, and the ignition handed to the Power Controller. -/
def ignitionTold (i : Fin 12) (on : Bool) (s : State) : State :=
  (s.setInputs (s.inputs.set i (s.inputs.get i).edged)).setPwc { s.pwc with ignition := on }

theorem ignitionTold_frame (i : Fin 12) (on : Bool) (s : State) : OnlyChanges [.inputs, .power] s (ignitionTold i on s) :=
  .after (setPwc_frame _ _) (by decide) ((setInputs_frame s _).mono (by decide))

section edge
variable {i : Fin 12} {s : State} (hout : isOut s = true) (hf : (s.inputs.get i).function = .ignition)
  (hraw : (s.inputs.get i).raw ≠ (s.inputs.get i).debounced)
include hout hf hraw

theorem exec_ignitionEdge (hchanged : (s.inputs.get i).edged.active ≠ (s.inputs.get i).active) :
    exec (.debounceComplete i) s =
      .next (if (s.inputs.get i).edged.active then ignitionOn (s.setInputs (s.inputs.set i (s.inputs.get i).edged))
        else ignitionOff (s.setInputs (s.inputs.set i (s.inputs.get i).edged))) := by
  have hexec : exec (.debounceComplete i) s = .next (edge i s) :=
    congrArg Host.Outcome.next ((whenOut_of_isOut hout).trans (if_neg hraw))
  have hsilent : ¬(s.inputs.get i).edged.postsEdge (s.inputs.get i).edged.debounced = true := by
    simp [InputRecord.postsEdge, InputRecord.edged, InputRecord.formActive, hf]
  rw [hexec, edge_eq, if_neg hchanged, handActive, show (s.inputs.get i).edged.function = .ignition from hf, edgeTold, if_neg hsilent]

/-- R160, R185: the ignition's input becomes active in STANDBY or PARKING. -/
theorem exec_ignitionRise (hoff : s.pwc.state = .standby ∨ s.pwc.state = .parking) (hactive : (s.inputs.get i).active = false)
    (hhigh : (s.inputs.get i).raw = (s.inputs.get i).activeHigh) :
    exec (.debounceComplete i) s = .next (enterRunCheck (ignitionTold i true s)) := by
  have hedged : (s.inputs.get i).edged.active = true := decide_eq_true hhigh
  rw [exec_ignitionEdge hout hf hraw (by simp [hedged, hactive]), if_pos hedged]
  exact congrArg Host.Outcome.next
    (ignitionOn_off (s := s.setInputs (s.inputs.set i (s.inputs.get i).edged)) (not_inCycle_iff.2 hoff))

/-- R160, R187: the ignition's input becomes inactive in RUN_CHECK or RUN. -/
theorem exec_ignitionFall (hon : s.pwc.state = .runCheck ∨ s.pwc.state = .run) (hactive : (s.inputs.get i).active = true)
    (hlow : (s.inputs.get i).raw ≠ (s.inputs.get i).activeHigh) :
    exec (.debounceComplete i) s = .next (leaveCycle (ignitionTold i false s)) := by
  have hedged : (s.inputs.get i).edged.active = false := decide_eq_false hlow
  rw [exec_ignitionEdge hout hf hraw (by simp [hedged, hactive]), if_neg (by simp [hedged])]
  exact congrArg Host.Outcome.next
    (ignitionOff_cycle (s := s.setInputs (s.inputs.set i (s.inputs.get i).edged)) (inCycle_iff.2 hon))

end edge

/-! ### RUN_CHECK entered (R185) -/

section begin
variable (s : State)

theorem cycleBegun_lmd : (cycleBegun s).lmd = { s.lmd with
    hold := { s.lmd.hold with internal := true, active := true, internalTimer := some 3000 } } := by
  simp [cycleBegun, holdInternal, enterPower, mapChannels, Config.selfCheckPeriod]

theorem cycleBegun_posted : Posted .powerState 1 s (cycleBegun s) ∧ Posted .holdGranted 0 s (cycleBegun s) := by
  have hstart : NotPosted .powerState s (s.setPwc { s.pwc with selfCheck := .running Config.selfCheckPeriod }) :=
    .of_frame (setPwc_frame _ _) (by decide)
  have hentered : Tells [.powerState] s (enterPower .runCheck (s.setPwc { s.pwc with selfCheck := .running Config.selfCheckPeriod })) :=
    .after (enterPower_tells _ _) (by decide) (.of_frame _ (setPwc_frame s _) (by decide))
  have hmapped {k : EventKind} (t : State) : NotPosted k t (mapChannels Channel.onRunCheck t) :=
    .of_frame (mapChannels_frame t _) (by decide)
  have hheld (t : State) : Posted .holdGranted 0 t (holdInternal t) :=
    (NotPosted.of_frame (setLmd_frame t _) (by decide)).trans_posted (posted_post _ _ _)
  exact ⟨((hstart.trans_posted (enterPower_posted .runCheck _)).trans_notPosted (hmapped _)).trans_notPosted
      ((holdInternal_tells _).notPosted (by decide)),
    ((hentered.notPosted (by decide)).trans (hmapped _)).trans_posted (hheld _)⟩

theorem awaken_rlu : (awaken s).rlu.cadence = some 1000 ∧ FrameDue .status s (awaken s) ∧
    { (awaken s).rlu with cadence := s.rlu.cadence, sending := s.rlu.sending, waiting := s.rlu.waiting } = s.rlu := by
  have hrlu : (restartIfLive .s (restartIfLive .d s)).rlu = s.rlu := by simp
  unfold awaken
  dsimp only
  rw [hrlu]
  refine ⟨(txDue_keeps _ _).2.2, (frameDue_txDue _ _).of_rlu rfl rfl, ?_⟩
  have hrest := congrArg (fun r : RecorderLink => { r with cadence := s.rlu.cadence })
    (txDue_rlu_but_frames .status ((restartIfLive .s (restartIfLive .d s)).setRlu { s.rlu with cadence := some Config.cadencePeriod }))
  exact hrest

end begin

theorem Channel.onRunCheck_homed {c : Channel} (h : c.state = .parked ∨ c.state = .parking) (he : c.enabled = true) :
    c.onRunCheck = if c.sweepTest then { c with state := .sweepUp, target := c.sweepLimit }
      else { c with state := .tracking, target := if c.active = none then 0 else c.target } := by
  unfold onRunCheck sweepOrTrack enterTracking
  rw [if_pos he]
  rcases h with h | h <;> simp [h, enterSweepUp]

/-- Settles O47: the parts of RUN_CHECK's entry, and what an entry from STANDBY adds to them. -/
theorem ignitionOnEntersRunCheck : Obligations.IgnitionOnEntersRunCheck := by
  intro i s hout hoff hf hactive hraw hhigh
  have htold := ignitionTold_frame i true s
  have hentered := enterRunCheck_frame (ignitionTold i true s)
  have hbegun := cycleBegun_frame (ignitionTold i true s)
  have hquiet {k : EventKind} : NotPosted k s (ignitionTold i true s) := .of_frame htold (by decide)
  obtain ⟨hpower, hhold⟩ := cycleBegun_posted (ignitionTold i true s)
  have hafter : OnlyChanges [.ports, .recorder] (cycleBegun (ignitionTold i true s)) (enterRunCheck (ignitionTold i true s)) := by
    rw [enterRunCheck_eq]
    split
    · exact awaken_frame _
    · exact .refl _ _
  have hchannel (j : Fin 8) : (enterRunCheck (ignitionTold i true s)).ge.channels.get j = (s.ge.channels.get j).onRunCheck := by
    rw [enterRunCheck_channels, Tab.get_map]
    rfl
  refine ⟨_, exec_ignitionRise hout hf hraw hoff hactive hhigh, ?_, ?_, ?_, ?_, ?_, fun j => ?_, fun hstandby => ?_,
    fun hparking => ?_, fun p => ?_, fun k hpower hhold => ?_, .after hentered (by decide) (htold.mono (by decide))⟩
  · rw [hentered.inputs (by decide)]
    refine (congrArg InputRecord.active (Tab.get_set_same _ _ _)).trans ?_
    exact decide_eq_true hhigh
  · rw [enterRunCheck_pwc]
    rfl
  · exact (hquiet.trans_posted hpower).trans_notPosted (.of_frame hafter (by decide))
  · exact (hquiet.trans_posted hhold).trans_notPosted (.of_frame hafter (by decide))
  · rw [hafter.lmd (by decide), cycleBegun_lmd, htold.lmd (by decide)]
  · rw [hchannel j]
    refine ⟨fun he => ?_, fun he hstate => ?_, fun he hstate => Channel.onRunCheck_homed hstate he⟩
    · simp [Channel.onRunCheck, he]
    · simp [Channel.onRunCheck, he, hstate, Channel.enterHoming, Config.homingMargin]
  · have hrlu : (cycleBegun (ignitionTold i true s)).rlu = s.rlu := (hbegun.rlu (by decide)).trans (htold.rlu (by decide))
    have hawake : enterRunCheck (ignitionTold i true s) = awaken (cycleBegun (ignitionTold i true s)) := if_pos hstandby
    obtain ⟨hcadence, hdue, hrest⟩ := awaken_rlu (cycleBegun (ignitionTold i true s))
    rw [hrlu] at hrest
    rw [hawake]
    refine ⟨hcadence, hdue.of_rlu (by rw [hrlu]) (by rw [hrlu]), hrest, fun p => ?_⟩
    obtain ⟨hlive, htimer, hperiod, -⟩ := OnlyChanges.trans (htold.mono (B := [.inputs, .power, .gauges, .events, .matrix]) (by decide))
      (hbegun.mono (by decide)) .ports (by decide) p
    rw [(awaken_port p _).1, hlive, htimer, hperiod]
  · have hasleep : enterRunCheck (ignitionTold i true s) = cycleBegun (ignitionTold i true s) :=
      if_neg (by rw [show (ignitionTold i true s).pwc.state = .parking from hparking]; decide)
    have hboth : OnlyChanges [.inputs, .power, .gauges, .events, .matrix] s (cycleBegun (ignitionTold i true s)) :=
      .after hbegun (by decide) (htold.mono (by decide))
    rw [hasleep]
    exact ⟨hboth.rlu (by decide), fun p => (hboth .ports (by decide) p).2.1⟩
  · have hlive : ((enterRunCheck (ignitionTold i true s)).port p).live = (s.port p).live := by
      refine Eq.trans ?_ ((hbegun.live p (by decide)).trans (htold.live p (by decide)))
      rw [enterRunCheck_eq]
      split
      · exact (awaken_port p _).2.1
      · rfl
    exact ⟨hlive, (hentered .responses (by decide) p).trans (htold .responses (by decide) p)⟩
  · exact hquiet.trans ((enterRunCheck_tells _).notPosted (by simp [hpower, hhold]))

/-! ### The cycle left (R187) -/

theorem onIgnitionOff_runs {c : Channel} (h : c.state = .tracking ∨ c.state = .sweepUp ∨ c.state = .sweepDown) :
    c.onIgnitionOff = { c with state := .parking, target := 0 } := by
  unfold Channel.onIgnitionOff
  rcases h with h | h | h <;> rw [h]

theorem onIgnitionOff_rests {c : Channel} (h : ¬(c.state = .tracking ∨ c.state = .sweepUp ∨ c.state = .sweepDown))
    (hhoming : c.state ≠ .homing) : c.onIgnitionOff = c := by
  unfold Channel.onIgnitionOff
  cases hc : c.state <;> simp_all

/-- R38, R187: PARKING is entered where a channel has a way to run. -/
theorem offTarget_parking_iff (s : State) : offTarget s = .parking ↔ ∃ j,
    ((s.ge.channels.get j).state = .tracking ∨ (s.ge.channels.get j).state = .sweepUp ∨ (s.ge.channels.get j).state = .sweepDown) ∨
      (s.ge.channels.get j).state = .parking := by
  have hone (c : Channel) : c.onIgnitionOff.state = .parking ↔
      (c.state = .tracking ∨ c.state = .sweepUp ∨ c.state = .sweepDown) ∨ c.state = .parking := by
    unfold Channel.onIgnitionOff
    cases hc : c.state <;> simp [hc]
  have hany : (mapChannels Channel.onIgnitionOff s).ge.channels.any (fun c => c.state = .parking) = true ↔ ∃ j,
      (s.ge.channels.get j).onIgnitionOff.state = .parking := by
    rw [Tab.any_iff]
    refine exists_congr fun j => ?_
    rw [mapChannels_channels, Tab.get_map, decide_eq_true_iff]
  simp only [← hone, ← hany]
  unfold offTarget offState
  split <;> simp_all

section stop
variable (s : State)

theorem cycleStopped_pwc : (cycleStopped s).pwc = { s.pwc with selfCheck := .stopped, state := offTarget s } := by
  unfold cycleStopped dropHold
  dsimp only
  split <;> simp [darken, enterPower]

theorem cycleStopped_off : (cycleStopped s).pwc.state ≠ .run := by
  rw [cycleStopped_pwc]
  rcases offTarget_eq s with h | h <;> simp [h]

theorem cycleStopped_cu : (cycleStopped s).cu = { s.cu with queue := [], playing := none, gap := none } := by
  unfold cycleStopped dropHold
  dsimp only
  split <;> simp [silenceChimes, darken, enterPower]

theorem cycleStopped_lmd : (cycleStopped s).lmd = { s.lmd with plan := .fill none, scanning := false, hold := .reset } := by
  unfold cycleStopped dropHold
  dsimp only
  split <;> simp [silenceChimes, darken, enterPower]

theorem dropHold_posted : if s.lmd.hold.active then Posted .holdEnded 0 s (dropHold s) else NotPosted .holdEnded s (dropHold s) := by
  have hcleared : OnlyChanges [.matrix] s (s.setLmd { s.lmd with hold := .reset }) := setLmd_frame _ _
  unfold dropHold
  dsimp only
  split
  · exact (NotPosted.of_frame hcleared (by decide)).trans_posted (posted_post _ _ _)
  · exact .of_frame hcleared (by decide)

theorem cycleStopped_posted : Posted .powerState (offTarget s).code s (cycleStopped s) ∧
    (if s.lmd.hold.active then Posted .holdEnded 0 s (cycleStopped s) else NotPosted .holdEnded s (cycleStopped s)) ∧
    ∀ k : EventKind, k ≠ .powerState → k ≠ .holdEnded → NotPosted k s (cycleStopped s) := by
  have hmapped : OnlyChanges [.gauges, .power] s (mapChannels Channel.onIgnitionOff (s.setPwc { s.pwc with selfCheck := .stopped })) :=
    .after (mapChannels_frame _ _) (by decide) ((setPwc_frame s _).mono (by decide))
  have hentered := enterPower_posted (offTarget s) (mapChannels Channel.onIgnitionOff (s.setPwc { s.pwc with selfCheck := .stopped }))
  have htold := enterPower_tells (mapChannels Channel.onIgnitionOff (s.setPwc { s.pwc with selfCheck := .stopped })) (offTarget s)
  have hlmd : (enterPower (offTarget s) (mapChannels Channel.onIgnitionOff (s.setPwc { s.pwc with selfCheck := .stopped }))).lmd =
      s.lmd := by simp [enterPower]
  unfold cycleStopped
  generalize enterPower (offTarget s) _ = e at hentered htold hlmd
  have hdark {k : EventKind} : NotPosted k e (darken e) := .of_frame (setLmd_frame _ _) (by decide)
  have hsilent {k : EventKind} (t : State) : NotPosted k t (silenceChimes t) := .of_frame (setCu_frame t _) (by decide)
  have hdrop := dropHold_posted (darken e)
  have hhold : (darken e).lmd.hold.active = s.lmd.hold.active := by rw [← hlmd]; rfl
  have hbefore {k : EventKind} (hk : k ≠ .powerState) : NotPosted k s (darken e) :=
    (NotPosted.of_frame hmapped (by decide)).trans ((htold.notPosted (by simpa using hk)).trans hdark)
  refine ⟨?_, ?_, fun k hpower hhold => ?_⟩
  · exact (((NotPosted.of_frame hmapped (by decide)).trans_posted hentered).trans_notPosted hdark).trans_notPosted
      (((dropHold_tells _).notPosted (by decide)).trans (hsilent _))
  · rw [hhold] at hdrop
    split at hdrop
    · next h =>
      rw [if_pos h]
      exact ((hbefore (by decide)).trans_posted hdrop).trans_notPosted (hsilent _)
    · next h =>
      rw [if_neg h]
      exact ((hbefore (by decide)).trans hdrop).trans (hsilent _)
  · exact (hbefore hpower).trans (((dropHold_tells _).notPosted (by simpa using hhold)).trans (hsilent _))

/-- R187: what follows once the blocks have stopped: the gauge contributions where RUN is left, and the standing tone. -/
theorem cycleLeft_after : OnlyChanges [.lamps, .chimes] (cycleStopped s) (cycleLeft s) ∧
    (cycleLeft s).cu = { s.cu with queue := [], playing := none, gap := none, tone := none } := by
  have hidle := formAllGauge_idle (cycleStopped_off s)
  have hshown : OnlyChanges [.lamps, .chimes] (cycleStopped s)
      (if s.pwc.state = .run then formAllGauge (cycleStopped s) else cycleStopped s) ∧
      { (if s.pwc.state = .run then formAllGauge (cycleStopped s) else cycleStopped s).cu with tone := (cycleStopped s).cu.tone } =
        (cycleStopped s).cu := by
    split
    · exact hidle
    · exact ⟨.refl _ _, rfl⟩
  unfold cycleLeft
  generalize (if s.pwc.state = .run then formAllGauge (cycleStopped s) else cycleStopped s) = u at hshown
  obtain ⟨hframe, hcu⟩ := hshown
  have hoff : toneDue u = false := toneDue_off (by rw [hframe.pwc (by decide)]; exact cycleStopped_off s)
  refine ⟨.after (judgeTone_frame _) (by decide) hframe, ?_⟩
  rw [cycleStopped_cu] at hcu
  have hjudged : (judgeTone u).cu = { u.cu with tone := none } := by
    rw [judgeTone, State.setCu_cu, hoff]
    rfl
  have hsame := congrArg (fun c : ChimeUnit => { c with tone := none }) hcu
  exact hjudged.trans hsame

end stop

section left
variable (s : State)

theorem cycleLeft_of_run (h : s.pwc.state = .run) : cycleLeft s = judgeTone (formAllGauge (cycleStopped s)) :=
  congrArg judgeTone (if_pos h)

theorem cycleLeft_of_check (h : s.pwc.state ≠ .run) : cycleLeft s = judgeTone (cycleStopped s) := congrArg judgeTone (if_neg h)

theorem leaveCycle_after : OnlyChanges [.ports, .recorder] (cycleLeft s) (leaveCycle s) := by
  rw [leaveCycle_eq]
  split
  · exact quiesce_frame _
  · exact .refl _ _

theorem leaveCycle_live (p : Port) : ((leaveCycle s).port p).live = (s.port p).live := by
  refine Eq.trans ?_ ((cycleLeft_frame s).live p (by decide))
  rw [leaveCycle_eq]
  split
  · exact (quiesce_port p _).2.1
  · rfl

theorem leaveCycle_stored (n : Fin 48) :
    { ((leaveCycle s).lamps.get n).stored with gauge := (s.lamps.get n).gauge } = (s.lamps.get n).stored := by
  have hstopped : (cycleStopped s).lamps = s.lamps := (cycleStopped_frame s).lamps (by decide)
  rw [(leaveCycle_after s).lamps (by decide)]
  by_cases hrun : s.pwc.state = .run
  · have hstored := formAllGauge_stored (cycleStopped s) n
    rw [hstopped] at hstored
    rw [cycleLeft_of_run s hrun, (judgeTone_frame _).lamps (by decide)]
    exact hstored
  · rw [cycleLeft_of_check s hrun, (judgeTone_frame _).lamps (by decide), hstopped]
    rfl

end left

/-- Settles O48: the blocks stopped by `cycleStopped`, the contributions and the tone by `cycleLeft_after`, the timers by `quiesce`. -/
theorem ignitionOffLeavesCycle : Obligations.IgnitionOffLeavesCycle := by
  intro i s hout hon hf hactive hraw hlow
  have htold := ignitionTold_frame i false s
  have hstopped := cycleStopped_frame (ignitionTold i false s)
  obtain ⟨hshown, hcu⟩ := cycleLeft_after (ignitionTold i false s)
  have hafter := leaveCycle_after (ignitionTold i false s)
  have hrest : OnlyChanges [.lamps, .chimes, .ports, .recorder] (cycleStopped (ignitionTold i false s))
      (leaveCycle (ignitionTold i false s)) := .after hafter (by decide) (hshown.mono (by decide))
  have hquiet {k : EventKind} : NotPosted k s (ignitionTold i false s) := .of_frame htold (by decide)
  have hsilent {k : EventKind} : NotPosted k (cycleStopped (ignitionTold i false s)) (leaveCycle (ignitionTold i false s)) :=
    .of_frame hrest (by decide)
  obtain ⟨hpower, hhold, hother⟩ := cycleStopped_posted (ignitionTold i false s)
  have hlmd : (leaveCycle (ignitionTold i false s)).lmd = { s.lmd with plan := .fill none, scanning := false, hold := .reset } := by
    rw [hrest.lmd (by decide), cycleStopped_lmd, htold.lmd (by decide)]
  have hchannel (j : Fin 8) :
      (leaveCycle (ignitionTold i false s)).ge.channels.get j = (s.ge.channels.get j).onIgnitionOff := by
    rw [leaveCycle_channels, Tab.get_map]
    rfl
  have hhomed (c : Channel) (h : c.state = .homing) : c.onIgnitionOff = { c with
      state := .unhomed, overdrive := 0, position := 0, speed := 0, target := 0, direction := .up, walk := [] } := by
    unfold Channel.onIgnitionOff
    rw [h]
  refine ⟨_, exec_ignitionFall hout hf hraw hon hactive hlow, ?_⟩
  intro runs parks
  have hparks : offTarget (ignitionTold i false s) = .parking ↔ parks := offTarget_parking_iff (ignitionTold i false s)
  have htarget : offTarget (ignitionTold i false s) = if parks then .parking else .standby := by
    split
    · next h => exact hparks.2 h
    · next h => exact (offTarget_eq _).resolve_left (mt hparks.1 h)
  refine ⟨?_, ?_, ?_, fun j => ⟨fun h => ?_, fun h => ?_, fun h hhoming => ?_⟩, ?_, fun n => ?_, ?_, ?_, ?_, fun hrun => ?_,
    fun hcheck => ?_, fun n => ?_, fun h => ?_, fun h => ?_, fun p => ⟨?_, ?_⟩, fun k hk hk' => ?_,
    .after (leaveCycle_frame _) (by decide) (htold.mono (by decide))⟩
  · rw [(leaveCycle_frame _).inputs (by decide)]
    refine (congrArg InputRecord.active (Tab.get_set_same _ _ _)).trans ?_
    exact decide_eq_false hlow
  · rw [leaveCycle_pwc, htarget]
    rfl
  · have hcode : (offTarget (ignitionTold i false s)).code = if parks then 3 else 0 := by
      rw [htarget]
      split <;> rfl
    rw [hcode] at hpower
    exact (hquiet.trans_posted hpower).trans_notPosted hsilent
  · rw [hchannel]
    exact onIgnitionOff_runs h
  · rw [hchannel]
    exact hhomed _ h
  · rw [hchannel]
    exact onIgnitionOff_rests h hhoming
  · rw [hlmd]
  · rw [hlmd]
    exact Tab.get_fill _ _
  · rw [hlmd]
    rfl
  · rw [htold.lmd (by decide)] at hhold
    split at hhold
    · next h =>
      rw [if_pos h]
      exact (hquiet.trans_posted hhold).trans_notPosted hsilent
    · next h =>
      rw [if_neg h]
      exact (hquiet.trans hhold).trans hsilent
  · rw [hafter.cu (by decide), hcu, htold.cu (by decide)]
  · have hleft := cycleLeft_of_run (ignitionTold i false s) hrun
    exact gaugeFormed_formAllGauge (W := [.chimes, .ports, .recorder])
      (.after hafter (by decide) (hleft ▸ (judgeTone_frame _).mono (by decide))) (by decide)
  · have hnot : (ignitionTold i false s).pwc.state ≠ .run := by
      rw [show (ignitionTold i false s).pwc.state = .runCheck from hcheck]
      decide
    rw [hafter.lamps (by decide), cycleLeft_of_check _ hnot, (judgeTone_frame _).lamps (by decide), hstopped.lamps (by decide),
      htold.lamps (by decide)]
  · rw [← htold.lamps (by decide)]
    exact leaveCycle_stored _ n
  · rw [leaveCycle_eq, if_pos ((offTarget_eq _).resolve_left (mt hparks.1 h))]
    exact (quiesced_quiesce _).of_rlu (((cycleLeft_frame _).rlu (by decide)).trans (htold.rlu (by decide)))
  · have hleft : OnlyChanges [.power, .gauges, .events, .matrix, .chimes, .lamps, .inputs] s (cycleLeft (ignitionTold i false s)) :=
      .after (cycleLeft_frame _) (by decide) (htold.mono (by decide))
    rw [leaveCycle_eq, if_neg (by rw [hparks.2 h]; decide)]
    exact ⟨hleft.rlu (by decide), fun p => (hleft .ports (by decide) p).2.1⟩
  · rw [leaveCycle_live, htold.live p (by decide)]
  · exact ((leaveCycle_frame _) .responses (by decide) p).trans (htold .responses (by decide) p)
  · exact (hquiet.trans (hother k hk hk')).trans hsilent

end Sys2Proof.Machine
end

section
/-! CERTIFICATE. What the input leads make: frames, characters and reset causes (R114, R166, R169, R190). -/
namespace Sys2Proof.Machine

/-! ### Chip select periods -/

section select
variable (p : Port) (s : State)

theorem setSpi_setSpi (u v : SpiLead) : (s.setSpi p u).setSpi p v = s.setSpi p v := by cases p <;> rfl

theorem setSpi_self : s.setSpi p (s.spi p) = s := by cases p <;> rfl

/-- R166: the bits clocked in while chip select is low. -/
theorem clockBits (bits : List Bool) (h : (s.spi p).selected = true) :
    bits.foldl (fun s b => clockBit p b s) s = s.setSpi p { s.spi p with bits := (s.spi p).bits ++ bits } := by
  induction bits generalizing s with
  | nil => rw [List.append_nil]; exact (setSpi_self p s).symm
  | cons b bits ih =>
    have hone : clockBit p b s = s.setSpi p { s.spi p with bits := (s.spi p).bits ++ [b] } := if_pos h
    rw [List.foldl_cons, hone, ih _ (by simp [h]), State.setSpi_spi_same, setSpi_setSpi, List.append_assoc]
    rfl

theorem selectRises_frame {b : Byte} (hsel : (s.spi p).selected = true) (hb : (s.spi p).status = some b) :
    selectRises p s = enqueue (decodePeriod p (s.spi p).bits) (s.setSpi p { s.spi p with
      selected := false, status := none, bits := [], ended := (s.spi p).ended ++ [⟨b, (s.spi p).bits.length⟩] }) := by
  unfold selectRises
  rw [if_pos hsel, hb]

theorem selectRises_stray (hsel : (s.spi p).selected = true) (hb : (s.spi p).status = none) :
    selectRises p s = s.setSpi p { s.spi p with selected := false, status := none, bits := [] } := by
  unfold selectRises
  rw [if_pos hsel, hb]

theorem selectFalls_idle (hsel : (s.spi p).selected = false) : selectFalls p s = s.setSpi p { s.spi p with
    selected := true, bits := [], status := if isOut s then some (statusByte s p) else none } := if_neg (by simp [hsel])

theorem lowPeriod_bits (bits : List Bool) (hsel : (s.spi p).selected = false) : lowPeriod p bits s =
    selectRises p (s.setSpi p { s.spi p with
      selected := true, bits, status := if isOut s then some (statusByte s p) else none }) := by
  rw [lowPeriod, selectFalls_idle p s hsel, clockBits _ _ _ (by simp), State.setSpi_spi_same, setSpi_setSpi, List.nil_append]

end select

theorem beginCause_spi (c : Cause) (p : Port) (s : State) : (beginCause c s).spi p = (s.spi p).cutOff := by cases p <;> rfl

/-! ### The line from the recorder -/

section line
variable {s : State} (hout : isOut s = true)
include hout

theorem lineBit_quiet {r r' : Receiver} {level : Bool} (hr : s.rlu.receiver = r) (h : r.sample level = (r', none)) :
    lineBit level s = s.setRlu { s.rlu with receiver := r' } := by
  unfold lineBit
  rw [if_pos hout, hr, h]

theorem lineBit_complete {r r' : Receiver} {level : Bool} {i : Instr} (hr : s.rlu.receiver = r)
    (h : r.sample level = (r', some i)) : lineBit level s = (s.setRlu { s.rlu with receiver := r' }).setPending (s.pending ++ [i]) := by
  unfold lineBit
  rw [if_pos hout, hr, h]
  rfl

/-- R114: the samples of a character under way. -/
theorem lineBits_taking (l samples : List Bool) (h : samples.length + l.length ≤ 9) (hr : s.rlu.receiver = .taking samples) :
    lineBits l s = s.setRlu { s.rlu with receiver := .taking (samples ++ l) } := by
  induction l generalizing s samples with
  | nil => rw [List.append_nil, ← hr]; rfl
  | cons b l ih =>
    rw [List.length_cons] at h
    have hone := lineBit_quiet hout hr (r' := .taking (samples ++ [b])) (level := b) (if_pos (by omega))
    have hrest := ih (s := s.setRlu { s.rlu with receiver := .taking (samples ++ [b]) }) hout (samples ++ [b])
      (by rw [List.length_append, List.length_singleton]; omega) rfl
    rw [lineBits, List.foldl_cons, hone]
    rw [List.append_assoc] at hrest
    exact hrest

/-- R114: a line that stays low in a break, up to the tenth bit time. -/
theorem lineBits_broken (n low : Nat) (h : low + n ≤ 9) (hr : s.rlu.receiver = .broken low) :
    lineBits (List.replicate n false) s = s.setRlu { s.rlu with receiver := .broken (low + n) } := by
  induction n generalizing s low with
  | zero => rw [Nat.add_zero, ← hr]; rfl
  | succ n ih =>
    have hone := lineBit_quiet hout hr (r' := .broken (low + 1)) (level := false) (if_pos (by omega))
    have hrest := ih (s := s.setRlu { s.rlu with receiver := .broken (low + 1) }) hout (low + 1) (by omega) rfl
    rw [List.replicate_succ, lineBits, List.foldl_cons, hone]
    rw [Nat.add_right_comm, Nat.add_assoc] at hrest
    exact hrest

end line

theorem flagByte_getLsbD (c : Byte) : flagByte ((List.range 8).map c.getLsbD) = c := by
  revert c
  decide

/-- R114: the tenth sample of a character. -/
theorem Receiver.sample_last {samples : List Bool} (h : ¬samples.length < 9) (level : Bool) :
    Receiver.sample level (.taking samples) = (if level then .idle else .broken 0, decodeCharacter (samples ++ [level])) := if_neg h

/-- R114: a whole character from an idle line. -/
theorem lineBits_character {s : State} (hout : isOut s = true) (hidle : s.rlu.receiver = .idle) (char : Byte) (err : Bool) :
    lineBits ([false] ++ (List.range 8).map char.getLsbD ++ [!err]) s =
      (s.setRlu { s.rlu with receiver := if err then .broken 0 else .idle }).setPending (s.pending ++ [.characterReceived char err]) := by
  have hstart := lineBit_quiet hout hidle (r' := .taking [false]) (level := false) rfl
  have hdata := lineBits_taking (s := s.setRlu { s.rlu with receiver := .taking [false] }) hout ((List.range 8).map char.getLsbD) [false]
    (by simp) rfl
  have hdecoded : decodeCharacter ([false] ++ (List.range 8).map char.getLsbD ++ [!err]) = some (.characterReceived char err) := by
    rw [← congrArg (fun c => some (Instr.characterReceived c err)) (flagByte_getLsbD char)]
    cases err <;> rfl
  have hstop : Receiver.sample (!err) (.taking ([false] ++ (List.range 8).map char.getLsbD)) =
      (if !err then .idle else .broken 0, some (.characterReceived char err)) := by
    have hfull : ¬([false] ++ (List.range 8).map char.getLsbD).length < 9 := by simp
    rw [← hdecoded]
    exact Receiver.sample_last hfull _
  have hend := lineBit_complete
    (s := s.setRlu { s.rlu with receiver := .taking ([false] ++ (List.range 8).map char.getLsbD) }) hout rfl hstop
  have hsplit : lineBits ([false] ++ (List.range 8).map char.getLsbD ++ [!err]) s =
      lineBit (!err) (lineBits ((List.range 8).map char.getLsbD) (lineBit false s)) := by
    simp only [lineBits, List.foldl_append, List.foldl_cons, List.foldl_nil]
  have hshown : (if !err then Receiver.idle else .broken 0) = if err then .broken 0 else .idle := by cases err <;> rfl
  rw [hshown] at hend
  rw [hsplit, hstart, hdata]
  exact hend

/-- R114: ten low bit times of a break make another character. -/
theorem lineBits_break {s : State} (hout : isOut s = true) (hbroken : s.rlu.receiver = .broken 0) :
    lineBits (List.replicate 10 false) s = s.setPending (s.pending ++ [.characterReceived 0 true]) := by
  have hnine := lineBits_broken hout 9 0 (by omega) hbroken
  have hten := lineBit_complete (s := s.setRlu { s.rlu with receiver := .broken (0 + 9) }) hout (level := false) (r' := .broken 0)
    (i := .characterReceived 0 true) rfl rfl
  have hsplit : lineBits (List.replicate 10 false) s = lineBit false (lineBits (List.replicate 9 false) s) := by
    rw [List.replicate_succ' (n := 9), lineBits, List.foldl_append]
    rfl
  have hsame : s.setRlu { s.rlu with receiver := .broken 0 } = s := by rw [← hbroken]; rfl
  rw [hsplit, hnine, hten]
  exact congrArg (fun t : State => t.setPending (s.pending ++ [.characterReceived 0 true])) hsame

theorem lineBits_waiting {s : State} (hout : isOut s = true) (hwaiting : s.rlu.receiver = .waiting) (n : Nat) :
    lineBits (List.replicate n false) s = s := by
  have hone : lineBit false s = s := by
    rw [lineBit_quiet hout hwaiting (r' := .waiting) rfl, ← hwaiting]
    rfl
  induction n with
  | zero => rfl
  | succ n ih => rw [List.replicate_succ, lineBits, List.foldl_cons, hone]; exact ih

/-! ### Reset causes (R190) -/

theorem causeGone_eq (s : State) : causeGone s = s.setPending (s.pending ++ if s.pins.holdsCause then [] else [.resetCauseEnd]) := by
  unfold causeGone
  split
  · rw [List.append_nil]
    rfl
  · rfl

/-- Settles O53: chip select periods, the recorder line, and the two leads that hold a cause. -/
theorem inputLinesMakeCommands : Obligations.InputLinesMakeCommands := by
  refine ⟨fun p bits s hsel => ⟨fun hout => ?_, fun hin => ?_⟩, fun p bits s t hsel hstray ht => ?_, fun p s t h => ?_,
    fun char err s hout hidle => lineBits_character hout hidle char err,
    fun s hout => ⟨fun h => ?_, fun h n => lineBits_waiting hout h n, lineBits_break hout⟩, fun mv nanos s => ?_⟩
  · rw [lowPeriod_bits p s bits hsel, if_pos hout, selectRises_frame p _ (b := statusByte s p) (by simp) (by simp), State.setSpi_spi_same,
      setSpi_setSpi, enqueue, State.setSpi_pending]
  · rw [lowPeriod_bits p s bits hsel, if_neg (by simp [hin]), selectRises_stray p _ (by simp) (by simp), State.setSpi_spi_same,
      setSpi_setSpi]
  · subst ht
    rw [clockBits p s bits hsel, selectRises_stray p _ (by simpa using hsel) (by simpa using hstray), State.setSpi_spi_same,
      setSpi_setSpi]
  · have hspi : t.spi p = (s.spi p).cutOff := by
      rcases h with h | h <;> cases h <;> exact beginCause_spi _ p s
    rw [hspi]
    exact ⟨rfl, rfl, rfl⟩
  · rcases h with h | h | ⟨n, h⟩ <;> exact lineBit_quiet hout h rfl
  · intro put
    refine ⟨fun h => ?_, fun h => ?_, fun h => ⟨?_, ?_⟩, fun h => ⟨?_, ?_⟩⟩
    · unfold vdd5Lead
      rw [if_neg (by simp [h])]
      rfl
    · unfold vdd5Lead
      rw [if_pos h, causeGone_eq]
      cases hr : s.pins.rstLow <;> simp [Pins.holdsCause, hr, put, Config.powerOnAbove]
    · exact if_neg (by simp [h])
    · by_cases hn : nanos < 1000
      · rw [if_pos hn]
        exact if_pos (by simp [hn, Config.pinPulse])
      · rw [if_neg hn]
        exact if_neg (by rw [h, Bool.false_or, decide_eq_true_iff]; exact hn)
    · exact if_pos (by simp [h])
    · unfold rstRises
      rw [if_pos h, causeGone_eq]
      cases hr : s.pins.vdd5Low <;> simp [Pins.holdsCause, hr, put]

end Sys2Proof.Machine
end
section
/-! CERTIFICATE. The output leads (R31, R32, R66, R84, R91, R166, R183, R190). -/
namespace Sys2Proof.Machine

/-! ### Coil currents (R31) -/

section currents

theorem currentA_energized (k : Nat) : (CoilDrive.energized k).currentA = 25 * Real.sin (k * (Real.pi / 24)) := by
  simp [CoilDrive.currentA, Config.fullScale]

theorem currentB_energized (k : Nat) : (CoilDrive.energized k).currentB = 25 * Real.cos (k * (Real.pi / 24)) := by
  simp [CoilDrive.currentB, Config.fullScale]

/-- R31: a quarter turn of the phase on. -/
theorem currents_quarter (k : Nat) : (CoilDrive.energized (k + 12)).currentA = (CoilDrive.energized k).currentB ∧
    (CoilDrive.energized (k + 12)).currentB = -(CoilDrive.energized k).currentA := by
  have hangle : ((k + 12 : Nat) : ℝ) * (Real.pi / 24) = k * (Real.pi / 24) + Real.pi / 2 := by push_cast; ring
  rw [currentA_energized, currentB_energized, currentA_energized, currentB_energized, hangle, Real.sin_add_pi_div_two,
    Real.cos_add_pi_div_two]
  exact ⟨rfl, by ring⟩

theorem currents_turn (k : Nat) : (CoilDrive.energized (k + 48)).currentA = (CoilDrive.energized k).currentA ∧
    (CoilDrive.energized (k + 48)).currentB = (CoilDrive.energized k).currentB := by
  obtain ⟨ha, hb⟩ := currents_quarter (k + 36)
  obtain ⟨ha', hb'⟩ := currents_quarter (k + 24)
  obtain ⟨ha'', hb''⟩ := currents_quarter (k + 12)
  obtain ⟨ha''', hb'''⟩ := currents_quarter k
  rw [ha, hb, ha', hb', ha'', hb'', ha''', hb''', neg_neg, neg_neg]
  exact ⟨rfl, rfl⟩

theorem currents_full (k : Nat) :
    (CoilDrive.energized k).currentA ^ 2 + (CoilDrive.energized k).currentB ^ 2 = 25 ^ 2 := by
  rw [currentA_energized, currentB_energized]
  linear_combination 25 ^ 2 * Real.sin_sq_add_cos_sq (k * (Real.pi / 24))

theorem currents_zero : (CoilDrive.energized 0).currentA = 0 ∧ (CoilDrive.energized 0).currentB = 25 := by
  rw [currentA_energized, currentB_energized]
  simp

theorem currents_six : (CoilDrive.energized 6).currentA = 25 * (Real.sqrt 2 / 2) ∧
    (CoilDrive.energized 6).currentB = 25 * (Real.sqrt 2 / 2) := by
  have hangle : ((6 : Nat) : ℝ) * (Real.pi / 24) = Real.pi / 4 := by push_cast; ring
  rw [currentA_energized, currentB_energized, hangle, Real.sin_pi_div_four, Real.cos_pi_div_four]
  exact ⟨rfl, rfl⟩

end currents

/-! ### Rows, columns and the sounder -/

theorem columnDrive_eq_some (s : State) (col : Fin 8) (d : Nat) : columnDrive s col = some d ↔
    ∃ n : Fin 48, n.val = 8 * s.lmd.slot + col.val ∧ s.lmd.plan.get n = some d := by
  unfold columnDrive lampAt
  by_cases h : s.lmd.slot < 6
  · rw [dif_pos h]
    dsimp only
    refine ⟨fun hd => ⟨_, rfl, hd⟩, fun ⟨n, hn, hd⟩ => ?_⟩
    rwa [show (⟨8 * s.lmd.slot + col.val, by omega⟩ : Fin 48) = n from Fin.ext hn.symm]
  · rw [dif_neg h]
    refine ⟨fun hd => absurd hd (by simp), fun ⟨n, hn, _⟩ => ?_⟩
    omega

theorem triple_sounds (elapsed : Nat) : (elapsed < 900 && elapsed % 350 < 200) = true ↔
    elapsed < 200 ∨ (350 ≤ elapsed ∧ elapsed < 550) ∨ (700 ≤ elapsed ∧ elapsed < 900) := by
  rw [Bool.and_eq_true, decide_eq_true_iff, decide_eq_true_iff]
  omega

/-! ### The data outputs -/

theorem length_padTo (n : Nat) (l : List Byte) : (padTo n l).length = n := by
  simp [padTo]

theorem length_sealFrame (f : List Byte) : (sealFrame f).length = 24 := by
  rw [sealFrame, List.length_append, length_padTo, List.length_singleton]

theorem outputBit_byte {f : List Byte} {n : Nat} (hn : n < f.length) (k : Fin 8) :
    outputBit f (8 * n + k.val) = (byteAt f n).getMsbD k.val := by
  have hbyte : (8 * n + k.val) / 8 = n := by omega
  have hbit : (8 * n + k.val) % 8 = k.val := by omega
  rw [outputBit, if_pos (by omega), hbyte, hbit]

theorem outputBit_past {f : List Byte} {n : Nat} (hn : 8 * f.length ≤ n) : outputBit f n = false := if_neg (Nat.not_lt.2 hn)

/-- R166: the data output in a frame. -/
theorem dataLead_frame {s : State} {p : Port} {b : Byte} (hout : isOut s = true) (hsel : (s.spi p).selected = true)
    (hb : (s.spi p).status = some b) :
    dataLead s p = some (outputBit (responseFrame b (s.port p).response) (s.spi p).bits.length) := by
  rw [dataLead, hout, hsel, hb]
  rfl

/-- R31: once the interval has passed, the coils stand as the channel stands. -/
theorem Channel.coilsDuring_ended (c : Channel) (low : Bool) {micros : Nat} (h : 2000 ≤ micros) :
    c.coilsDuring low micros = c.coils := by
  have hpast : c.walk.length ≤ micros * c.walk.length / (1000 * Config.motionPeriod) := by
    rw [Nat.le_div_iff_mul_le (by decide), Nat.mul_comm]
    exact Nat.mul_le_mul_right _ h
  rw [coilsDuring]
  cases c.coils with
  | released => rfl
  | energized k =>
    dsimp only
    rw [List.getD_eq_default _ _ hpast, ite_self]

section out
variable {s : State} (hout : isOut s = true)
include hout

theorem coilLead_out (i : Fin 8) : coilLead s i = (s.ge.channels.get i).coils := if_pos hout

theorem coilDuring_out (i : Fin 8) (micros : Nat) :
    coilDuring s i micros = (s.ge.channels.get i).coilsDuring s.pwc.supplyLow micros := if_pos hout

theorem columnSinks_iff (col : Fin 8) (micros : Nat) : columnSinks s col micros = true ↔
    ∃ n : Fin 48, n.val = 8 * s.lmd.slot + col.val ∧ ∃ d ∈ s.lmd.plan.get n, 16 * micros < 1000 * d := by
  have hdrive : columnLead s col = columnDrive s col := if_pos hout
  have hsinks : columnSinks s col micros = true ↔ ∃ d, columnDrive s col = some d ∧ 16 * micros < 1000 * d := by
    unfold columnSinks
    rw [hdrive]
    cases columnDrive s col with
    | none => simp
    | some d => simp
  simp only [hsinks, columnDrive_eq_some, Option.mem_def]
  tauto

theorem sounderLead_out : sounderLead s = s.cu.output := if_pos hout

theorem eventLead_iff (p : Port) : eventLead s p = true ↔ ∃ k, ((s.port p).events.get k).count ≠ 0 := by
  rw [eventLead, hout, Bool.true_and, eventLine, Tab.any_iff]
  exact exists_congr fun k => decide_eq_true_iff

end out

/-- Settles O52: the coils by their currents and phase indices, and each other lead by its rule. -/
theorem outputLeadsFollowState : Obligations.OutputLeadsFollowState := by
  refine ⟨fun k => ?_, rfl, rfl, fun s hout => ⟨fun i => ?_, fun r => ?_, columnSinks_iff hout, fun hmuted => ?_,
    fun hloud q hq => ?_, fun hloud hidle => ?_, fun p => ⟨eventLead_iff hout p, fun hsel => ?_, fun hsel b hb => ?_⟩⟩,
    fun s hin => ⟨fun i micros => ⟨?_, ?_⟩, fun r => ?_, fun col micros => ?_, ?_, fun p => ⟨?_, ?_⟩⟩⟩
  · intro a b
    have hquarter (n : Nat) : a (n + 12) = b n ∧ b (n + 12) = -a n := currents_quarter (k + n)
    refine ⟨currents_full k, (currents_turn k).1, (currents_turn k).2, (hquarter 0).1, (hquarter 0).2, fun hk => ?_⟩
    subst hk
    have hzero : a 0 = 0 ∧ b 0 = 25 := currents_zero
    have hsix : a 6 = 25 * (Real.sqrt 2 / 2) ∧ b 6 = 25 * (Real.sqrt 2 / 2) := currents_six
    have htwelve := hquarter 0
    have heighteen := hquarter 6
    have htwentyfour := hquarter 12
    have hthirty := hquarter 18
    have hthirtysix := hquarter 24
    have hfortytwo := hquarter 30
    simp only [Nat.zero_add, Nat.reduceAdd] at htwelve heighteen htwentyfour hthirty hthirtysix hfortytwo
    simp only [hthirtysix, hfortytwo, htwentyfour, hthirty, htwelve, heighteen, hzero, hsix, neg_neg, neg_zero, and_self]
  · have hlead := coilLead_out hout i
    intro c
    refine ⟨fun h => ?_, fun h => ?_, fun h => ?_, fun micros => ⟨fun h => ?_, fun h => ?_⟩⟩
    · rw [hlead]
      rcases h with h | h <;> rw [Channel.coils, h]
    · rw [hlead, Channel.coils, h]
      rfl
    · rw [hlead]
      rcases h with h | h | h | h <;> rw [Channel.coils, h] <;> rfl
    · rw [hlead] at h
      rw [coilDuring_out hout, Channel.coilsDuring, h]
    · rcases h with hlow | hended
      · exact coilDuring_suspended hlow i micros
      · rw [coilDuring_out hout, hlead, Channel.coilsDuring_ended _ _ hended]
  · rw [rowLead, hout, Bool.true_and, rowDrive, Bool.and_eq_true, decide_eq_true_iff]
  · rw [sounderLead_out hout, ChimeUnit.output, if_pos hmuted]
  · have hplaying : s.cu.playing = some q := hq
    rw [sounderLead_out hout, ChimeUnit.output, if_neg (by simp [hloud]), hplaying]
    dsimp only
    cases q.chime.sound with
    | tick | tock | single => rfl
    | triple => exact if_congr (triple_sounds q.elapsed) rfl rfl
  · rw [sounderLead_out hout, ChimeUnit.output, if_neg (by simp [hloud]), hidle]
    cases s.cu.tone <;> rfl
  · rw [dataLead, hsel, Bool.and_false]
    rfl
  · intro frame
    have hlead := dataLead_frame hout hsel hb
    have hlength : frame.length = 24 := length_sealFrame _
    refine ⟨fun n k hn hbits => ?_, fun hbits => ?_⟩
    · rw [hlead, hbits]
      exact congrArg some (outputBit_byte (hlength ▸ hn) k)
    · rw [hlead]
      exact congrArg some (outputBit_past (f := frame) (by omega))
  · rw [coilLead, if_neg (by simp [hin])]
  · rw [coilDuring, if_neg (by simp [hin])]
  · rw [rowLead, hin, Bool.false_and]
  · rw [columnSinks, columnLead, if_neg (by simp [hin])]
  · rw [sounderLead, if_neg (by simp [hin])]
  · rw [eventLead, hin, Bool.false_and]
  · rw [dataLead, hin, Bool.false_and]
    rfl

end Sys2Proof.Machine
end

section
/-! SUPPORT. The wire forms: bytes, words and flags read back as they were written, and what the CRC-8 tells apart (R3, R193). -/
namespace Sys2Proof.Machine

/-! ### Bytes and words read back (R193) -/

theorem joinBytes_hi_lo (w : BitVec 16) : joinBytes (hiByte w) (loByte w) = w := by
  rw [joinBytes, hiByte, loByte, BitVec.extractLsb'_append_extractLsb'_eq_extractLsb' (show 8 = 0 + 8 from rfl)]
  exact BitVec.extractLsb'_eq_self

theorem joinWords_hi_lo (w : BitVec 32) :
    joinBytes (hiByte (w.extractLsb' 16 16)) (loByte (w.extractLsb' 16 16)) ++
      joinBytes (hiByte (w.extractLsb' 0 16)) (loByte (w.extractLsb' 0 16)) = w := by
  rw [joinBytes_hi_lo, joinBytes_hi_lo, BitVec.extractLsb'_append_extractLsb'_eq_extractLsb' (show 16 = 0 + 16 from rfl)]
  exact BitVec.extractLsb'_eq_self

theorem flagByte_getMsbD (b : Byte) :
    flagByte [b.getMsbD 7, b.getMsbD 6, b.getMsbD 5, b.getMsbD 4, b.getMsbD 3, b.getMsbD 2, b.getMsbD 1, b.getMsbD 0] = b := by
  revert b
  decide

theorem bytesOfBits_frameBits (f : List Byte) : bytesOfBits (frameBits f) = f := by
  induction f with
  | nil => rfl
  | cons b f ih =>
    have hbits : bytesOfBits (frameBits (b :: f)) =
        flagByte [b.getMsbD 7, b.getMsbD 6, b.getMsbD 5, b.getMsbD 4, b.getMsbD 3, b.getMsbD 2, b.getMsbD 1, b.getMsbD 0] ::
          bytesOfBits (frameBits f) := rfl
    rw [hbits, flagByte_getMsbD, ih]

theorem length_frameBits (f : List Byte) : (frameBits f).length = 8 * f.length := by
  rw [frameBits, List.length_flatMap]
  simp [Nat.mul_comm]

/-! ### What the CRC-8 tells apart (R3) -/

/-- One bit of the division undone. -/
def crcUnbit (c : Byte) : Byte := if c.getLsbD 0 then ((c ^^^ 0x07) >>> 1) ||| 0x80 else c >>> 1

theorem crcUnbit_crcBit (c : Byte) : crcUnbit (crcBit c) = c := by
  revert c
  decide

theorem crcBit_injective : Function.Injective crcBit := Function.LeftInverse.injective crcUnbit_crcBit

theorem crcByte_injective {c c' b b' : Byte} (h : crcByte c b = crcByte c' b') : c ^^^ b = c' ^^^ b' := by
  unfold crcByte at h
  iterate 8 replace h := crcBit_injective h
  exact h

theorem crcByte_left {c c' b : Byte} (h : crcByte c b = crcByte c' b) : c = c' := (BitVec.xor_left_inj _).1 (crcByte_injective h)

theorem crcByte_right {c b b' : Byte} (h : crcByte c b = crcByte c b') : b = b' := (BitVec.xor_right_inj _).1 (crcByte_injective h)

theorem foldl_crcByte_injective (l : List Byte) {c c' : Byte} (h : l.foldl crcByte c = l.foldl crcByte c') : c = c' := by
  induction l generalizing c c' with
  | nil => exact h
  | cons b l ih => exact crcByte_left (ih h)

/-- R3: one byte changed changes the CRC. -/
theorem crc8_set_ne {l : List Byte} {k : Nat} (hk : k < l.length) {v : Byte} (h : l[k]? ≠ some v) : crc8 (l.set k v) ≠ crc8 l := by
  intro heq
  have hset : l.set k v = l.take k ++ v :: l.drop (k + 1) := by rw [List.set_eq_take_append_cons_drop, if_pos hk]
  have hself : l = l.take k ++ l[k] :: l.drop (k + 1) := by rw [List.getElem_cons_drop, List.take_append_drop]
  rw [crc8, crc8, hset] at heq
  conv_rhs at heq => rw [hself]
  rw [List.foldl_append, List.foldl_append, List.foldl_cons, List.foldl_cons] at heq
  have hsame := crcByte_right (foldl_crcByte_injective _ heq)
  exact h (by rw [List.getElem?_eq_getElem hk, hsame])

/-! ### Sealed frames (R167, 12.2) -/

theorem byteAt_sealFrame {f : List Byte} {k : Nat} (h : k < 23) : byteAt (sealFrame f) k = byteAt f k := by
  have hpad : byteAt (sealFrame f) k = byteAt (padTo 23 f) k := by
    rw [byteAt, byteAt, sealFrame, List.getD_append _ _ _ _ (by rw [length_padTo]; exact h)]
  rw [hpad, byteAt, byteAt, padTo, List.getD_eq_getElem?_getD, List.getElem?_take_of_lt h, List.getD_eq_getElem?_getD]
  by_cases hk : k < f.length
  · rw [List.getElem?_append_left hk]
  · have hzero : (List.replicate 23 (0 : Byte))[k - f.length]? = some 0 := by
      rw [List.getElem?_replicate, if_pos (by omega)]
    rw [List.getElem?_append_right (by omega), hzero, List.getElem?_eq_none (by omega)]
    rfl

theorem padTo_append {n : Nat} {g : List Byte} (h : g.length = n) (l : List Byte) : padTo n (g ++ l) = g := by
  rw [padTo, List.append_assoc, List.take_append_of_le_length (by omega), List.take_of_length_le (by omega)]

end Sys2Proof.Machine
end
section
/-! CERTIFICATE. Decode and encode agree on the wire (R3, R166, R167, R193 to R195). -/
namespace Sys2Proof.Machine

/-! ### Taken frames -/

/-- R194: a taken frame's command is made of its bytes 0 to 22. -/
theorem decodeTaken_congr {f g : List Byte} (h : ∀ k < 23, byteAt f k = byteAt g k) (p : Port) : decodeTaken p f = decodeTaken p g := by
  have hword {k : Nat} (hk : k < 22) : wordAt f k = wordAt g k := by rw [wordAt, wordAt, h k (by omega), h (k + 1) (by omega)]
  have hpoint {k : Nat} (hk : k < 20) : pointAt f k = pointAt g k := by rw [pointAt, pointAt, hword (by omega), hword (by omega)]
  have hfive : (Tab.ofFn fun i : Fin 5 => pointAt f (3 + 4 * i.val)) = .ofFn fun i => pointAt g (3 + 4 * i.val) :=
    congrArg _ (funext fun i => hpoint (by omega))
  have hfour : (Tab.ofFn fun i : Fin 4 => pointAt f (3 + 4 * i.val)) = .ofFn fun i => pointAt g (3 + 4 * i.val) :=
    congrArg _ (funext fun i => hpoint (by omega))
  have hpairs : (Tab.ofFn fun i : Fin 8 => (⟨byteAt f (2 + 2 * i.val), byteAt f (3 + 2 * i.val)⟩ : LampPair)) =
      .ofFn fun i => ⟨byteAt g (2 + 2 * i.val), byteAt g (3 + 2 * i.val)⟩ :=
    congrArg _ (funext fun i => by rw [h _ (by omega), h _ (by omega)])
  have htime : timeAt f 1 = timeAt g 1 := by
    simp only [timeAt, h 1 (by decide), h 2 (by decide), h 3 (by decide), h 4 (by decide), h 5 (by decide), h 6 (by decide)]
  unfold decodeTaken
  rw [hfive, hfour, hpairs, htime, h 0 (by decide), h 1 (by decide), h 2 (by decide), h 3 (by decide), h 4 (by decide),
    h 5 (by decide), h 6 (by decide), h 7 (by decide), h 8 (by decide), h 9 (by decide), h 10 (by decide), h 11 (by decide),
    hword (k := 2) (by decide), hword (k := 3) (by decide)]

/-- R170: a code that no command has. -/
theorem decodeTaken_unknown (p : Port) {code : Byte} (h : knownCodes.contains code = false) :
    decodeTaken p [code] = .unknownCommand p code := by
  have hbyte : byteAt [code] 0 = code := rfl
  have hnot (n : Nat) (hn : code.toNat = n) : knownCodes.contains (BitVec.ofNat 8 n) = false := by
    rw [← hn, BitVec.ofNat_toNat, BitVec.setWidth_eq]
    exact h
  unfold decodeTaken
  rw [hbyte]
  split
  case h_32 => rfl
  all_goals exact absurd (hnot _ ‹_›) (by decide)

theorem getLsbD_flagByte_one (b : Bool) : (flagByte [b]).getLsbD 0 = b := by cases b <;> rfl

/-! ### Lists of points and of pairs -/

/-- A byte in a run of blocks of one length, after a head. -/
theorem byteAt_blocks {α : Type} {n w : Nat} (g : α → List Byte) (hg : ∀ x, (g x).length = w) (head : List Byte) (t : Tab α n)
    (i : Fin n) {j : Nat} (hj : j < w) : byteAt (head ++ (t.val.map g).flatten) (head.length + w * i.val + j) = byteAt (g (t.get i)) j := by
  have hblocks (l : List α) (i : Nat) (hi : i < l.length) : (l.map g).flatten.getD (w * i + j) 0 = (g l[i]).getD j 0 := by
    induction l generalizing i with
    | nil => exact absurd hi (Nat.not_lt_zero _)
    | cons x l ih =>
      rw [List.map_cons, List.flatten_cons]
      cases i with
      | zero => rw [Nat.mul_zero, Nat.zero_add, List.getD_append _ _ _ _ (by rw [hg]; exact hj)]; rfl
      | succ i =>
        rw [List.getD_append_right _ _ _ _ (by rw [hg, Nat.mul_succ]; omega), hg,
          show w * (i + 1) + j - w = w * i + j by rw [Nat.mul_succ]; omega]
        exact ih i (by simpa using hi)
  rw [byteAt, Nat.add_assoc, List.getD_append_right _ _ _ _ (Nat.le_add_right _ _), Nat.add_sub_cancel_left]
  exact hblocks _ _ _

theorem pointAt_blocks {n : Nat} (head : List Byte) (t : Tab PointArg n) (i : Fin n) :
    pointAt (head ++ (t.val.map Sys2Proof.pointBytes).flatten) (head.length + 4 * i.val) = t.get i := by
  have hbyte {j : Nat} (hj : j < 4) := byteAt_blocks (w := 4) Sys2Proof.pointBytes (fun _ => rfl) head t i hj
  rw [pointAt, wordAt, wordAt, Nat.add_assoc _ 2 1, hbyte (j := 1) (by decide), hbyte (j := 2) (by decide), hbyte (j := 3) (by decide)]
  have hzero := hbyte (j := 0) (by decide)
  rw [Nat.add_zero] at hzero
  rw [hzero]
  have hread (q : PointArg) : (⟨joinBytes (hiByte q.x) (loByte q.x), joinBytes (hiByte q.a) (loByte q.a)⟩ : PointArg) = q := by
    rw [joinBytes_hi_lo, joinBytes_hi_lo]
  exact hread _

theorem pairAt_blocks {n : Nat} (head : List Byte) (t : Tab LampPair n) (i : Fin n) :
    (⟨byteAt (head ++ (t.val.map fun q => [q.lamp, q.code]).flatten) (head.length + 2 * i.val),
      byteAt (head ++ (t.val.map fun q => [q.lamp, q.code]).flatten) (head.length + 1 + 2 * i.val)⟩ : LampPair) = t.get i := by
  have hbyte {j : Nat} (hj : j < 2) := byteAt_blocks (w := 2) (fun q : LampPair => [q.lamp, q.code]) (fun _ => rfl) head t i hj
  have hzero := hbyte (j := 0) (by decide)
  rw [Nat.add_zero] at hzero
  rw [Nat.add_right_comm, hbyte (j := 1) (by decide), hzero]
  rfl

/-! ### Every command read back -/

theorem decodeTaken_requestBytes {i : Instr} {p : Port} {body : List Byte} (hw : i.wellFormed = true)
    (h : requestBytes i = some (p, body)) : decodeTaken p body = i := by
  cases i <;> simp only [requestBytes, Option.some.injEq, Prod.mk.injEq, reduceCtorEq] at h <;> obtain ⟨rfl, rfl⟩ := h
  case unknownCommand q code => exact decodeTaken_unknown q (by simpa [Instr.wellFormed] using hw)
  case setValue q ch v => exact congrArg (Instr.setValue q ch) (joinBytes_hi_lo v)
  case setChannel q a =>
    have hargs : (⟨a.channel, (flagByte [a.enabled]).getLsbD 0, joinBytes (hiByte a.sweepLimit) (loByte a.sweepLimit), a.vmax,
        a.filterShift, a.sourceCount, a.first, a.second, a.faultLamp, (flagByte [a.sweepTest]).getLsbD 0⟩ : ChannelArgs) = a := by
      rw [joinBytes_hi_lo, getLsbD_flagByte_one, getLsbD_flagByte_one]
    exact congrArg (Instr.setChannel q) hargs
  case loadCurvePart0 q ch part n pts =>
    have hpart : part ≠ 1 := by simpa [Instr.wellFormed] using hw
    have hpoints : (Tab.ofFn fun i : Fin 5 => pointAt ([0x13, part ++ ch, n] ++ (pts.val.map Sys2Proof.pointBytes).flatten)
        (3 + 4 * i.val)) = pts :=
      Tab.ext_get fun i => (Tab.get_ofFn _ _).trans (pointAt_blocks [0x13, part ++ ch, n] pts i)
    have hbranch : (part ++ ch : Byte).extractLsb' 4 4 ≠ 1 := by
      rw [BitVec.extractLsb'_append_eq_left]
      exact hpart
    refine (if_neg hbranch).trans ?_
    rw [hpoints]
    exact congrArg₂ (fun c r => Instr.loadCurvePart0 q c r n pts) BitVec.extractLsb'_append_eq_right BitVec.extractLsb'_append_eq_left
  case loadCurvePart1 q ch pts =>
    have hpoints : (Tab.ofFn fun i : Fin 4 => pointAt ([0x13, (1 : BitVec 4) ++ ch, 0] ++ (pts.val.map Sys2Proof.pointBytes).flatten)
        (3 + 4 * i.val)) = pts :=
      Tab.ext_get fun i => (Tab.get_ofFn _ _).trans (pointAt_blocks [0x13, (1 : BitVec 4) ++ ch, 0] pts i)
    have hbranch : ((1 : BitVec 4) ++ ch : Byte).extractLsb' 4 4 = 1 := BitVec.extractLsb'_append_eq_left
    refine (if_pos hbranch).trans ?_
    rw [hpoints]
    exact congrArg (fun c => Instr.loadCurvePart1 q c pts) BitVec.extractLsb'_append_eq_right
  case writeLamps q n pairs =>
    have hpairs : (Tab.ofFn fun i : Fin 8 =>
        (⟨byteAt ([0x20, n] ++ (pairs.val.map fun q => [q.lamp, q.code]).flatten) (2 + 2 * i.val),
          byteAt ([0x20, n] ++ (pairs.val.map fun q => [q.lamp, q.code]).flatten) (3 + 2 * i.val)⟩ : LampPair)) = pairs :=
      Tab.ext_get fun i => (Tab.get_ofFn _ _).trans (pairAt_blocks [0x20, n] pairs i)
    exact congrArg (Instr.writeLamps q n) hpairs
  case lampTestRequest q action =>
    have haction : action ≠ 0 := by simpa [Instr.wellFormed] using hw
    exact if_neg haction
  all_goals rfl

theorem frameTaken_sealFrame (body : List Byte) : frameTaken 192 (sealFrame body) = true := by
  have hcrc : byteAt (sealFrame body) 23 = crc8 (padTo 23 body) := by
    rw [byteAt, sealFrame, List.getD_append_right _ _ _ _ (by rw [length_padTo]), length_padTo]
    rfl
  rw [frameTaken, hcrc, sealFrame, padTo_append (length_padTo 23 body)]
  simp

/-- R167, R170: a sealed frame is read by what it seals. -/
theorem decodeRequest_sealFrame (p : Port) (body : List Byte) : decodeRequest p 192 (sealFrame body) = decodeTaken p body := by
  rw [decodeRequest, if_pos (frameTaken_sealFrame body)]
  exact decodeTaken_congr (fun k hk => byteAt_sealFrame hk) p

/-- R166: the bits of a sealed frame, clocked in. -/
theorem decodePeriod_sealFrame (p : Port) (body : List Byte) : decodePeriod p (frameBits (sealFrame body)) = decodeTaken p body := by
  have hbits : (frameBits (sealFrame body)).length = 192 := by rw [length_frameBits, length_sealFrame]
  rw [decodePeriod, bytesOfBits_frameBits, hbits, List.take_of_length_le (by rw [length_sealFrame]), decodeRequest_sealFrame]

/-- R3, R167: a sealed frame with one byte changed is not taken. -/
theorem frameTaken_damaged {body : List Byte} {k : Fin 24} {v : Byte} (h : (sealFrame body)[k]? ≠ some v) :
    frameTaken 192 ((sealFrame body).set k v) = false := by
  have hlength := length_padTo 23 body
  have hframe : sealFrame body = padTo 23 body ++ [crc8 (padTo 23 body)] := rfl
  have hlast (g : List Byte) (hg : g.length = 23) (b : Byte) : byteAt (g ++ [b]) 23 = b := by
    rw [byteAt, List.getD_append_right _ _ _ _ (by omega), hg]
    rfl
  have h : (sealFrame body)[k.val]? ≠ some v := h
  rw [hframe] at h ⊢
  generalize padTo 23 body = g at hlength h ⊢
  have htaken (g' : List Byte) (hg : g'.length = 23) {b : Byte} (hb : b ≠ crc8 g') : frameTaken 192 (g' ++ [b]) = false := by
    rw [frameTaken, hlast g' hg, padTo_append hg]
    simpa using hb
  by_cases hk : k.val < 23
  · rw [List.getElem?_append_left (by omega)] at h
    rw [List.set_append_left _ _ (by omega)]
    exact htaken _ (by rw [List.length_set, hlength]) (crc8_set_ne (by omega) h).symm
  · have hend : k.val = 23 := by omega
    rw [hend, ← hlength, List.getElem?_append_right (Nat.le_refl _), Nat.sub_self] at h
    rw [hend, ← hlength, List.set_append_right _ _ (Nat.le_refl _), Nat.sub_self]
    exact htaken g hlength fun hv => h (by rw [hv]; rfl)

theorem flagByte_bits (a b c : Bool) : (flagByte [a, b, c]).getLsbD 0 = a ∧ (flagByte [a, b, c]).getLsbD 1 = b ∧
    (flagByte [a, b, c]).getLsbD 2 = c := by cases a <;> cases b <;> cases c <;> decide

theorem readActivity_activityByte (a : ActivityArg) : readActivity (activityByte a) = a := by
  obtain ⟨activity, crew, card⟩ := a
  cases crew <;> cases card <;> revert activity <;> decide

theorem summary_read (a : SummaryArg) :
    ({ asOf := joinBytes (hiByte (a.asOf.extractLsb' 16 16)) (loByte (a.asOf.extractLsb' 16 16)) ++
         joinBytes (hiByte (a.asOf.extractLsb' 0 16)) (loByte (a.asOf.extractLsb' 0 16))
       continuous := joinBytes (hiByte a.continuous) (loByte a.continuous)
       daily := joinBytes (hiByte a.daily) (loByte a.daily)
       restRun := joinBytes (hiByte a.restRun) (loByte a.restRun)
       card := (flagByte [a.card, a.firstPart, a.runQualified]).getLsbD 0
       firstPart := (flagByte [a.card, a.firstPart, a.runQualified]).getLsbD 1
       runQualified := (flagByte [a.card, a.firstPart, a.runQualified]).getLsbD 2
       contLimit := joinBytes (hiByte a.contLimit) (loByte a.contLimit)
       dailyLimit := joinBytes (hiByte a.dailyLimit) (loByte a.dailyLimit) } : SummaryArg) = a := by
  obtain ⟨hcard, hfirst, hqualified⟩ := flagByte_bits a.card a.firstPart a.runQualified
  rw [joinWords_hi_lo, joinBytes_hi_lo, joinBytes_hi_lo, joinBytes_hi_lo, joinBytes_hi_lo, joinBytes_hi_lo, hcard, hfirst, hqualified]

/-- R195: a recorder command read back from its payload. -/
theorem decodeRecorder_payload {i : Instr} {type : Byte} {payload : List Byte} (h : recorderPayload i = some (type, payload)) :
    recorderLength type = some payload.length ∧ decodeRecorder type payload = some i := by
  cases i <;> simp only [recorderPayload, Option.some.injEq, Prod.mk.injEq, reduceCtorEq] at h <;> obtain ⟨rfl, rfl⟩ := h
  case speedFrame v fast motion =>
    have hflags : (flagByte [fast, motion]).getLsbD 0 = fast ∧ (flagByte [fast, motion]).getLsbD 1 = motion := by
      cases fast <;> cases motion <;> decide
    refine ⟨rfl, (congrArg some ?_ : some (Instr.speedFrame (joinBytes (hiByte v) (loByte v)) ((flagByte [fast, motion]).getLsbD 0)
      ((flagByte [fast, motion]).getLsbD 1)) = _)⟩
    rw [joinBytes_hi_lo, hflags.1, hflags.2]
  case timeFrame t valid =>
    exact ⟨rfl, congrArg (fun b => some (Instr.timeFrame t b)) (getLsbD_flagByte_one valid)⟩
  case activityFrame a b =>
    exact ⟨rfl, congrArg₂ (fun x y => some (Instr.activityFrame x y)) (readActivity_activityByte a) (readActivity_activityByte b)⟩
  case summaryFrame a b =>
    exact ⟨rfl, congrArg₂ (fun x y => some (Instr.summaryFrame x y)) (summary_read a) (summary_read b)⟩
  case distanceFrame odo trip =>
    exact ⟨rfl, congrArg₂ (fun x y => some (Instr.distanceFrame x y)) (joinWords_hi_lo odo) (joinWords_hi_lo trip)⟩
  case noticeFrame level code => exact ⟨rfl, rfl⟩

/-- Settles O51: the port commands by `decodeTaken_requestBytes`, damage by the CRC, the recorder's by `decodeRecorder_payload`. -/
theorem framesSpellTheirCommands : Obligations.FramesSpellTheirCommands := by
  refine ⟨fun i f hw h => ?_, fun i type payload h => decodeRecorder_payload h⟩
  obtain ⟨⟨p, body⟩, hbody, rfl⟩ := Option.map_eq_some_iff.1 h
  refine ⟨p, body, hbody, length_sealFrame body, ?_, fun k v hk => ?_, fun bits hbits => ?_⟩
  · rw [decodePeriod_sealFrame, decodeTaken_requestBytes hw hbody]
  · exact if_neg (by rw [frameTaken_damaged hk]; decide)
  · refine if_neg ?_
    rw [frameTaken, decide_eq_false hbits, Bool.false_and]
    decide

end Sys2Proof.Machine
end

section
/-! CERTIFICATE. Frames from the recorder, character by character (R115 to R117). -/
namespace Sys2Proof.Machine

/-! ### One character -/

/-- R115: the payload length of each TYPE. -/
theorem recorderLength_eq_some_iff (type : Byte) (n : Nat) : recorderLength type = some n ↔
    (type.toNat, n) ∈ ([(1, 3), (2, 7), (3, 2), (4, 30), (5, 8), (6, 2)] : List (Nat × Nat)) := by
  unfold recorderLength
  split <;> simp_all <;> omega

theorem recorderLength_isSome_iff (type : Byte) : (recorderLength type).isSome = true ↔ 1 ≤ type.toNat ∧ type.toNat ≤ 6 := by
  unfold recorderLength
  split <;> simp_all
  omega

theorem resync_eq (char : Byte) (err : Bool) : resync char err = if char = 0xC5 ∧ err = false then .type else .hunt := by
  unfold resync syncByte
  cases err <;> simp

theorem decodeRecorder_isFrame {type : Byte} {payload : List Byte} {c : Instr} (h : decodeRecorder type payload = some c) :
    (recorderPayload c).isSome = true := by
  unfold decodeRecorder at h
  split at h <;> cases h <;> rfl

section character
variable {s : State} (hout : isOut s = true) (char : Byte) (err : Bool)
include hout

theorem exec_characterReceived : exec (.characterReceived char err) s = .next (receive char err s) :=
  congrArg Host.Outcome.next (whenOut_of_isOut hout)

theorem exec_recorderFrameDiscarded : exec (.recorderFrameDiscarded char err) s = .next (discardFrame char err s) :=
  congrArg Host.Outcome.next (whenOut_of_isOut hout)

variable {char err}

theorem exec_character_stands {a : Assembly} (h : takeCharacter s.rlu.assembly char err = .stands a) :
    exec (.characterReceived char err) s = .next (s.setRlu { s.rlu with assembly := a, gapTime := 0 }) := by
  rw [exec_characterReceived hout, receive, h]
  rfl

theorem exec_character_frame {type : Byte} {payload : List Byte} {c : Instr}
    (h : takeCharacter s.rlu.assembly char err = .frame type payload) (hc : decodeRecorder type payload = some c) :
    exec (.characterReceived char err) s = exec c s := by
  have hframe : exec c s = .next (frameContents c (linkTaken s)) := exec_recorder hout (decodeRecorder_isFrame hc)
  rw [exec_characterReceived hout, receive, h, hframe]
  dsimp only
  rw [hc]
  rfl

end character

theorem exec_gapTimeout (s : State) : exec .gapTimeout s =
    .next (timed .gapTimeout s.rlu.pauses s.rlu.gapOut (whenOut (setAssembly .hunt)) s) := rfl

/-- Settles O41: each state of the assembly by `takeCharacter`, and the pause as a timed command. -/
theorem charactersAssembleFrames : Obligations.CharactersAssembleFrames := by
  intro char err s hout got put sync lengths pauses pause
  have hpauses : s.rlu.pauses = true ↔ pauses := by
    rw [RecorderLink.pauses, Bool.and_eq_true, decide_eq_true_iff, Bool.not_eq_true']
  have hpause : s.rlu.gapOut = true ↔ pause := by
    rw [RecorderLink.gapOut, Bool.and_eq_true, decide_eq_true_iff, hpauses]
    rfl
  have hstands {a : Assembly} (h : takeCharacter s.rlu.assembly char err = .stands a) : got = .next (put a) :=
    exec_character_stands hout h
  have hdiscard := exec_recorderFrameDiscarded hout char err
  have hsync : resync char err = sync := resync_eq char err
  refine ⟨fun hcomes => ?_, lapses_of_timed (exec_gapTimeout s) hpauses hpause, ?_⟩
  · rw [acts_of_timed (exec_gapTimeout s) hpauses hpause hcomes, whenOut_of_isOut (by simpa using hout)]
    rfl
  · cases ha : s.rlu.assembly with
    | hunt =>
      rw [ha] at hstands
      refine ⟨hstands (congrArg Taken.stands hsync), ?_⟩
      rw [hdiscard, discardFrame, ha]
    | type =>
      rw [ha] at hstands
      refine ⟨hstands ?_, ?_⟩
      · have hgood : (!err && (recorderLength char).isSome) = true ↔ err = false ∧ 1 ≤ char.toNat ∧ char.toNat ≤ 6 := by
          rw [Bool.and_eq_true, Bool.not_eq_true', recorderLength_isSome_iff]
        rw [takeCharacter, hsync]
        by_cases h : err = false ∧ 1 ≤ char.toNat ∧ char.toNat ≤ 6
        · rw [if_pos h, if_pos (hgood.2 h)]
        · rw [if_neg h, if_neg (mt hgood.1 h)]
      · rw [hdiscard, discardFrame, ha, hsync]
        rfl
    | length type =>
      rw [ha] at hstands
      refine ⟨hstands ?_, ?_⟩
      · have hgood : (!err && decide (recorderLength type = some char.toNat)) = true ↔
            err = false ∧ (type.toNat, char.toNat) ∈ lengths := by
          rw [Bool.and_eq_true, Bool.not_eq_true', decide_eq_true_iff, recorderLength_eq_some_iff]
        rw [takeCharacter, hsync]
        by_cases h : err = false ∧ (type.toNat, char.toNat) ∈ lengths
        · rw [if_pos h, if_pos (hgood.2 h)]
        · rw [if_neg h, if_neg (mt hgood.1 h)]
      · rw [hdiscard, discardFrame, ha, hsync]
        rfl
    | payload type received =>
      rw [ha] at hstands
      refine ⟨fun herr => hstands (if_pos herr), fun herr hfull => hstands ?_, fun herr hmore => hstands ?_, ?_⟩
      · have hlength := (recorderLength_eq_some_iff _ _).2 hfull
        rw [takeCharacter, if_neg (by simp [herr]), takePayload, hlength, if_pos (by simp)]
      · obtain ⟨l, hl, htype, hless⟩ := hmore
        have hlength := (recorderLength_eq_some_iff type l.2).2 (htype ▸ hl)
        rw [takeCharacter, if_neg (by simp [herr]), takePayload, hlength, if_neg (by simpa using hless)]
      · rw [hdiscard, discardFrame, ha]
        rfl
    | check type received =>
      rw [ha] at hstands
      have htaken : (err = false ∧ char = crc8 ([0xC5, type, BitVec.ofNat 8 received.length] ++ received)) ↔ (!err && decide (char = frameCrc type received)) = true := by
        rw [Bool.and_eq_true, decide_eq_true_iff, Bool.not_eq_true']
        rfl
      refine ⟨fun hbad => hstands (if_neg (mt htaken.2 hbad)), fun hgood c hc => ?_, ?_⟩
      · exact exec_character_frame hout (by rw [ha]; exact if_pos (htaken.1 hgood)) hc
      · rw [hdiscard, discardFrame, ha]
        rfl

/-! ### A whole frame -/

theorem setAssembly_setAssembly (a b : Assembly) (s : State) : setAssembly a (setAssembly b s) = setAssembly a s := rfl

section whole
variable {s : State} (hout : isOut s = true)
include hout

/-- A character that leaves the assembly in a state, and the characters after it. -/
theorem characters_stands {char : Byte} {rest : List Byte} {a b : Assembly} (h : takeCharacter a char false = .stands b) :
    characters (char :: rest) (setAssembly a s) = characters rest (setAssembly b s) := by
  have hone : exec (.characterReceived char false) (setAssembly a s) = .next (setAssembly b s) :=
    exec_character_stands (s := setAssembly a s) hout h
  rw [characters, hone]

/-- The payload of a frame, up to its CRC. -/
theorem characters_payload {type : Byte} {n : Nat} (hn : recorderLength type = some n) (rest : List Byte)
    (left received : List Byte) (hleft : left ≠ []) (h : received.length + left.length = n) :
    characters (left ++ rest) (setAssembly (.payload type received) s) =
      characters rest (setAssembly (.check type (received ++ left)) s) := by
  induction left generalizing received with
  | nil => exact absurd rfl hleft
  | cons b left ih =>
    rw [List.length_cons] at h
    rw [List.cons_append]
    by_cases hlast : left = []
    · subst hlast
      refine characters_stands hout ?_
      rw [takeCharacter, if_neg (by decide), takePayload, hn, if_pos (by simp at h ⊢; omega)]
    · have hpos : 0 < left.length := List.length_pos_iff.2 hlast
      have hone : takeCharacter (.payload type received) b false = .stands (.payload type (received ++ [b])) := by
        rw [takeCharacter, if_neg (by decide), takePayload, hn, if_neg (by simp; omega)]
      rw [characters_stands hout hone, ih (received ++ [b]) hlast (by simp; omega), List.append_assoc]
      rfl

end whole

/-- Settles O42: sync, TYPE and length, the payload by `characters_payload`, and the CRC that makes the command. -/
theorem wholeFrameActsAsCommand : Obligations.WholeFrameActsAsCommand := by
  intro c s hout hhunt frame hframe
  obtain ⟨⟨type, payload⟩, hpayload, rfl⟩ := Option.map_eq_some_iff.1 hframe
  obtain ⟨hlength, hdecode⟩ := decodeRecorder_payload hpayload
  have hmem := (recorderLength_eq_some_iff _ _).1 hlength
  have hsize : 0 < payload.length ∧ payload.length < 256 := by
    simp only [List.mem_cons, List.not_mem_nil, Prod.mk.injEq, or_false] at hmem
    omega
  have hsync : exec (.characterReceived syncByte false) s = .next (setAssembly .type s) :=
    exec_character_stands hout (by rw [hhunt]; rfl)
  have htype : takeCharacter .type type false = .stands (.length type) := by
    rw [takeCharacter, hlength]
    rfl
  have hcount : takeCharacter (.length type) (BitVec.ofNat 8 payload.length) false = .stands (.payload type []) := by
    have hsame : (BitVec.ofNat 8 payload.length).toNat = payload.length := Nat.mod_eq_of_lt hsize.2
    rw [takeCharacter, hsame, hlength]
    simp
  have hwhole : linkFrame type payload = syncByte :: type :: BitVec.ofNat 8 payload.length ::
      (payload ++ [frameCrc type payload]) := rfl
  rw [hwhole, characters, hsync]
  dsimp only
  rw [characters_stands hout htype, characters_stands hout hcount,
    characters_payload hout hlength [_] payload [] (List.length_pos_iff.1 hsize.1) (by simp), List.nil_append]
  have hframe : (recorderPayload c).isSome = true := decodeRecorder_isFrame hdecode
  have hcrc : exec (.characterReceived (frameCrc type payload) false) (setAssembly (.check type payload) s) =
      exec c (setAssembly (.check type payload) s) :=
    exec_character_frame (s := setAssembly (.check type payload) s) hout (if_pos (by simp)) hdecode
  have hcommand : exec c (setAssembly (.check type payload) s) = .next (frameContents c (linkTaken s)) :=
    exec_recorder (s := setAssembly (.check type payload) s) hout hframe
  rw [characters, hcrc, hcommand, exec_recorder hout hframe]
  rfl

end Sys2Proof.Machine
end

section
/-! CERTIFICATE. One millisecond on an empty queue (log 2). -/
namespace Sys2Proof.Machine

/-! ### What falls due -/

theorem mem_dueIf (b : Bool) (i c : Instr) : c ∈ dueIf b i ↔ b = true ∧ c = i := by
  cases b <;> simp [dueIf]

theorem mem_clockDue (k : Clock) (c : Instr) : c ∈ clockDue k ↔
    (k.secondOut = true ∧ c = .secondAdvance) ∨ (k.monitor.recovered = true ∧ c = .oscillatorRecovery) := by
  rw [clockDue, List.mem_append, mem_dueIf, mem_dueIf]

/-- The timers that have run out, each with its command. -/
theorem mem_timersDue (s : State) (c : Instr) : c ∈ timersDue s ↔
    (20 ≤ s.ge.filterTime ∧ c = .filterUpdate) ∨ (2 ≤ s.ge.motionTime ∧ c = .motionInterval) ∨
    (s.lmd.hold.internalTimer = some 0 ∧ c = .internalTimerExpiry) ∨ (s.lmd.hold.portSTimer = some 0 ∧ c = .portSTimerExpiry) ∨
    (s.cu.playedOut = true ∧ c = .chimeEnd) ∨ (s.cu.gap = some 0 ∧ c = .gapEnd) ∨ c ∈ clockDue s.cc ∨
    (s.rlu.gapOut = true ∧ c = .gapTimeout) ∨ (s.rlu.timer = some 0 ∧ c = .linkSupervisionExpiry) ∨
    (s.rlu.cadence = some 0 ∧ c = .statusCadence) ∨ (s.rlu.sent = true ∧ c = .transmitComplete) ∨
    (s.aau.one.basisTimer = some 0 ∧ c = .basisTimerExpiry .one) ∨ (s.aau.two.basisTimer = some 0 ∧ c = .basisTimerExpiry .two) ∨
    (s.portD.timer = some 0 ∧ c = .supervisionTimerExpiry .d) ∨ (s.portS.timer = some 0 ∧ c = .supervisionTimerExpiry .s) ∨
    (s.pwc.selfCheck = .running 0 ∧ c = .selfCheckTimerExpiry) := by
  simp only [timersDue, chimeDue, linkDue, List.mem_append, mem_dueIf, ranOut_iff, decide_eq_true_iff, or_assoc]
  exact Iff.rfl

theorem mem_measuresDue (s : State) (c : Instr) : c ∈ measuresDue s ↔
    c = .inputSample s.pins.inputs ∨ c = .vbsMeasurement s.pins.battery ∨ (s.lmd.slot < 6 ∧ c = .rowSlotEnd (rowDraws s)) := by
  simp [measuresDue, mem_dueIf]

/-- A timer's own command: no measurement, and not the start of a scan frame. -/
def isTimerCommand : Instr → Bool
  | .inputSample _ | .vbsMeasurement _ | .rowSlotEnd _ | .scanFrameStart => false
  | _ => true

theorem isTimerCommand_of_mem {s : State} {c : Instr} (h : c ∈ timersDue s) : isTimerCommand c = true := by
  rw [mem_timersDue, mem_clockDue] at h
  cases c <;> simp_all [isTimerCommand]

theorem not_measuresDue_of_timer {s : State} {c : Instr} (h : isTimerCommand c = true) : c ∉ measuresDue s := by
  rw [mem_measuresDue]
  cases c <;> simp_all [isTimerCommand]

/-- Each timer's command falls due as its timer has run out. -/
theorem timersDue_each (s : State) :
    (.filterUpdate ∈ timersDue s ↔ 20 ≤ s.ge.filterTime) ∧ (.motionInterval ∈ timersDue s ↔ 2 ≤ s.ge.motionTime) ∧
    (.internalTimerExpiry ∈ timersDue s ↔ s.lmd.hold.internalTimer = some 0) ∧
    (.portSTimerExpiry ∈ timersDue s ↔ s.lmd.hold.portSTimer = some 0) ∧
    (.chimeEnd ∈ timersDue s ↔ s.cu.playedOut = true) ∧ (.gapEnd ∈ timersDue s ↔ s.cu.gap = some 0) ∧
    (.secondAdvance ∈ timersDue s ↔ s.cc.secondOut = true) ∧
    (.oscillatorRecovery ∈ timersDue s ↔ s.cc.monitor.recovered = true) ∧
    (.gapTimeout ∈ timersDue s ↔ s.rlu.gapOut = true) ∧ (.linkSupervisionExpiry ∈ timersDue s ↔ s.rlu.timer = some 0) ∧
    (.statusCadence ∈ timersDue s ↔ s.rlu.cadence = some 0) ∧ (.transmitComplete ∈ timersDue s ↔ s.rlu.sent = true) ∧
    (∀ slot, .basisTimerExpiry slot ∈ timersDue s ↔ (s.aau.record slot).basisTimer = some 0) ∧
    (∀ p, .supervisionTimerExpiry p ∈ timersDue s ↔ (s.port p).timer = some 0) ∧
    (.selfCheckTimerExpiry ∈ timersDue s ↔ s.pwc.selfCheck = .running 0) := by
  simp only [mem_timersDue, mem_clockDue, reduceCtorEq, and_false, false_or, or_false, and_true, true_and]
  refine ⟨fun slot => ?_, fun p => ?_⟩
  · cases slot <;> simp [Accounting.record]
  · cases p <;> simp [State.port]

theorem mem_placeAfter (k : Nat) (first later : Instr) (l : List Instr) (c : Instr) :
    c ∈ placeAfter k first later l ↔ c = later ∨ c ∈ l := by
  have hsplit (n : Nat) : c ∈ l ↔ c ∈ l.take n ∨ c ∈ l.drop n := by rw [← List.mem_append, List.take_append_drop]
  rw [placeAfter, List.mem_append, List.mem_cons, hsplit]
  tauto

section queue
variable (s : State) (c : Instr)

theorem queueDue_pending (timers measures : List Instr) : c ∈ (queueDue timers measures s).pending ↔ c ∈ measures ∨ c ∈ timers := by
  have hpending : (queueDue timers measures s).pending = arrange s.choices (measures ++ timers) := rfl
  rw [hpending, (arrange_perm _ _).mem_iff, List.mem_append]

theorem queueFrameStart_pending : c ∈ (queueFrameStart s).pending ↔ (5 ≤ s.lmd.slot ∧ c = .scanFrameStart) ∨ c ∈ s.pending := by
  unfold queueFrameStart
  split
  · next h =>
    rw [State.setDue_pending, State.setChoices_pending, State.setPending_pending, mem_placeAfter]
    simp [h]
  · next h => simp [h]

theorem queueFrameStart_due : c ∈ (queueFrameStart s).due ↔ (5 ≤ s.lmd.slot ∧ c = .scanFrameStart) ∨ c ∈ s.due := by
  unfold queueFrameStart
  split
  · next h =>
    rw [State.setDue_due, List.mem_cons]
    simp [h]
  · next h => simp [h]

end queue

section out
variable {s : State} (hout : isOut s = true)
include hout

theorem timersDue_tick : timersDue (tick s) = timersDue (passOut s) := by
  have h := tick_frame_out hout
  obtain ⟨-, hportD, -⟩ := h .ports (by decide) .d
  obtain ⟨-, hportS, -⟩ := h .ports (by decide) .s
  have hportD : (tick s).portD.timer = (passOut s).portD.timer := hportD
  have hportS : (tick s).portS.timer = (passOut s).portS.timer := hportS
  rw [timersDue, timersDue, h.ge (by decide), h.lmd (by decide), h.cu (by decide), h.cc (by decide), h.rlu (by decide),
    h.aau (by decide), h.pwc (by decide), hportD, hportS]

/-- What a millisecond out of reset puts in the queue. -/
theorem tick_pending_out (c : Instr) : c ∈ (tick s).pending ↔
    (5 ≤ s.lmd.slot ∧ c = .scanFrameStart) ∨ c ∈ measuresDue s ∨ c ∈ timersDue (tick s) := by
  rw [timersDue_tick hout, tick, if_pos hout, queueFrameStart_pending, queueDue_pending]
  exact Iff.rfl

theorem tick_due_out (c : Instr) : c ∈ (tick s).due ↔ (5 ≤ s.lmd.slot ∧ c = .scanFrameStart) ∨ c ∈ timersDue (tick s) := by
  rw [timersDue_tick hout, tick, if_pos hout, queueFrameStart_due]
  exact Iff.rfl

end out

section held
variable {s : State} (hin : isOut s = false)
include hin

theorem tick_pending_held (c : Instr) : c ∈ (tick s).pending ↔ c ∈ heldDue (passHeld s) := by
  rw [tick, if_neg (by simp [hin]), queueDue_pending]
  simp

theorem tick_due_held : (tick s).due = heldDue (passHeld s) := by
  rw [tick, if_neg (by simp [hin])]
  rfl

end held

/-! ### The clock -/

/-- R98, R107: a millisecond of the clock, and what falls due in it. -/
def ClockMoves (s t : State) : Prop :=
  (s.cc.running = true →
    t.cc = { s.cc with prescaler := min 32768 (s.cc.prescaler + (s.cc.crystalPhase + 4096) / 125)
                       crystalPhase := (s.cc.crystalPhase + 4096) % 125 }) ∧
  (s.cc.running = false →
    (∀ n, s.cc.monitor = .recovering n → t.cc = { s.cc with monitor := .recovering (min 100 (n + 1)) }) ∧
    ((∀ n, s.cc.monitor ≠ .recovering n) → t.cc = s.cc)) ∧
  (.secondAdvance ∈ t.pending ↔ t.cc.running = true ∧ 32768 ≤ t.cc.prescaler) ∧
  (.oscillatorRecovery ∈ t.pending ↔ ∃ n, 100 ≤ n ∧ t.cc.monitor = .recovering n)

theorem recovered_iff (m : Monitor) : m.recovered = true ↔ ∃ n, 100 ≤ n ∧ m = .recovering n := by
  cases m with
  | recovering n =>
    rw [Monitor.recovered, decide_eq_true_iff]
    exact ⟨fun h => ⟨n, h, rfl⟩, fun ⟨_, h, hn⟩ => Monitor.recovering.inj hn ▸ h⟩
  | running | stopped => simp [Monitor.recovered]

theorem clockMoves_of {s t : State} (hcc : t.cc = s.cc.pass) (hsecond : .secondAdvance ∈ t.pending ↔ t.cc.secondOut = true)
    (hrecovery : .oscillatorRecovery ∈ t.pending ↔ t.cc.monitor.recovered = true) : ClockMoves s t := by
  refine ⟨fun hr => hcc.trans (if_pos hr), fun hr => ?_, hsecond.trans (secondOut_iff _), hrecovery.trans (recovered_iff _)⟩
  have hstill : s.cc.pass = { s.cc with monitor := s.cc.monitor.pass } := if_neg (by simp [hr])
  rw [hcc, hstill]
  refine ⟨fun n hn => by rw [hn]; rfl, fun hnot => ?_⟩
  have hsame : s.cc.monitor.pass = s.cc.monitor := by
    cases hm : s.cc.monitor with
    | recovering n => exact absurd hm (hnot n)
    | running | stopped => rfl
  rw [hsame]

/-! ### The obligation -/

/-- R116: a pause of 5 ms in a frame, the character gap one millisecond on. -/
theorem gapOut_pass (r : RecorderLink) : r.pass.gapOut = true ↔
    r.assembly ≠ .hunt ∧ r.pass.gapTime = 5 ∧ r.receiver.underWay = false := by
  have htime : r.pass.gapTime = if r.assembly = .hunt then 0 else min 5 (r.gapTime + 1) := rfl
  have hout : r.pass.gapOut = true ↔ (r.assembly ≠ .hunt ∧ r.receiver.underWay = false) ∧ 5 ≤ r.pass.gapTime := by
    rw [RecorderLink.gapOut, RecorderLink.pauses, Bool.and_eq_true, Bool.and_eq_true, decide_eq_true_iff, decide_eq_true_iff,
      Bool.not_eq_true']
    rfl
  have hat : 5 ≤ r.pass.gapTime ↔ r.pass.gapTime = 5 := by
    rw [htime]
    split <;> omega
  rw [hout, hat]
  tauto

theorem playedOut_pass (u : ChimeUnit) : u.pass.playedOut = true ↔ ∃ q ∈ u.pass.playing, q.elapsed = q.chime.sound.length := by
  rw [playedOut_iff]
  refine exists_congr fun q => and_congr_right fun hq => ?_
  obtain ⟨q', -, rfl⟩ := Option.map_eq_some_iff.1 hq
  show q'.chime.sound.length ≤ min q'.chime.sound.length (q'.elapsed + 1) ↔
    min q'.chime.sound.length (q'.elapsed + 1) = q'.chime.sound.length
  omega

/-- Settles O2: the timers by `passOut`, the queue by `tick_pending_out`; in a reset by `passHeld` and `heldDue`. -/
theorem millisecondCountsTimersDown : Obligations.MillisecondCountsTimersDown := by
  have hstep {s : State} (hempty : s.pending = []) : step s = .next (tick s) := by rw [step, hempty]
  refine ⟨fun s hout hempty => ⟨_, hstep hempty, ?_⟩, fun s hin hempty => ⟨_, hstep hempty, ?_⟩⟩
  · have h := tick_frame_out hout
    have hpass := OnlyChanges.after h (by decide) ((passOut_frame s).mono
      (B := [.gauges, .matrix, .chimes, .clock, .recorder, .drivers, .ports, .power, .due, .queue]) (by decide))
    have hge : (tick s).ge = s.ge.pass := h.ge (by decide)
    have hlmd : (tick s).lmd = s.lmd.pass := h.lmd (by decide)
    have hcu : (tick s).cu = s.cu.pass := h.cu (by decide)
    have hcc : (tick s).cc = s.cc.pass := h.cc (by decide)
    have hrlu : (tick s).rlu = s.rlu.pass := h.rlu (by decide)
    have haau : (tick s).aau = s.aau.pass := h.aau (by decide)
    have hpwc : (tick s).pwc = s.pwc.pass := h.pwc (by decide)
    have hport (p : Port) : ((tick s).port p).live = (s.port p).live ∧ ((tick s).port p).timer = (s.port p).timer.map (· - 1) ∧
        ((tick s).port p).period = (s.port p).period ∧ ((tick s).port p).fresh = (s.port p).fresh := by
      have hports := h .ports (by decide) p
      rw [passOut_port] at hports
      exact hports
    have hmem {c : Instr} (hc : isTimerCommand c = true) : c ∈ (tick s).pending ↔ c ∈ timersDue (tick s) := by
      have hscan : c ≠ .scanFrameStart := by rintro rfl; exact absurd hc (by decide)
      rw [tick_pending_out hout]
      simp [hscan, not_measuresDue_of_timer hc]
    obtain ⟨hfilter, hmotion, hinternal, hportS, hchime, hgap, hsecond, hrecovery, hpause, hlink, hcadence, hsent, hbasis,
      hsupervision, hcheck⟩ := timersDue_each (tick s)
    refine ⟨fun p => ⟨(hport p).2.1, (hmem rfl).trans (hsupervision p)⟩, ⟨by rw [hrlu]; rfl, (hmem rfl).trans hlink⟩,
      ⟨by rw [hrlu]; rfl, (hmem rfl).trans hcadence⟩, ⟨by rw [hrlu]; rfl, (hmem rfl).trans (hpause.trans ?_)⟩,
      ⟨by rw [hrlu]; rfl, (hmem rfl).trans (hsent.trans (sent_iff _))⟩, ⟨by rw [hlmd]; rfl, (hmem rfl).trans hinternal⟩,
      ⟨by rw [hlmd]; rfl, (hmem rfl).trans hportS⟩, ⟨by rw [hcu]; rfl, (hmem rfl).trans hgap⟩,
      ⟨by rw [hcu]; rfl, (hmem rfl).trans (hchime.trans ?_)⟩, by rw [hcu]; rfl,
      ⟨by rw [haau]; rfl, (hmem rfl).trans (hbasis .one)⟩, ⟨by rw [haau]; rfl, (hmem rfl).trans (hbasis .two)⟩,
      ⟨fun n hn => ?_, fun hnot => ?_, (hmem rfl).trans hcheck⟩, ⟨by rw [hge]; rfl, (hmem rfl).trans (hfilter.trans ?_)⟩,
      ⟨by rw [hge]; rfl, (hmem rfl).trans (hmotion.trans ?_)⟩,
      clockMoves_of hcc ((hmem rfl).trans hsecond) ((hmem rfl).trans hrecovery), fun hslot => ?_, ?_, ?_, ?_, fun c => ?_,
      by rw [hge]; rfl, by rw [hlmd]; rfl, by rw [hrlu]; rfl, by rw [hrlu]; rfl, fun p => ?_, hpass⟩
    · rw [hrlu]
      exact gapOut_pass s.rlu
    · rw [hcu]
      exact playedOut_pass s.cu
    · rw [hpwc]
      show s.pwc.selfCheck.pass = _
      rw [hn]
      rfl
    · rw [hpwc]
      show s.pwc.selfCheck.pass = _
      cases hk : s.pwc.selfCheck with
      | running n => exact absurd hk (hnot n)
      | stopped | runOut => rfl
    · rw [hge]
      show 20 ≤ min 20 (s.ge.filterTime + 1) ↔ min 20 (s.ge.filterTime + 1) = 20
      omega
    · rw [hge]
      show 2 ≤ min 2 (s.ge.motionTime + 1) ↔ min 2 (s.ge.motionTime + 1) = 2
      omega
    · exact ⟨rowDraws s, (tick_pending_out hout _).2 (.inr (.inl ((mem_measuresDue _ _).2 (.inr (.inr ⟨hslot, rfl⟩)))))⟩
    · have hnot : Instr.scanFrameStart ∉ timersDue (tick s) := fun hin => absurd (isTimerCommand_of_mem hin) (by decide)
      rw [tick_pending_out hout, mem_measuresDue]
      simp [hnot]
    · exact (tick_pending_out hout _).2 (.inr (.inl ((mem_measuresDue _ _).2 (.inl rfl))))
    · exact (tick_pending_out hout _).2 (.inr (.inl ((mem_measuresDue _ _).2 (.inr (.inl rfl)))))
    · rw [tick_due_out hout, tick_pending_out hout, mem_measuresDue]
      constructor
      · rintro (⟨hslot, rfl⟩ | hin)
        · exact ⟨.inl ⟨hslot, rfl⟩, by simp, by simp, by simp⟩
        · have htimer := isTimerCommand_of_mem hin
          refine ⟨.inr (.inr hin), ?_, ?_, fun draws => ?_⟩ <;> rintro rfl <;> exact absurd htimer (by simp [isTimerCommand])
      · rintro ⟨hscan | (hin | hbattery | ⟨-, hrow⟩) | hin, hinput, hvbs, hdraws⟩
        · exact .inl hscan
        · exact absurd hin hinput
        · exact absurd hbattery hvbs
        · exact absurd hrow (hdraws _)
        · exact .inr hin
    · obtain ⟨hlive, -, hperiod, hfresh⟩ := hport p
      exact ⟨hlive, hperiod, hfresh⟩
  · have h := tick_frame_held hin
    have hrst : (tick s).rst = { s.rst with progress := s.rst.progress.pass } := h.rst (by decide)
    have hcc : (tick s).cc = if s.rst.causes.powerOn then s.cc else s.cc.pass := h.cc (by decide)
    have hdue (c : Instr) : c ∈ (tick s).pending ↔ ((tick s).rst.progress = .hold 0 ∧ c = .resetHoldEnd) ∨
        (s.rst.causes.powerOn = false ∧ c ∈ clockDue (tick s).cc) := by
      rw [tick_pending_held hin, heldDue, List.mem_append, mem_dueIf, decide_eq_true_iff, hrst, hcc]
      cases hpower : s.rst.causes.powerOn <;> simp [passHeld, hpower]
    refine ⟨fun n hn => ?_, fun hcause => ?_, ?_, fun hpower => ⟨?_, ?_, ?_⟩, fun hpower => clockMoves_of ?_ ?_ ?_, fun c => ?_,
      tick_frame_reset hin⟩
    · rw [hrst, hn]
      rfl
    · rw [hrst, hcause]
      show { s.rst with progress := ResetProgress.cause } = s.rst
      rw [← hcause]
    · simp [hdue, mem_clockDue]
    · rw [hcc, if_pos hpower]
    · simp [hdue, hpower]
    · simp [hdue, hpower]
    · rw [hcc, if_neg (by simp [hpower])]
    · simp [hdue, hpower, mem_clockDue]
    · simp [hdue, hpower, mem_clockDue]
    · rw [tick_due_held hin, tick_pending_held hin]

end Sys2Proof.Machine
end
